-- ==== Sys2Proof/Word.lean ====
section
/-! DEFINITION. The word types: a byte of a packet, frame or item, and a 32-bit register word (R3, R4, chapter 03). -/

namespace Sys2Proof

/-- One byte of a packet, frame, image, record or configuration item (R3). -/
abbrev Byte := BitVec 8

/-- One 32-bit register word (chapter 03, block map). -/
abbrev Word := BitVec 32

end Sys2Proof
end

