-- ==== Sys2Proof/Machine/Bits.lean ====
section
/-! DEFINITION. Bit fields, sign extension, byte order, saturation, rounding, CRC and HMAC helpers shared by every meaning. -/

namespace Sys2Proof.Machine

/-- The byte holding the low 8 bits of a number. -/
def byteOf (n : Nat) : Byte := BitVec.ofNat 8 n

/-- Little-endian bytes of a number, `k` of them (R3). -/
def leBytes : Nat → Nat → List Byte
  | 0, _ => []
  | k + 1, n => byteOf n :: leBytes k (n / 256)

/-- Big-endian bytes of a number, `k` of them (used only where a named standard orders them so, R3). -/
def beBytes (k n : Nat) : List Byte := (leBytes k n).reverse

/-- The number that little-endian bytes spell (R3). -/
def leNat : List Byte → Nat
  | [] => 0
  | b :: bs => b.toNat + 256 * leNat bs

/-- The number that big-endian bytes spell. -/
def beNat (bs : List Byte) : Nat := bs.foldl (fun a b => a * 256 + b.toNat) 0

/-- `n` bytes from offset `i`. -/
def slice (bs : List Byte) (i n : Nat) : List Byte := (bs.drop i).take n

def getU8 (bs : List Byte) (i : Nat) : Nat := leNat (slice bs i 1)
def getU16 (bs : List Byte) (i : Nat) : Nat := leNat (slice bs i 2)
def getU32 (bs : List Byte) (i : Nat) : Nat := leNat (slice bs i 4)
def getU64 (bs : List Byte) (i : Nat) : Nat := leNat (slice bs i 8)

/-- The two's complement value of the low `w` bits of `n` (R4). -/
def signed (w n : Nat) : Int :=
  let m := n % 2 ^ w
  if m < 2 ^ (w - 1) then (m : Int) else (m : Int) - (2 ^ w : Nat)

/-- The `w` bits of the two's complement of `i` (R4). -/
def unsigned (w : Nat) (i : Int) : Nat := (i % ((2 ^ w : Nat) : Int)).toNat

def getS16 (bs : List Byte) (i : Nat) : Int := signed 16 (getU16 bs i)
def getS32 (bs : List Byte) (i : Nat) : Int := signed 32 (getU32 bs i)
def getS64 (bs : List Byte) (i : Nat) : Int := signed 64 (getU64 bs i)

def u8 (n : Nat) : List Byte := leBytes 1 n
def u16 (n : Nat) : List Byte := leBytes 2 n
def u32 (n : Nat) : List Byte := leBytes 4 n
def u64 (n : Nat) : List Byte := leBytes 8 n
def s16 (i : Int) : List Byte := leBytes 2 (unsigned 16 i)
def s32 (i : Int) : List Byte := leBytes 4 (unsigned 32 i)
def s64 (i : Int) : List Byte := leBytes 8 (unsigned 64 i)
def zeros (n : Nat) : List Byte := List.replicate n 0

/-- Bits `[lo + w - 1 : lo]` of a number. -/
def bits (n lo w : Nat) : Nat := (n >>> lo) % 2 ^ w

/-- One bit as a number. -/
def b2n (b : Bool) : Nat := if b then 1 else 0

/-- A number with bits `[lo + w - 1 : lo]` replaced. -/
def setBits (n lo w v : Nat) : Nat := n - (bits n lo w) * 2 ^ lo + (v % 2 ^ w) * 2 ^ lo

/-- A bitmap with one bit set or cleared. -/
def setBit (n i : Nat) (b : Bool) : Nat := setBits n i 1 (b2n b)

/-- The bitmap of the indices below `n` for which `p` holds. -/
def bitmap (n : Nat) (p : Nat → Bool) : Nat := (List.range n).foldl (fun a i => if p i then a + 2 ^ i else a) 0

/-- Clamp into a range. -/
def clampI (lo hi x : Int) : Int := if x < lo then lo else if hi < x then hi else x

/-- Saturate to the signed `w`-bit range. -/
def satS (w : Nat) (x : Int) : Int := clampI (-(2 ^ (w - 1) : Nat)) ((2 ^ (w - 1) : Nat) - 1) x

/-- Saturate to the unsigned `w`-bit range. -/
def satU (w : Nat) (x : Int) : Int := clampI 0 ((2 ^ w : Nat) - 1) x

/-- Saturate a count to `w` bits. -/
def satN (w n : Nat) : Nat := if n < 2 ^ w then n else 2 ^ w - 1

/-- Whether a value lies in the signed `w`-bit range. -/
def fitsS (w : Nat) (x : Int) : Bool := decide (x = satS w x)

/-- Quotient rounded to the nearest, halves away from zero. -/
def divNearAway (a : Int) (b : Nat) : Int :=
  if a < 0 then -(((2 * a.natAbs + b) / (2 * b) : Nat) : Int) else (((2 * a.natAbs + b) / (2 * b) : Nat) : Int)

/-- Quotient rounded to the nearest, halves to the even quotient. -/
def divNearEven (a : Int) (b : Nat) : Int :=
  let q := a / (b : Int)
  let r := (a % (b : Int)).toNat
  if 2 * r < b then q else if b < 2 * r then q + 1 else if q % 2 = 0 then q else q + 1

/-- Quotient rounded toward zero. -/
def divTrunc (a : Int) (b : Int) : Int := Int.tdiv a b

/-- The largest natural number whose square is at most `n` (binary digits from the top, `k` of them). -/
def isqrtGo : Nat → Nat → Nat → Nat
  | 0, _, r => r
  | k + 1, n, r => let c := r + 2 ^ k; if c * c ≤ n then isqrtGo k n c else isqrtGo k n r

def isqrt (n : Nat) : Nat := isqrtGo (Nat.log2 n / 2 + 1) n 0

/-- One step of a reflected CRC over a number: eight shifts of the register with the byte folded in. -/
def crcReflBits (poly : Nat) : Nat → Nat → Nat
  | 0, c => c
  | k + 1, c => crcReflBits poly k (if c % 2 = 1 then (c / 2) ^^^ poly else c / 2)

def crcReflByte (poly c : Nat) (b : Byte) : Nat := crcReflBits poly 8 (c ^^^ b.toNat)

def crcRefl (poly init : Nat) (bs : List Byte) : Nat := bs.foldl (crcReflByte poly) init

/-- CRC-32C of R32: polynomial 0x1EDC6F41 reflected, initial value and final XOR all ones. -/
def crc32c (bs : List Byte) : Nat := (crcRefl 0x82F63B78 0xFFFFFFFF bs) ^^^ 0xFFFFFFFF

/-- One byte of a CRC that shifts left in a register of `w` bits (most significant bit first). -/
def crcNormBits (w poly : Nat) : Nat → Nat → Nat
  | 0, c => c
  | k + 1, c =>
    crcNormBits w poly k (if 2 ^ (w - 1) ≤ c then ((c * 2) % 2 ^ w) ^^^ poly else (c * 2) % 2 ^ w)

def crcNorm (w poly init : Nat) (bs : List Byte) : Nat :=
  bs.foldl (fun c b => crcNormBits w poly 8 (c ^^^ (b.toNat * 2 ^ (w - 8)))) init

/-! SHA-256 and HMAC (R48 names HMAC-SHA-256). The standard's constants are leading fraction bits of roots of the primes, and a block is worked
as two sequences, each entry made from the four before it in both. -/

/-- The first `k` primes from a candidate on, within `fuel` candidates. -/
def primesFrom : Nat → Nat → Nat → List Nat
  | 0, _, _ => []
  | _, 0, _ => []
  | fuel + 1, k + 1, n =>
    if (List.range n).all (fun d => decide (d < 2) || decide (n % d ≠ 0)) then n :: primesFrom fuel k (n + 1) else primesFrom fuel (k + 1) (n + 1)

/-- The largest number whose `e`-th power is at most `n`, from binary digit `k` down. -/
def rootGo (e n : Nat) : Nat → Nat → Nat
  | 0, r => r
  | k + 1, r => rootGo e n k (if (r + 2 ^ k) ^ e ≤ n then r + 2 ^ k else r)

/-- The first 32 fraction bits of the `e`-th root of a prime below 512. -/
def rootFraction (e p : Nat) : BitVec 32 := BitVec.ofNat 32 (rootGo e (p * 2 ^ (32 * e)) 41 0)

/-- The exclusive or of a word turned right by each of some amounts. -/
def xorTurns (x : BitVec 32) (by_ : List Nat) : BitVec 32 := by_.foldl (fun a n => a ^^^ x.rotateRight n) 0

/-- Schedule entry made from the sixteen before it, the newest first. -/
def shaNext (w : List (BitVec 32)) : BitVec 32 :=
  let at_ := fun back => w.getD (back - 1) 0
  at_ 16 + at_ 7 + (xorTurns (at_ 15) [7, 18] ^^^ (at_ 15 >>> 3)) + (xorTurns (at_ 2) [17, 19] ^^^ (at_ 2 >>> 10))

/-- The last four entries of each of a block's two sequences, newest first. -/
structure Sha where
  up : List (BitVec 32)
  low : List (BitVec 32)
  deriving DecidableEq, Repr

/-- One more entry of both sequences; `kw` is the round's constant plus its schedule word. -/
def Sha.grow (q : Sha) (kw : BitVec 32) : Sha :=
  let u := fun i => q.up.getD i 0
  let l := fun i => q.low.getD i 0
  let pick := l 2 ^^^ (l 0 &&& (l 1 ^^^ l 2))
  let most := (u 0 &&& u 1) ||| (u 2 &&& (u 0 ||| u 1))
  let mix := kw + l 3 + pick + xorTurns (l 0) [6, 11, 25]
  { up := (mix + most + xorTurns (u 0) [2, 13, 22]) :: q.up.take 3, low := (u 3 + mix) :: q.low.take 3 }

/-- The rounds of a block, over the round constants that remain; `w` holds the schedule entries of this round and the fifteen after it, newest first. -/
def Sha.rounds : List (BitVec 32) → List (BitVec 32) → Sha → Sha
  | [], _, q => q
  | k :: ks, w, q => Sha.rounds ks (shaNext w :: w.take 15) (q.grow (k + w.getD 15 0))

/-- Entries added pairwise. -/
def addWords (a b : List (BitVec 32)) : List (BitVec 32) := List.zipWith (· + ·) a b

/-- The chaining value after the blocks of a padded message, `n` of them. -/
def Sha.blocks (ks : List (BitVec 32)) : Nat → List Byte → Sha → Sha
  | 0, _, q => q
  | n + 1, m, q =>
    let w := (List.range 16).map (fun i => BitVec.ofNat 32 (beNat (slice m (60 - 4 * i) 4)))
    let r := Sha.rounds ks w q
    Sha.blocks ks n (m.drop 64) { up := addWords q.up r.up, low := addWords q.low r.low }

/-- SHA-256 of a message. -/
def sha256 (msg : List Byte) : List Byte :=
  let n := (msg.length + 72) / 64
  let whole := msg ++ 0x80#8 :: zeros (64 * n - 9 - msg.length) ++ beBytes 8 (8 * msg.length)
  let ps := primesFrom 311 64 2
  let start := (ps.take 8).map (rootFraction 2)
  let q := Sha.blocks (ps.map (rootFraction 3)) n whole { up := start.take 4, low := start.drop 4 }
  (q.up ++ q.low).flatMap (fun x => beBytes 4 x.toNat)

/-- A key of at most 64 bytes filled to a block, each byte exclusive-ored with a pad. -/
def hmacPad (key : List Byte) (pad : Byte) : List Byte := (key ++ zeros (64 - key.length)).map (· ^^^ pad)

/-- HMAC-SHA-256 with a key of at most 64 bytes. -/
def hmacSha256 (key msg : List Byte) : List Byte := sha256 (hmacPad key 0x5C#8 ++ sha256 (hmacPad key 0x36#8 ++ msg))

/-! Sparse stores: a list of (address, value) at strictly rising addresses, none equal to what an unlisted address reads as. -/

/-- What an address reads as. -/
def sparseGet {β : Type} (dflt : Nat → β) : List (Nat × β) → Nat → β
  | [], a => dflt a
  | (k, v) :: m, a => if k = a then v else sparseGet dflt m a

/-- The list without an address. -/
def sparseErase {β : Type} : List (Nat × β) → Nat → List (Nat × β)
  | [], _ => []
  | (k, v) :: m, a => if k = a then sparseErase m a else (k, v) :: sparseErase m a

/-- The list with an entry at an address, kept rising. -/
def sparseInsert {β : Type} : List (Nat × β) → Nat → β → List (Nat × β)
  | [], a, v => [(a, v)]
  | (k, w) :: m, a, v => if a < k then (a, v) :: (k, w) :: m else (k, w) :: sparseInsert m a v

/-- Writing an address: the value an unlisted address reads as removes the entry. -/
def sparseSet {β : Type} [DecidableEq β] (dflt : Nat → β) (m : List (Nat × β)) (a : Nat) (v : β) : List (Nat × β) :=
  if v = dflt a then sparseErase m a else sparseInsert (sparseErase m a) a v

/-- Strictly rising addresses. -/
def sparseSorted {β : Type} : List (Nat × β) → Bool
  | [] => true
  | [_] => true
  | a :: b :: m => decide (a.1 < b.1) && sparseSorted (b :: m)

/-- The canonical form of a sparse store. -/
def sparseWf {β : Type} [DecidableEq β] (dflt : Nat → β) (m : List (Nat × β)) : Bool :=
  sparseSorted m && m.all (fun p => decide (p.2 ≠ dflt p.1))

/-- Entry `i` of a list replaced by a function of it. -/
def modNth {α : Type} (xs : List α) (i : Nat) (f : α → α) : List α := xs.modify i f

/-- An entry put in its place in a sorted list, before the entries it is not after. -/
def insSorted {α : Type} (lt : α → α → Bool) (x : α) : List α → List α
  | [] => [x]
  | y :: ys => if lt y x then y :: insSorted lt x ys else x :: y :: ys

/-- Insertion sort by a strict order; entries neither before the other keep their order. -/
def sortBy {α : Type} (lt : α → α → Bool) (xs : List α) : List α := xs.foldr (insSorted lt) []

/-- Put a newest entry in front of a list of at most `n`. -/
def pushMax {α : Type} (n : Nat) (x : α) (xs : List α) : List α := (x :: xs).take n

end Sys2Proof.Machine
end

