-- ==== Sys2Proof/Machine/Types/Fx.lean ====
section
/-! DEFINITION. The effects a unit hands to the register file and the event reporter, and vectors over the three axes. -/

namespace Sys2Proof.Machine

/-- What a unit's computation asks of the rest of the module: an occurrence of an event (R50); the start or the end of an event's
condition under a cause key, each also an occurrence; the end of a condition that is no occurrence; `n` added to the CNT register at an
address; a W1C bit set; a field of a register replaced by hardware; an RWH field raised to a maximum or lowered to a minimum. -/
inductive Fx where
  | event (ev : Nat) (detail : List Byte)
  | start (ev key : Nat) (detail : List Byte)
  | ended (ev key : Nat) (detail : List Byte)
  | clear (ev key : Nat)
  | count (addr n : Nat)
  | flag (addr bit : Nat)
  | field (addr lo w v : Nat)
  | maxi (addr lo w v : Nat)
  | mini (addr lo w v : Nat)
  deriving DecidableEq, Repr

/-- Surge, sway and yaw. -/
structure V3 where
  x : Int := 0
  y : Int := 0
  n : Int := 0
  deriving DecidableEq, Repr

/-- Component 0 surge, 1 sway, 2 yaw. -/
def V3.get (v : V3) (d : Nat) : Int := match d with
  | 0 => v.x
  | 1 => v.y
  | _ => v.n

def V3.set (v : V3) (d : Nat) (a : Int) : V3 := match d with
  | 0 => { v with x := a }
  | 1 => { v with y := a }
  | _ => { v with n := a }

/-- A vector from a function of the axis. -/
def V3.of (f : Nat → Int) : V3 := ⟨f 0, f 1, f 2⟩

/-- s16.16, s16.16, s20.12 as three words. -/
def V3.bytes (v : V3) : List Byte := s32 v.x ++ s32 v.y ++ s32 v.n

end Sys2Proof.Machine
end

