-- ==== Sys2Proof/Machine/Types/Aio.lean ====
section
/-! DEFINITION. State of the analogue core and discrete I/O (chapter 14) and what its converters measure. -/

namespace Sys2Proof.Machine

/-- What a decimation filter gives at a window's end, before calibration: the reading as s1.23 of an input; sin and cos of a resolver and
whether its excitation driver is at its current limit. -/
structure AioRaw where
  x : Int
  c : Int
  exLimit : Bool
  deriving DecidableEq, Repr

/-- An output of a channel (R352, R356): window end, word, flags as AIO_AI_FLG. -/
structure AioOut where
  te : Nat := 0
  w : Nat := 0
  unsettled : Bool := false
  ovr : Bool := false
  sig : Bool := false
  deriving DecidableEq, Repr

/-- A channel: its newest output and the one before it, outputs since the restart of its filter, a resolver's squared amplitude at the
last commit of its record. -/
structure AioChan where
  new : AioOut := {}
  old : AioOut := {}
  settle : Nat := 0
  ref : Option Nat := none
  deriving DecidableEq, Repr

/-- A calibration in progress (R366): the open request, the point, the sum and number of outputs so far, the reference as s1.23. -/
structure CalRun where
  kind : Nat
  chan : Nat
  id : Nat
  point2 : Bool
  sum : Int
  n : Nat
  ref : Int
  deriving DecidableEq, Repr

/-- A recorded point: kind, channel, point, mean, reference. -/
structure CalPoint where
  kind : Nat
  chan : Nat
  point2 : Bool
  mean : Int
  ref : Int
  deriving DecidableEq, Repr

/-- An analogue output: latched code, AOFLT, INHIB, runs of bad and good readbacks. -/
structure AoSt where
  code : Nat := 0
  flt : Bool := false
  inhib : Bool := false
  bad : Nat := 0
  good : Nat := 0
  deriving DecidableEq, Repr

/-- A digital output: latched level, DOFLT, tripped, runs of bad and good readbacks. -/
structure DoSt where
  on : Bool := false
  flt : Bool := false
  tripped : Bool := false
  tripAt : Nat := 0
  bad : Nat := 0
  good : Nat := 0
  deriving DecidableEq, Repr

/-- A digital input: raw level, filtered state, since when the raw level holds. -/
structure DiSt where
  raw : Bool := false
  filt : Bool := false
  since : Nat := 0
  deriving DecidableEq, Repr

/-- The AIO: channels 0 to 31 inputs, 32 to 39 resolvers; `running` tells whether the filters were started. -/
structure Aio where
  chans : List AioChan := List.replicate 40 {}
  ao : List AoSt := List.replicate 16 {}
  dout : List DoSt := List.replicate 24 {}
  din : List DiSt := List.replicate 32 {}
  running : Bool := false
  drven : Bool := false
  runs : List CalRun := []
  points : List CalPoint := []
  deriving DecidableEq, Repr

end Sys2Proof.Machine
end

