-- ==== Sys2Proof/Machine/Types/Srv.lean ====
section
/-! DEFINITION. State of the servo engine (chapter 09) and of the result collectors (R27, R28). -/

namespace Sys2Proof.Machine

/-- A servo loop (R230 to R238). State codes are those of SRV_LOOP_STAT. `causes` is SRV_LOOP_STAT [4:2]; `clA` and `clC` are the signs of
the clamps of the position stage and the command stage in the previous tick; `sp`, `fb` are bam32 or s16.16 %, `cmd` s1.15. `skip` is the rate check
to be skipped at the next tick with feedback, `first` that no feedback of this source was read yet, `snap` that y_m is to be set to the feedback of the next
tick (R246), `pass` whether the range and rate checks of the newest tick passed, `stopAt` the boundary at which a changed record stopped the loop (R242),
`back` the tick at which an ENABLE waits for that tick's checks (R237). -/
structure Loop where
  state : Nat := 0
  causes : Nat := 0
  hold : Bool := false
  clA : Int := 0
  clC : Int := 0
  ia : Int := 0
  iw : Int := 0
  ym : Int := 0
  fb : Int := 0
  sp : Int := 0
  cmd : Int := 0
  cRange : Nat := 0
  cRate : Nat := 0
  cModel : Nat := 0
  skip : Bool := true
  first : Bool := true
  snap : Bool := false
  pass : Bool := true
  stopAt : Option Nat := none
  back : Option Nat := none
  deriving DecidableEq, Repr

/-- The servo engine: the loops, the loops before the newest pass and their tick, the tick of the loops, ticks since the last overrun. -/
structure Srv where
  loops : List Loop := List.replicate 48 {}
  before : List Loop := List.replicate 48 {}
  beforeAt : Nat := 0
  tick : Nat := 0
  since : Nat := 0
  deriving DecidableEq, Repr

/-- A result collector (R27, R28): what each holding slot holds, the result last drained of each source, the MONO time at which the 20 ns interval of the
drain pass under way began, and the pass position: the index from which the pass goes on. -/
structure Collector where
  slots : List (Option (List Byte)) := []
  out : List (List Byte) := []
  at_ : Nat := 0
  pos : Nat := 0
  deriving DecidableEq, Repr

end Sys2Proof.Machine
end

