-- ==== Sys2Proof/Machine/Types/Fld.lean ====
section
/-! DEFINITION. State of the Chain field link (chapter 13) and what its ports receive. -/

namespace Sys2Proof.Machine

/-- A filled scan slot (Table 13.5). -/
structure ScanEntry where
  addr : Nat
  ports : Nat
  outMax : Nat
  inMax : Nat
  vendor : Nat
  product : Nat
  serial : Nat
  profile : Nat
  revision : Nat
  fwdDelay : Nat
  deriving DecidableEq, Repr

/-- A returned copy of a cyclic frame: the port it was sent from and the port it came back on, whether its frame check sequence was good, the
MONO time of its start-of-frame delimiter, its round trip in ns, and the bytes after the EtherType up to the frame check sequence. -/
structure ChainCopy where
  fromB : Bool
  onB : Bool
  fcsOk : Bool
  sfd : Nat
  rtt : Nat
  bytes : List Byte
  deriving DecidableEq, Repr

/-- A station (R333). State and cause codes are those of Table 13.3 and FLD_GET_STATION; `came` is the state it was ADMITTING from; `pos`
its slot from port A in the last scan; `ent` its newest scan slot; `lastAt` the MONO time of the return of the newest clean datagram;
`outs` the output area last sent. -/
structure Station where
  state : Nat := 0
  came : Nat := 1
  cause : Nat := 0
  run : Nat := 0
  pos : Nat := 0
  ent : Option ScanEntry := none
  status : Nat := 0
  lastCyc : Nat := 0
  lastAt : Nat := 0
  outs : List Byte := []
  deriving DecidableEq, Repr

/-- A clean datagram of a returned copy (R328): STATUS, STN_CYCLE, input area, arrival stamp. -/
structure Datagram where
  addr : Nat
  status : Nat
  cyc : Nat
  input : List Byte
  stamp : Nat
  deriving DecidableEq, Repr

/-- A FLD_SCAN series (R343): the open request, scans left, the address lists of the newest scan, and whether two scans differed. -/
structure ScanSeries where
  id : Nat
  left : Nat
  last : Option (List Nat × List Nat)
  differed : Bool
  deriving DecidableEq, Repr

/-- The Chain controller. `sent` is the layout of the cyclic frame in flight (address, OUT_LEN, IN_LEN); `outA`, `outB` tell
whether a copy is still out; `gotA`, `gotB` are the clean datagrams of the returned copies; `dup` the stations whose datagram showed a
duplicate address; `cyc` is CYCLE, `tick` the MONO time of its tick; `seen` the (station, code) pairs of violations since the last
acknowledgement; `scanned` tells whether a scan has completed since the start; `fwd` the inputs a forwarding module read of cycle `fwdCyc`, `fwdEpoch` the
CMD_EPOCH of the newest frame it forwarded. -/
structure ChainSt where
  stations : List Station := List.replicate 64 {}
  cyc : Nat := 0
  tick : Nat := 0
  running : Bool := false
  lastCyc : Nat := 0
  cmdEpoch : Nat := 0
  sent : List (Nat × Nat × Nat) := []
  outA : Bool := false
  outB : Bool := false
  inFlight : Bool := false
  gotA : List Datagram := []
  gotB : List Datagram := []
  dup : List Nat := []
  reachA : Nat := 0
  reachB : Nat := 0
  loopA : Bool := false
  loopB : Bool := false
  linkA : Bool := false
  linkB : Bool := false
  ringOpen : Bool := false
  nextScan : Nat := 0
  scanOut : Bool := false
  scanned : Bool := false
  series : Option ScanSeries := none
  seen : List (Nat × Nat) := []
  rttLast : Nat := 0
  col : Collector := { slots := List.replicate 64 none, out := List.replicate 64 [] }
  fwdCyc : Nat := 0
  fwdEpoch : Nat := 0
  fwd : List Datagram := []
  deriving DecidableEq, Repr

end Sys2Proof.Machine
end

