-- ==== Sys2Proof/Machine/Types/Gns.lean ====
section
/-! DEFINITION. State of the GNSS baseband (chapter 11) and what its radio side measures. -/

namespace Sys2Proof.Machine

/-- A receiver channel (R273, Table 11.8). State codes are those of Table 11.3; C/N0 in u8.8 dB-Hz, elevation and azimuth in degrees,
Doppler in Hz; `code` and `carr` are the code phase (cells of the search, or as latched) and the carrier phase (2^-16 cycle) of R274, `prc` the
extrapolated correction of R280 in mm where `corrected`; `since` is the MONO time at which the state was entered. -/
structure GnsChan where
  prn : Nat := 0
  state : Nat := 0
  used : Bool := false
  slip : Bool := false
  slipNext : Bool := false
  corrected : Bool := false
  cn0 : Nat := 0
  elev : Int := 0
  az : Nat := 0
  dop : Int := 0
  code : Nat := 0
  carr : Int := 0
  prc : Int := 0
  since : Nat := 0
  deriving DecidableEq, Repr

/-- A position solution of an antenna as the radio side forms it over given satellites (R275): latitude, longitude (bam32), height (s16.16 m),
square root of the trace of the horizontal covariance (u16.16 m), velocity north and east (s16.16 m/s), receiver clock drift (10^-12), HDOP
(u8.8), time σ in ns, the normalised residual sum of squares in 10^-3. -/
structure LsSol where
  lat : Nat
  lon : Nat
  hgt : Int
  spread : Nat
  vn : Int
  ve : Int
  drift : Int
  hdop : Nat
  tSigma : Nat
  sum : Nat
  deriving DecidableEq, Repr

/-- A solution and, per satellite left out, the solution without it. -/
structure LsTry where
  sol : LsSol
  removals : List (Nat × LsSol)
  deriving DecidableEq, Repr

/-- What a channel measures at a latch. -/
structure ChanMeas where
  input : Nat
  chan : Nat
  cn0 : Nat
  elev : Int
  az : Nat
  dop : Int
  code : Nat
  carr : Int
  deriving DecidableEq, Repr

/-- What a cell of a search measures (R271): Doppler bin 0 to 48, code phase 0 to 4,095, and the magnitudes of its consecutive 1 ms blocks. -/
structure AcqCell where
  bin : Nat
  code : Nat
  mags : List Nat
  deriving DecidableEq, Repr

/-- What ends a channel's state early, or slips its carrier (R273), with what was measured: pull-in without lock; the highest C/N0 (u8.8) or the
highest phase lock indicator (10^-3) over the last `ns`; a carrier-phase change and its prediction (2^-16 cycle). -/
inductive ChanLoss
  | pullIn
  | cn0 (top ns : Nat)
  | lock (top ns : Nat)
  | slip (change predicted : Int)
  deriving DecidableEq, Repr

/-- What a channel has decoded (R273): bit synchronisation, subframes, an ephemeris with the TAI time at which its validity ends, the almanac. -/
structure NavData where
  sync : Bool
  subframes : Nat
  eph : Option Nat
  almanac : Bool
  deriving DecidableEq, Repr

/-- A candidate of the search of R282: the integers of the three primaries, |b_n| (u16.16 m), the other ambiguities as b_n gives them before
rounding (2^-16 cycle), the sum of squared residuals in 10^-6 cycle². -/
structure BaseCand where
  n : List Int
  len : Nat
  others : List Int
  ssr : Nat
  deriving DecidableEq, Repr

/-- Baseline's measurements at an epoch: the non-reference satellites, the three primaries first; the primaries' float values and σ (2^-16 cycle);
the candidates; with the fixed integers the vector b (2^-16 m north, east, down), the ambiguities of slipped satellites as b gives them before rounding
(2^-16 cycle), the residual RMS in 10^-3 cycle, and the rate of turn (bam32 per s). -/
structure BaseMeas where
  prns : List Nat
  floats : List (Int × Nat)
  cands : List BaseCand
  bn : Int
  be : Int
  bd : Int
  amb : List (Nat × Int)
  rms : Nat
  rot : Int
  deriving DecidableEq, Repr

/-- What the radio side gives at a measurement epoch: the epoch's TAI time once GPS time can be told, the channels, the stand-alone and the
code-differential solutions of each antenna, Baseline. -/
structure GnssMeas where
  tai : Option Nat
  chans : List ChanMeas
  alone : List (Option LsTry)
  diff : List (Option LsTry)
  base : BaseMeas
  deriving DecidableEq, Repr

/-- A pseudorange correction (R280): PRN, MONO time of its newest 1002, the correction in mm, the same difference taken with the phase range in
0.5 mm, and the previous message's time and phase-range difference. -/
structure Corr where
  prn : Nat
  at_ : Nat
  prc : Int
  lrc : Int
  prev : Option (Nat × Int)
  deriving DecidableEq, Repr

/-- An antenna input: supply state code of Table 11.1, current in mA, when the current reached the limit, whether the supply is switched off
after a short, when it was switched off, the engine's search order with predicted Dopplers (first searched first). -/
structure GnsInput where
  supply : Nat := 0
  ma : Nat := 0
  atLimit : Option Nat := none
  tripped : Bool := false
  tripAt : Nat := 0
  search : List (Nat × Int) := []
  deriving DecidableEq, Repr

/-- The fix of an antenna (Table 11.9, GNS_FIX_STAT_a). -/
structure GnsFix where
  type : Nat := 0
  raimOk : Bool := false
  sats : Nat := 0
  hdop : Nat := 0
  lat : Nat := 0
  lon : Nat := 0
  hgt : Int := 0
  sigma : Nat := 0
  age : Nat := 0
  vn : Int := 0
  ve : Int := 0
  deriving DecidableEq, Repr

/-- What a HOT start uses (R287, R292): PRNs with ephemerides and the TAI times at which their validity ends, whether the almanac, the last position, the
clock drift, the channel assignments (input, channel, PRN) and the fix number. -/
structure GnsData where
  eph : List (Nat × Nat) := []
  almanac : Bool := false
  pos : Option (Nat × Nat × Int) := none
  drift : Option Int := none
  chans : List (Nat × Nat × Nat) := []
  fixNum : Nat := 0
  deriving DecidableEq, Repr

/-- The store of R292: the data, the MONO time of the write, whether its CRC-32C checks. -/
structure GnsStore where
  data : GnsData
  at_ : Nat
  crcOk : Bool
  deriving DecidableEq, Repr

/-- The GNSS baseband. `pass` counts consecutive passing epochs of the search with the integers `ints` (by PRN, the reference satellite's 0); `bad` epochs
of large residuals; `rates` are POS_RATE and HDG_RATE in force (R290), `hand` samples waiting for hand-over: (due MONO, LINK, body); `onGrid` tells that
the latches fall on GPS time (R274), `refPos` is the reference point of the newest 1005 in 0.1 mm (R280). -/
structure Gns where
  asleep : Bool := false
  start : Nat := 0
  fixNum : Nat := 0
  chans : List (List GnsChan) := [List.replicate 24 {}, List.replicate 24 {}]
  inputs : List GnsInput := [{}, {}]
  data : GnsData := {}
  store : Option GnsStore := none
  onGrid : Bool := false
  timeKnown : Bool := false
  timeValid : Bool := false
  tai : Nat := 0
  epochMono : Nat := 0
  posEpoch : Bool := false
  fixes : List GnsFix := [{}, {}]
  base : Nat := 0
  pass : Nat := 0
  ints : List (Nat × Int) := []
  bad : Nat := 0
  heading : Nat := 0
  pitch : Nat := 0
  length : Nat := 0
  common : Nat := 0
  ratio : Nat := 0
  drift : Int := 0
  station : Nat := 0xFFFF
  refPos : Int × Int × Int := (0, 0, 0)
  last1002 : Option Nat := none
  corrs : List Corr := []
  hadCorr : Bool := false
  hand : List (Nat × Nat × List Byte) := []
  started : Nat := 0
  rates : Nat × Nat := (5, 10)
  deriving DecidableEq, Repr

end Sys2Proof.Machine
end

