-- ==== Sys2Proof/Machine/Types/Alc.lean ====
section
/-! DEFINITION. State of thrust allocation, consequence analysis and bus-section power (chapters 07 and 08). -/

namespace Sys2Proof.Machine

/-- What an available thruster brings to a problem: number, feedback angle α (bam32), feedback thrust T (s16.16 kN). -/
structure ThrIn where
  t : Nat
  al : Nat
  tt : Int
  deriving DecidableEq, Repr

/-- A force of a thruster in internal units: u_x, u_y of an azimuth; f in `x` of a tunnel. -/
structure ThrForce where
  t : Nat
  x : Int
  y : Int
  deriving DecidableEq, Repr

/-- The previous solve of a programme (R196): result, working set by row number, signature, table CRC, available thrusters, start kind, μ. -/
structure Prev where
  u : List ThrForce
  work : List Nat
  sig : Nat
  tab : Nat
  avail : List Nat
  kind : Nat
  mu : Int
  deriving DecidableEq, Repr

/-- A problem set up at the entry stage: available thrusters, in-service sections, budgets (kW with 16 fraction bits; none is no limit) in
order 0 to 7, τ_cmd, the period in ms, the iteration budgets of SL0 and of a scenario lane. -/
structure AlcProb where
  thr : List ThrIn
  inService : Nat
  budgets : List (Option Int)
  tau : V3
  pms : Nat
  budget : Nat
  laneBudget : Nat
  deriving DecidableEq, Repr

/-- A thruster's part of a result: ALC_THR_STAT, azimuth set-point, thrust set-point, T_up. -/
structure ThrRes where
  stat : Nat := 0
  az : Nat := 0
  thrust : Int := 0
  tup : Int := 0
  deriving DecidableEq, Repr

/-- A result of SL0 (Table 7.11), with the allocated forces. -/
structure AlcRes where
  num : Nat := 0
  reason : Nat := 5
  degen : Bool := false
  ovf : Bool := false
  tlim : Bool := false
  kind : Nat := 0
  pwrFloor : Bool := false
  iters : Nat := 0
  sig : Nat := 0
  tau : V3 := {}
  bu : V3 := {}
  s : V3 := {}
  norm : Nat := 0
  j : Nat := 0
  thr : List ThrRes := List.replicate 24 {}
  u : List ThrForce := []
  powerBind : Nat := 0
  deriving DecidableEq, Repr

/-- A bus section (R207 to R213). `clear` is the return count: the millisecond ticks out of service since a signal was last asserted; `detect` and `back` are the millisecond
indices within the cycle of a loss and a return (R213), `lossSrc` the source of the newest loss (event 61). -/
structure Section where
  inService : Bool := true
  lostDi : Bool := false
  lostChain : Bool := false
  hostLimit : Option Nat := none
  noSrc : Bool := false
  srcA : Bool := false
  srcB : Bool := false
  budget : Option Int := none
  clear : Nat := 0
  detect : Option Nat := none
  back : Option Nat := none
  lossSrc : Nat := 0
  deriving DecidableEq, Repr

/-- A failure group (R214 to R222): margin u2.14, state code of Table 8.8, worst axis, reason, iterations, timers in ms, alarm, previous
scenario, and whether its scenario of this cycle is done. -/
structure Group where
  margin : Nat := 0
  state : Nat := 0
  worst : Nat := 0
  reason : Nat := 0
  iters : Nat := 0
  pers : Nat := 0
  clear : Nat := 0
  alarm : Bool := false
  prev : Option Prev := none
  done : Bool := true
  deriving DecidableEq, Repr

/-- Allocation. `disabled` and `avail` are thruster bitmaps; `why` holds ALC_THR_STAT [6:1] per thruster of the newest tick;
`lastKind`, `lastIters` and `sig` belong to the newest solve. -/
structure Alc where
  disabled : Nat := 0
  avail : Nat := 0
  why : List Nat := List.replicate 24 0
  prev : Option Prev := none
  lastKind : Option Nat := none
  lastIters : Nat := 0
  sig : Nat := 0
  prob : Option AlcProb := none
  res : AlcRes := {}
  tauSat : V3 := {}
  secs : List Section := List.replicate 8 {}
  groups : List Group := List.replicate 16 {}
  cfgErrCode : Nat := 0
  cfgErrThr : Nat := 0
  cfgErrItem : Nat := 0
  deriving DecidableEq, Repr

end Sys2Proof.Machine
end

