-- ==== Sys2Proof/Machine/Types/Chan.lean ====
section
/-! DEFINITION. State of the command channel, events, configuration transactions and the event recorder (chapters 02, 03, 18). -/

namespace Sys2Proof.Machine

/-- Personality of R1. -/
inductive Pers where
  | native
  | pk20
  deriving DecidableEq, Repr

/-- Profile of the PK-20 personality (R1, R456). -/
inductive Profile where
  | strict
  | extended
  deriving DecidableEq, Repr

/-- Role of Table 17.1: 0 none, 1 Active, 2 Standby, 3 Backup. -/
inductive Role where
  | none
  | active
  | standby
  | backup
  deriving DecidableEq, Repr

/-- Where a request came from: host port, link-layer address, IPv4 address and UDP port (R29, R30). -/
structure Src where
  portB : Bool
  mac : Nat
  ip : Nat
  udp : Nat
  deriving DecidableEq, Repr

/-- A host's identity (R31): a source of its own, or the two addresses and UDP port of a HOST_TABLE entry. -/
inductive Ident where
  | addr (ip udp : Nat)
  | entry (ipA ipB udp : Nat)
  deriving DecidableEq, Repr

/-- A final reply that is held (R36): the sequence number of its request and its parts, whole packets. -/
structure Held where
  seq : Nat
  parts : List (List Byte)
  deriving DecidableEq, Repr

/-- A tracked host (R31, R36, R37, R42, R46, R527). `high` is the highest number accepted, none for a newly tracked host, which has no window. -/
structure HostRec where
  idx : Nat
  ident : Ident
  high : Option Nat
  seen : List Nat
  held : List Held
  tickReplies : List Held
  lastPkt : Nat
  lastA : Option Nat
  lastB : Option Nat
  since : Nat
  lastResult : List (Nat × Nat)
  deriving DecidableEq, Repr

/-- A request that has opened its tag and is not finally answered (R38, R40). -/
structure Opn where
  id : Nat
  hostIdx : Nat
  ident : Ident
  seq : Nat
  tag : Nat
  op : Nat
  srcs : List Src
  auth : Bool
  t : Nat
  force : Bool
  deriving DecidableEq, Repr

/-- The channel counters of Table 2.13, each 32 bits and saturating. -/
structure ChanCnt where
  foreignDg : Nat := 0
  badVersion : Nat := 0
  badLength : Nat := 0
  badCrc : Nat := 0
  unlisted : Nat := 0
  duplicates : Nat := 0
  stale : Nat := 0
  ipDiscards : Nat := 0
  notInPersonality : Nat := 0
  authFailures : Nat := 0
  earlyReads : Nat := 0
  repeatReads : Nat := 0
  eventRetx : Nat := 0
  busySources : Nat := 0
  badOpcode : Nat := 0
  tagInUse : Nat := 0
  noTag : Nat := 0
  refused : Nat := 0
  deriving DecidableEq, Repr

/-- The kinds of numbered result (R46). -/
structure Results where
  fus : List (Nat × List Byte) := []
  alc : List (Nat × List Byte) := []
  cq : List (Nat × List Byte) := []
  dp : List (Nat × List Byte) := []
  fix : List (Nat × List Byte) := []
  deriving DecidableEq, Repr

/-- The command channel. -/
structure Chan where
  ready : Bool := false
  hosts : List HostRec := []
  opens : List Opn := []
  nextId : Nat := 0
  cnt : ChanCnt := {}
  rxBytes : Nat := 0
  txBytes : Nat := 0
  results : Results := {}
  deriving DecidableEq, Repr

/-- An event record held unacknowledged for a destination (Table 2.8). `born` is the command-processor step (R39) of its first occurrence; `step`,
`inStep`, `stepDetail` are the newest step with occurrences, their number and the first one's detail, VESSEL time and epoch (R52). -/
structure EvRec where
  ev : Nat
  count : Nat
  seq : Nat
  vessel : Nat
  epoch : Nat
  detail : List Byte
  born : Nat
  step : Nat
  inStep : Nat
  stepDetail : List Byte
  stepVessel : Nat
  stepEpoch : Nat
  deriving DecidableEq, Repr

/-- An event destination (R51, R53). -/
structure Dest where
  ident : Ident
  hostIdx : Nat
  mask : Nat
  setSeq : Nat
  ports : List Src
  recs : List EvRec
  pktSeq : Nat
  rounds : Nat
  nextRound : Option Nat
  deriving DecidableEq, Repr

/-- Event reporting: destinations, present conditions as (event, cause key), the module-wide event sequence, and whether
COLLECTOR_OVERRUN has been raised since the last ACK_EVENT (Table 1.8). -/
structure Evt where
  dests : List Dest := []
  conds : List (Nat × Nat) := []
  seq : Nat := 0
  colOvr : Bool := false
  deriving DecidableEq, Repr

/-- A sparse store of bytes. -/
abbrev Mem := List Host.Cell

/-- An open configuration transaction (R54 to R59). `committed` is set once its commit has been answered ACCEPTED. -/
structure Txn where
  handle : Nat
  base : Nat
  staged : Mem
  lastUse : Nat
  committed : Bool
  deriving DecidableEq, Repr

/-- The active configuration as bytes that differ from their reset values, keyed item × 2^24 + offset; its hash and the
epoch number at which it became active (R57); the open transactions; what a start keeps while no epoch has been sealed since (R60): the configuration with which
the module last started or joined. -/
structure Cfg where
  active : Mem
  hash : Nat
  hashEpoch : Nat
  txns : List Txn
  origin : Mem
  deriving DecidableEq, Repr

/-- A recorder record waiting in the queue (R447), not yet numbered or written: kind, number, flags, operating time, occurrences, VESSEL time,
epoch, detail, role at its occurrence, the open REC_WRITE_USER request that waits for its sequence, and the AON clock in which it entered. -/
structure RecRec where
  kind : Nat
  num : Nat
  flags : Nat
  opTime : Nat
  count : Nat
  vessel : Nat
  epoch : Nat
  detail : List Byte
  role : Nat
  reply : Option Nat
  aon : Nat := 0
  deriving DecidableEq, Repr

/-- The second after a recorded event (R444): the event, when it ends, the occurrences absorbed and the first of them. -/
structure Coalesce where
  ev : Nat
  ends : Nat
  absorbed : Nat
  first : Option RecRec
  deriving DecidableEq, Repr

/-- A host's recorder cursor (R451). -/
structure Cursor where
  ident : Ident
  seq : Nat
  backward : Bool
  deriving DecidableEq, Repr

/-- A recorder slot: the 64 bytes of its record, and whether its CRC fails (R448, R449). -/
structure Slot where
  bytes : List Byte
  lost : Bool
  deriving DecidableEq, Repr

/-- The event recorder (chapter 18). `slots` is keyed by slot number; `c` is the sequence of the newest clear record, `newest` that of the
newest record; `opBase` is the operating time in ns at MONO 0; `opNv` the operating time last saved, 0.1 s; `dropped` records lost since the
last REC_OVERFLOW; `clearVessel` the VESSEL time of the newest clear; `win` the window. -/
structure Recorder where
  slots : List (Nat × Slot) := []
  c : Nat := 0
  newest : Nat := 0
  queue : List RecRec := []
  coalesce : List Coalesce := []
  power : Nat := 0
  opBase : Int := 0
  opNv : Nat := 0
  wrapped : Bool := false
  cursors : List Cursor := []
  dropped : Nat := 0
  clearVessel : Nat := 0
  windowDue : Option Nat := none
  win : List Byte := []
  winValid : Bool := false
  deriving DecidableEq, Repr

end Sys2Proof.Machine
end

