-- ==== Sys2Proof/Machine/Types/Ctl.lean ====
section
/-! DEFINITION. State of the control law (chapter 06). -/

namespace Sys2Proof.Machine

/-- A Traverse profile (R160, R161): start target, displacements (s32.32, s32.32, signed bam32), displacements in the vessel frame at ψ0
(s16.16), durations and elapsed profile time in 2^−32 s; `fresh` until the cycle of its start has passed profile advance. -/
structure Trav where
  n0 : Int
  e0 : Int
  psi0 : Int
  dn : Int
  de : Int
  dpsi : Int
  dx : Int
  dy : Int
  tj : Nat
  tc : Nat
  tv : Nat
  el : Nat
  fresh : Bool
  deriving DecidableEq, Repr

/-- An axis of the oscillation detector (R167): the sign, the peaks, the MONO time of the newest
down-crossing, whether one was seen since the window was cleared, the newest
(period in ns, amplitude in the error's format) pairs, newest first, and whether the axis is oscillating. -/
structure OscAxis where
  sign : Int := 1
  peakPos : Int := 0
  peakNeg : Int := 0
  lastDown : Option Nat := none
  seen : Bool := false
  win : List (Nat × Int) := []
  active : Bool := false
  deriving DecidableEq, Repr

/-- A running hand-over residual of an axis (R166): h, and the step fixed at the transfer, both in τ's format. -/
structure Resid where
  h : Int := 0
  step : Nat := 0
  deriving DecidableEq, Repr

/-- The control law. Modes are the codes of Table 6.1. `joyAt` is the effective tick of the newest DP_JOYSTICK, `manualSince` the tick since
which some axis has been manual, `ramp` the tick at which the ramp of R152 started. `wx` and `wy` are the newest filter inputs, `windAt` the tick of the first cycle without a
voted wind source, `fw` the wind force of the cycle and `fwHold` the one the loss ramp of R158 starts from. `err` is e_x, e_y, e_ψ of the newest
law, `satUsed` the τ_sat it used. `travFrom` is the start point and start tick of the running move. `moved` is set while a transfer of this
tick keeps its residual whole and forbids a step-down; `newAuto` marks the axes it made automatic. -/
structure Ctl where
  mode : Nat := 0
  gainSet : Nat := 1
  holder : Option (Nat × Ident) := none
  n : Int := 0
  e : Int := 0
  psi : Int := 0
  joy : V3 := {}
  joyAt : Option Nat := none
  manualSince : Option Nat := none
  ramp : Option Nat := none
  integ : V3 := {}
  tauLaw : V3 := {}
  tauCmd : V3 := {}
  tauFf : V3 := {}
  satUsed : V3 := {}
  err : V3 := {}
  res : List Resid := [{}, {}, {}]
  fx : Int := 0
  fy : Int := 0
  wx : Int := 0
  wy : Int := 0
  windAt : Option Nat := none
  windLost : Bool := false
  fw : V3 := {}
  fwHold : V3 := {}
  trav : List Trav := []
  travN : Int := 0
  travE : Int := 0
  travPsi : Int := 0
  travStart : Nat := 0
  osc : List OscAxis := [{}, {}, {}]
  missRun : Nat := 0
  frozen : Bool := false
  moved : Bool := false
  newAuto : Nat := 0
  deriving DecidableEq, Repr

end Sys2Proof.Machine
end

