-- ==== Sys2Proof/Machine/Types/Fus.lean ====
section
/-! DEFINITION. State of the Fusion Unit (chapters 04 and 05). -/

namespace Sys2Proof.Machine

/-- A sample as a link delivers it (R86, R87, R89): its stream, MONO arrival stamp, 32-byte body, for TIMESRC 2 the station's cycle
counter and the MONO time of that Chain cycle, and for an injection its sequence number. -/
structure RawSample where
  stream : Nat
  stamp : Nat
  body : List Byte
  chain : Option (Nat × Nat)
  seqFix : Option Nat
  deriving DecidableEq, Repr

/-- A sample taken in (R94, R95): sequence number and VESSEL sample time fixed. `tsMono` is its sample time on MONO. -/
structure Sample where
  stream : Nat
  seq : Nat
  ts : Int
  tsMono : Int
  stamp : Nat
  body : List Byte
  deriving DecidableEq, Repr

/-- A stream's clock model (R90 to R93). `tPrev` and `minTs` are the latest and the earliest sample time accepted (R88, R96); `newestAdm` is the
VESSEL sample time of the newest admitted sample, `newestStamp` the arrival stamp of the newest sample. -/
structure ClockModel where
  seeded : Bool := false
  o : Int := 0
  d : Int := 0
  tLast : Nat := 0
  suspect : Bool := false
  consStart : Nat := 0
  resid : List Nat := []
  lastR : Int := 0
  tPrev : Option Int := none
  minTs : Option Int := none
  newestAdm : Int := 0
  newestStamp : Nat := 0
  deriving DecidableEq, Repr

/-- Stream states of Table 4.11. -/
inductive StreamState where
  | candidate
  | active
  | suspect
  | rejected
  | deselected
  | disabled
  deriving DecidableEq, Repr

/-- A stream's held value (chapter 05, Voting): sample time, the values of its class and their standard deviations (u16.16). PREF holds the
reference-point position (s32.32), HDG the propagated heading (bam32), LOG the corrected velocities (s8.24), the others their body words. -/
structure HeldVal where
  ts : Int
  v : List Int
  sg : List Nat
  deriving DecidableEq, Repr

/-- A stream's part of the observer step (R127 to R133). `was` is the state in which the newest step ran (R131); `cause` is the newest cause code of Table 5.2; `fail` the run of consecutive failing
samples; `pass` of consecutive passing samples; `okNow` whether a sample of the newest step passed; `failCause` what the newest failure failed (1 gate, 2 vote); `firstTv` the t_v of the first
sample of the CANDIDATE count; `sinceTv` the t_v at which the present state was entered; `cleanTv` the t_v from which a REJECTED stream's clean count runs;
`lastTs` the newest sample time. -/
structure StreamStep where
  state : StreamState := .disabled
  was : StreamState := .disabled
  cause : Nat := 0
  stale : Bool := false
  fail : Nat := 0
  pass : Nat := 0
  okNow : Bool := false
  failCause : Nat := 0
  firstTv : Option Int := none
  sinceTv : Int := 0
  cleanTv : Option Int := none
  lastTs : Option Int := none
  held : Option HeldVal := none
  score : Nat := 0
  d2 : Nat := 0
  deriving DecidableEq, Repr

/-- A voting class (R128, R133): voted source, the medians of the newest step, two-source disagreement with its two streams and used
stream, and the runs of epochs with and without the disagreement's cases. -/
structure ClassStep where
  voted : Option Nat := none
  med : List Int := []
  disagree : Bool := false
  sa : Nat := 0
  sb : Nat := 0
  used : Nat := 0
  runApart : Nat := 0
  runTogether : Nat := 0
  deriving DecidableEq, Repr

/-- A pair's drift blocks (R130): streams a < b, blocks newest first as (second of t_v, sums of the first two components' differences, count), and the flag. -/
structure PairStep where
  a : Nat
  b : Nat
  blocks : List (Int × Int × Int × Nat)
  flagged : Bool
  deriving DecidableEq, Repr

/-- Calibration slot states of R135. -/
inductive CalState where
  | off
  | learning
  | frozen
  deriving DecidableEq, Repr

/-- A calibration slot (R135 to R137): its stream, first augment position, number of positions. -/
structure CalSlot where
  state : CalState := .off
  stream : Nat := 0
  first : Nat := 0
  size : Nat := 0
  ready : Bool := false
  obs : Bool := false
  bound : Bool := false
  deriving DecidableEq, Repr

/-- The state an observer step works on and the history stores (R102): the observer's states, UD factors, and each stream's, class's, pair's and
slot's part. `x` holds the stored integers of Table 5.1 by index, augments from index 15 for the positions in use; `aug` lists those positions
(position, owning slot, kind: 0 x, 1 y, 2 z lever, 3 heading, 4 roll, 5 pitch) in order. -/
structure ObsStep where
  x : List Int
  u : List (List Int)
  d : List Int
  aug : List (Nat × Nat × Nat)
  posSet : Bool
  hdgSet : Bool
  lastPos : Option Int
  lastHdg : Option Int
  drPos : Bool
  drHdg : Bool
  streams : List StreamStep
  classes : List ClassStep
  pairs : List PairStep
  slots : List CalSlot
  psiWin : List (Int × Int)
  attWin : List (Int × Int × Int)
  posWin : List (Int × Int × Int)
  psiUnwrapped : Int
  deriving DecidableEq, Repr

/-- A host action or mounting exchange that a fusion epoch applies before its step (R139, R137): the epoch's t_v, the stream, and what: 0 DESELECT,
1 SELECT, 2 READMIT; 10 START, 11 FREEZE, 12 RESUME, 13 ACCEPT's freeze, 14 DISCARD or the exchange's removal,
15 an exchange while LEARNING (R144). -/
structure FusAct where
  tv : Int
  n : Nat
  op : Nat
  deriving DecidableEq, Repr

/-- A closed fusion epoch in the history (R102); `gap` tells that it was closed for the gap of a restart (R115). -/
structure HistEpoch where
  tv : Int
  gap : Bool
  samples : List Sample
  after : ObsStep
  deriving DecidableEq, Repr

/-- The forces of an observer step (R118, R159): from which VESSEL time on, τ of the output set in force; and per fusion epoch ω. -/
structure TauRec where
  from_ : Int
  x : Int
  y : Int
  n : Int
  deriving DecidableEq, Repr

/-- The fused solution of a cycle (Table 5.4): `x` are the observer's states at t_v; the others are at the tick. -/
structure Solution where
  number : Nat
  tv : Int
  tick : Int
  age : Nat
  flags : Nat
  x : List Int
  nTick : Int
  eTick : Int
  psiTick : Int
  sigN : Nat
  sigE : Nat
  sigPsi : Nat
  voted : List Nat
  deriving DecidableEq, Repr

/-- What a cycle admitted (R21, R111): late samples in insertion order, and closures with their samples and whether a wait limit closed them; the TIME_SUSPECT streams
with their u_t, by which the variances of these samples go (R93). -/
structure FuPlan where
  susp : List (Nat × Nat) := []
  late : List Sample := []
  closes : List (Int × List Sample × Bool) := []
  deriving DecidableEq, Repr

/-- The Fusion Unit. `rx` holds samples not yet taken in, `before` the observer state before the oldest history epoch, `history` the closed
epochs oldest first, `newest` the t_v of the newest closed one and `first` that of the first (R114); `sol` is the newest solution, `numClocks`
the length of the newest FU phase in NUM clocks, `plan` what it admitted; `past` the newest sample of each stream that has left the history (R99);
`satNow` whether a value saturated at this tick before the phase (FUS_SOL.STSAT). -/
structure Fus where
  started : Bool
  clocks : List ClockModel
  rx : List RawSample
  align : List Sample
  deferred : List Sample
  history : List HistEpoch
  before : ObsStep
  newest : Option Int
  first : Int
  taus : List TauRec
  winds : List TauRec
  acts : List FusAct
  sol : Option Solution
  flags : Nat
  numClocks : Nat
  plan : FuPlan
  past : List Sample
  satNow : Bool
  deriving DecidableEq, Repr

end Sys2Proof.Machine
end

