-- ==== Sys2Proof/Machine/Types/Lgc.lean ====
section
/-! DEFINITION. State of the Logic Engine (chapter 15). -/

namespace Sys2Proof.Machine

/-- Sparse 4-byte words of a region, by word index, unlisted words 0. -/
abbrev Words := List (Nat × Word)

/-- The regions and the figures of LGC_GET_STATUS as they stood at the completion of a logic cycle (R389); `counts` are the counters of LGC_CNT in register order. -/
structure LgcSnap where
  num : Nat := 0
  tick : Nat := 0
  data : Words := []
  consts : Words := []
  inp : List Nat := []
  out : Words := []
  sys : List Nat := []
  cost : Nat := 0
  idle : Nat := 0
  least : Nat := 0xFFFF
  carried : Nat := 0
  notCarried : Nat := 0
  counts : List Nat := []
  deriving DecidableEq, Repr

/-- A logic cycle that has begun and is not yet released: what it leaves, its start, accounted completion and cost, whether it has actually
completed, and whether a release passed it over (R380). -/
structure LgcCur where
  snap : LgcSnap
  start : Nat
  tc : Nat
  cost : Nat
  complete : Bool
  guard : Bool
  deriving DecidableEq, Repr

/-- The Logic Engine. `first` is set from a START to the first logic cycle; `consts` holds constants changed online, as (word index, value);
`pending` the online changes (constant, word index, value); `nextStart` the MONO time before which no logic cycle starts; `lastRun` the
retained entries of the program that last ran (key, type hash, words); `bufSize` none before a BEGIN; `relAt` the release a LINK 0x70
sample waits for; `lastNum` the control cycle of the newest executed logic tick; `taken` from a takeover to the first logic cycle after it (R393). -/
structure Lgc where
  data : Words := []
  consts : Words := []
  out : Words := []
  relOut : Words := []
  zeroDue : Bool := false
  num : Nat := 0
  lastTick : Option Nat := none
  lastNum : Nat := 0
  taken : Bool := false
  first : Bool := false
  pending : List (Bool × Nat × Nat) := []
  cur : Option LgcCur := none
  held : Option LgcSnap := none
  rel : LgcSnap := {}
  nextStart : Nat := 0
  carried : Nat := 0
  notCarried : Nat := 0
  cost : Nat := 0
  idle : Nat := 0
  exec : Nat := 0
  lastRun : List (Nat × Nat × List Nat) := []
  buf : List (Nat × Byte) := []
  bufSize : Option Nat := none
  bufCrc : Nat := 0
  relAt : Option Nat := none
  deriving DecidableEq, Repr

end Sys2Proof.Machine
end

