-- ==== Sys2Proof/Machine/Types/Link.lean ====
section
/-! DEFINITION. State of the serial ports, alerts, IEC 61162-450, the CAN FD controllers and the CRC units (chapter 12). -/

namespace Sys2Proof.Machine

/-- A valid GST on a port (R299): its UTC time of day in ns, when it ended (MONO), fields 6 and 7 in units of 10^-9 m. -/
structure Gst where
  tod : Nat
  at_ : Nat
  f6 : Nat
  f7 : Nat
  deriving DecidableEq, Repr

/-- A serial port (R295 to R302): the sentence or raw bytes being assembled, whether a framing error fell within it, whether
the sentence is being dropped after its 83rd character, the transmit queue (units, the first being sent), the MONO time of the last passing
sentence, whether it is silent, whether LNK_SER_ERROR has been raised since the last ACK_EVENT, the newest RMC or ZDA date (days since
1970-01-01), the GST list and the newest ROT (MONO, rate in bam32 per second). -/
structure SerPort where
  buf : List Byte := []
  inSentence : Bool := false
  framing : Bool := false
  dropping : Bool := false
  txq : List (List Byte) := []
  lastPass : Nat := 0
  silent : Bool := false
  errRaised : Bool := false
  date : Option Nat := none
  gst : List Gst := []
  rot : Option (Nat × Int) := none
  deriving DecidableEq, Repr

/-- Alert states of R303; an alert in no list is not present. -/
inductive AlertState where
  | v
  | a
  | n
  deriving DecidableEq, Repr

/-- An alert (R303): event number, state, revision counter, MONO of its last ALF, VESSEL time of its last change. -/
structure Alert where
  ev : Nat
  state : AlertState
  rev : Nat
  lastAlf : Nat
  changed : Int
  deriving DecidableEq, Repr

/-- Serial links, alerts and IEC 61162-450, whose sentences a port record of its own serves. `revs` holds the revision counter of each event number whose
alert has changed; `acked` the events acknowledged since their bits of EVT_ACTIVE rose. -/
structure Ser where
  ports : List SerPort := List.replicate 8 {}
  p450 : SerPort := {}
  alerts : List Alert := []
  revs : List (Nat × Nat) := []
  acked : List Nat := []
  lastAlc : Nat := 0
  deriving DecidableEq, Repr

/-- The links at a start at MONO `t` (R320): silence counts from it. -/
def Ser.begin (t : Nat) : Ser := { ports := List.replicate 8 { lastPass := t }, lastAlc := t }

/-- A CAN frame (R306): identifier, IDE, FDF, BRS, whether it is a remote frame, data. -/
structure CanFrame where
  id : Nat
  ide : Bool
  fdf : Bool
  brs : Bool
  remote : Bool
  data : List Byte
  deriving DecidableEq, Repr

/-- A stored frame with its arrival stamp (MONO). -/
structure CanStored where
  frame : CanFrame
  stamp : Nat
  deriving DecidableEq, Repr

/-- A message object (R310, R311): the stored or loaded frame and whether its send request is pending. NEW and MSGLOST are bits of MO_STAT. -/
structure MsgObj where
  stored : Option CanStored := none
  pend : Bool := false
  deriving DecidableEq, Repr

/-- Controller states of CAN_STATUS. -/
inductive CanState where
  | off
  | active
  | passive
  | busOff
  deriving DecidableEq, Repr

/-- A CAN FD controller (R306 to R313). `recovering` is set while bus-off recovery runs; `sendQ` holds NMEA 2000 frames waiting in object
127; `seenAddr` lists addresses seen claimed; `rates` the newest 127251 per source (source, MONO, bam32 per second). -/
structure Can where
  state : CanState := .off
  integ : Bool := false
  txErr : Nat := 0
  rxErr : Nat := 0
  recovering : Bool := false
  objs : List MsgObj := List.replicate 128 {}
  fifo0 : List CanStored := []
  fifo1 : List CanStored := []
  addr : Nat := 0
  claimed : Bool := false
  cannotClaim : Bool := false
  seenAddr : List Nat := []
  sendQ : List CanFrame := []
  rates : List (Nat × Nat × Int) := []
  deriving DecidableEq, Repr

/-- What ends an attempt to send: the frame was acknowledged, lost arbitration, or met an error. -/
inductive CanTx where
  | sent
  | lost
  | error
  deriving DecidableEq, Repr

/-- What an error does to the counts of ISO 11898-1: seen while sending, while receiving, or while receiving with a dominant bit after the error
flag. -/
inductive CanErr where
  | tx
  | rx
  | rxDominant
  deriving DecidableEq, Repr

/-- A CRC unit's DMA (R317): running, and START set again while it ran. Its registers stand in the register file. -/
structure CrcUnit where
  busy : Bool := false
  again : Bool := false
  deriving DecidableEq, Repr

end Sys2Proof.Machine
end

