-- ==== Sys2Proof/Machine/Types/Tim.lean ====
section
/-! DEFINITION. State of the Time Unit (chapter 10). -/

namespace Sys2Proof.Machine

/-- Base states of Table 10.3. -/
inductive BaseState where
  | unset
  | locking
  | locked
  | holdover
  | jumpPending
  | master
  deriving DecidableEq, Repr

/-- One of the bases GNSS, NET, VESSEL (R248 to R256). `ofs` is base minus MONO in units of 2^-32 ns at MONO `refMono`;
`freq` the frequency estimate and `corr` the correction on top of it, in 10^-12, `rem` what that correction still removes, in 2^-32 ns. `ein` is
the estimated error in ns at the last accepted measurement, at MONO `measMono`, `eOpen` the extra error a warm restart adds (R267); `tempAt` the
base-plate temperature then and `dT` the largest change since, in mK. `x` is the newest or pending x; `held` the held measurements, newest
first; `settled` counts measurements within 100 ns; `pend` is a step that waits for its tick, with its cause code; `lockedAt` is since when the base has been
LOCKED. -/
structure Base where
  ofs : Int := 0
  refMono : Nat := 0
  freq : Int := 0
  corr : Int := 0
  rem : Int := 0
  state : BaseState := .unset
  everSet : Bool := false
  ein : Nat := 0
  measMono : Nat := 0
  eOpen : Nat := 0
  tempAt : Int := 25000
  dT : Nat := 0
  x : Int := 0
  held : List Int := []
  settled : Nat := 0
  lastRef : Option Nat := none
  pend : Option (Int × Nat) := none
  lockedAt : Option Nat := none
  alarm : Bool := false
  deriving DecidableEq, Repr

/-- A master data set as Announce carries it (R257), with timeSource, currentUtcOffset in s and ptpTimescale. -/
structure PtpMaster where
  prio1 : Nat
  cls : Nat
  acc : Nat
  var : Nat
  prio2 : Nat
  ident : Nat
  steps : Nat
  src : Nat
  utc : Int
  ptpScale : Bool
  deriving DecidableEq, Repr

/-- A PTP message (R257, R258): host port, link speed in Mbit/s, whether transport, version and options are those of Table 10.4; message type (0
Sync, 1 Delay_Req, 8 Follow_Up, 9 Delay_Resp, 11 Announce), domain, sender, sequence, two-step flag, correction field in ns, the origin, precise
origin or receive timestamp (TAI ns), for a Delay_Resp the requesting port, for an Announce the data set. -/
structure PtpMsg where
  portB : Bool
  mbps : Nat
  supported : Bool
  kind : Nat
  domain : Nat
  sender : Nat
  seq : Nat
  twoStep : Bool
  corr : Int
  stamp : Int
  req : Nat
  data : PtpMaster
  deriving DecidableEq, Repr

/-- The PTP port (R257, R258). `portState` is the IEEE 1588 code of TIM_PTP_STAT; `syncRx` waits for its Follow_Up
(sequence, corrected receive stamp, correction); `reqTx` waits for its Delay_Resp (sequence, corrected transmit stamp); `lastDown` is the newest Sync's
(master time with correction, corrected receive stamp). `offset` is the newest offset from master, `offsets` the newest 64. -/
structure Ptp where
  portState : Nat := 3
  master : Option PtpMaster := none
  offset : Int := 0
  delay : Option Nat := none
  offsets : List Int := []
  lastAnnounce : Nat := 0
  lastSync : Nat := 0
  syncRx : Option (Nat × Nat × Int) := none
  reqTx : Option (Nat × Nat) := none
  lastDown : Option (Int × Nat) := none
  seqSync : Nat := 0
  seqAnnounce : Nat := 0
  seqReq : Nat := 0
  deriving DecidableEq, Repr

/-- A PPS output (R260): its newest edge, when the pulse under way ends, whether its base has stepped since that edge. -/
structure PpsOut where
  edge : Option Nat := none
  until_ : Nat := 0
  stepped : Bool := false
  deriving DecidableEq, Repr

/-- The Time Unit. `follow` is the source VESSEL follows (1, 2, 4); `hostLast` is the MONO of the last TIM_SET with target 1 and `hostSince` since when host
time has been present. `ppsEdge` is the newest valid PPS-in edge, `ppsTai` the
TAI assigned to it. `out1`, `out2` are the PPS outputs. -/
structure Tim where
  gnss : Base := {}
  net : Base := {}
  vessel : Base := {}
  follow : Nat := 1
  onAlt : Bool := false
  hostLast : Option Nat := none
  hostSince : Nat := 0
  ppsEdge : Option Nat := none
  ppsTai : Option Nat := none
  ppsCount : Nat := 0
  ppsPresent : Bool := false
  out1 : PpsOut := {}
  out2 : PpsOut := {}
  ptp : Ptp := {}
  eclipse : Bool := false
  deriving DecidableEq, Repr

end Sys2Proof.Machine
end

