-- ==== Sys2Proof/Machine/Types/Cycle.lean ====
section
/-! DEFINITION. State of the cycle engine: boundary actions, process image, output sets, the mailbox, what the module sends, and the PK-20 personality (chapters 01, 03, 19). -/

namespace Sys2Proof.Machine

/-- Path of a PK-20 frame (R467): the serial port, or a UDP source. -/
inductive PkSrc where
  | serial (port : Nat)
  | udp (src : Src)
  deriving DecidableEq, Repr

/-- A host action that waits for its tick (R41, R40): acceptance time, opcode, whole payload, who sent it with which sequence number and
tag, FORCE, whether its request was authenticated; for an internal or a host's transaction its base hash and staged bytes; for a PK-20 set
frame its source. `id` is its open request. As the input agreement record lists it, `found` is what the checks that only the Active can make have found (0: passed). -/
structure Bnd where
  id : Nat
  at_ : Nat
  op : Nat
  payload : List Byte
  ident : Ident
  hostIdx : Nat
  seq : Nat
  tag : Nat
  force : Bool
  auth : Bool
  base : Nat
  staged : Mem
  pk : Option PkSrc
  found : Option Nat := none
  deriving DecidableEq, Repr

/-- The answer a host action found at its tick (R42): status and payload. -/
structure Answer where
  act : Bnd
  status : Nat
  payload : List Byte
  deriving DecidableEq, Repr

/-- A sealed epoch's reply waiting for the mirror (R41): open request, packets. -/
structure SealedReply where
  id : Nat
  parts : List (List Byte)
  deriving DecidableEq, Repr

/-- What the process image holds of a bus section (R213): which signals are asserted, in service, the detection and the return tick within the cycle as millisecond
indices, the return count, the source of the newest loss. -/
structure SecImg where
  lostDi : Bool := false
  lostChain : Bool := false
  detect : Option Nat := none
  back : Option Nat := none
  inService : Bool := true
  clear : Nat := 0
  lossSrc : Nat := 0
  deriving DecidableEq, Repr

/-- A process-image snapshot (R18): MONO of the millisecond tick it was taken from; digital inputs; analogue words of channels 0 to 39; Chain
station states, STN_CYCLEs and input areas; which servo loops have failed; thrusters inhibited; safety outputs on; states of the safety functions; sections; the tick of a logic cycle's start (R380). -/
structure ProcImg where
  tick : Nat := 0
  di : Nat := 0
  ai : List Nat := List.replicate 40 0
  stn : List Nat := List.replicate 64 0
  stnCyc : List Nat := List.replicate 64 0
  inp : List (List Byte) := List.replicate 64 []
  failed : List Bool := List.replicate 48 false
  inhThr : Nat := 0
  so : Nat := 0
  fb : List Int := List.replicate 48 0
  fns : List Nat := List.replicate 8 0
  secs : List SecImg := List.replicate 8 {}
  lgcStart : Option Nat := none
  lgcGap : Bool := false
  deriving DecidableEq, Repr

/-- An output set (R15): the epoch it was computed in; thrust (s16.16 kN) and azimuth (bam32) set-points of thrusters 1 to 24; the allocated forces
and τ_cmd of its cycle (R200); the logic output image; the PK-20 command words by analogue output and the alarm relay's level. -/
structure OutSet where
  epoch : Nat := 0
  thrust : List Int := List.replicate 24 0
  az : List Nat := List.replicate 24 0
  forces : List ThrForce := []
  tau : V3 := {}
  logic : Words := []
  pkAo : List (Nat × Nat) := []
  pkDo : Bool := false
  deriving DecidableEq, Repr

/-- The mailbox beside its registers (R76): the identifier of the snapshot under way, and once taken the MONO time at which its words arrive, with them. -/
structure Mbx where
  pend : Option Nat := none
  back : Option (Nat × List Nat) := none
  data : List Nat := List.replicate 8 0
  cur : Nat := 0
  valid : Bool := false
  deriving DecidableEq, Repr

/-- A PK-20 set frame that awaits its reply (R466, R470), or a reply that was sent: source and code. -/
structure PkWait where
  src : PkSrc
  code : Nat
  id : Nat
  deriving DecidableEq, Repr

/-- What PK-20 read frames return: the results of one PK-20 cycle. Mode; N, E (s32.32) and heading (bam32); per thruster 1 to 12 the azimuth feedback
(bam32), speed or pitch feedback (s16.16 %) and its availability code; the 24 command codes; slot states (none for an empty slot); the
UTC instant in ns; the worst group, its margin (u2.14), the alarm mask; the PK-20 alarms listed and unacknowledged. -/
structure PkResult where
  cycle : Nat := 0
  mode : Nat := 0
  n : Int := 0
  e : Int := 0
  psi : Nat := 0
  thr : List (Nat × Int × Nat) := []
  codes : List Nat := []
  slots : List (Option Nat) := []
  utc : Int := 0
  worst : Nat := 0
  margin : Nat := 0
  mask : Nat := 0
  alarms : Nat := 0
  unack : Nat := 0
  deriving DecidableEq, Repr

/-- The PK-20 personality (chapter 19). `x…`, `v…` are the α-β estimates with their seeded flags; `slots` the
selection of R460 as a bitmap; `cycle` CMP_CYCLE; `held` the result of internal cycle 0 with its output set until it is written; `shown` the
newest written result; `alarms`, `unack` the list; `clips` whether a thruster was clipped, `noPos`, `noHdg` whether a class had no usable
slot, `singular` the condition of R462; `late` the late output of this cycle; `inTick` the tick of the newest internal cycle 0, `wrote` that of the newest
write; `reads` the (source, code) pairs read since then; `lastFrame` the MONO of the newest valid frame; `buf` the frame being assembled
on the serial path with `bufAt` its newest byte. -/
structure Pk where
  xN : Int := 0
  xE : Int := 0
  xPsi : Nat := 0
  vN : Int := 0
  vE : Int := 0
  vPsi : Int := 0
  seedPos : Bool := false
  seedHdg : Bool := false
  noPos : Bool := false
  noHdg : Bool := false
  slots : Nat := 0xFFF
  cycle : Nat := 0
  inTick : Option Nat := none
  held : Option (OutSet × PkResult) := none
  shown : Option PkResult := none
  wrote : Option Nat := none
  alarms : Nat := 0
  unack : Nat := 0
  cond : Nat := 0
  clips : Bool := false
  singular : Bool := false
  late : Bool := false
  reads : List (PkSrc × Nat) := []
  waits : List PkWait := []
  lastFrame : Nat := 0
  inFrame : Bool := false
  buf : List Byte := []
  bufAt : Nat := 0
  deriving DecidableEq, Repr

/-- A record's body (R21, Table 1.4): header, fusion and replay admissions, process image, host actions in the order applied; `tick` is the cycle tick in agreed
time, `step` the VESSEL step applied at it (R254), 0 for none. `repaired` tells that it came by repair. -/
structure RlRecord where
  from_ : Nat
  epoch : Nat
  tick : Nat
  tickV : Int
  cfgHash : Nat
  pers : Pers
  pms : Nat
  plan : FuPlan
  img : ProcImg
  acts : List Bnd
  step : Int
  crcOk : Bool
  repaired : Bool
  deriving DecidableEq, Repr

/-- A sealed epoch (R23, Table 1.5). `ofs` is agreed time less the MONO of `tick` (log 110); `crcOk` whether its CRC-32C checks (log 109), `record` the cycle's input
agreement record; `sealAt` is the MONO of its seal, `tim` the Time Unit then and `errs` the estimated errors of GNSS, NET and VESSEL (R267), `out` the output set in force and whether this cycle released it,
`regs` the counters and latches of its seal (R82), `cmdEpoch` the Chain command epoch, `fld` the station states and CYCLE (R346), `cnt` the
channel counters. -/
structure Sealed where
  number : Nat
  tick : Nat
  tickV : Int
  ofs : Int
  crcOk : Bool
  sealAt : Nat
  cfgHash : Nat
  pers : Pers
  profile : Profile
  tlim : Bool
  iters : List Nat
  fus : Fus
  ctl : Ctl
  alc : Alc
  srv : Srv
  lgc : Lgc
  tim : Tim
  errs : List Nat
  out : OutSet
  released : Bool
  record : RlRecord
  hosts : List HostRec
  pk : Pk
  cmdEpoch : Nat
  fld : ChainSt
  cnt : ChanCnt
  cfg : Mem
  hashEpoch : Nat
  evtActive : List (Nat × Nat)
  regs : List (Nat × Word)
  deriving DecidableEq, Repr

/-- Where a cycle stands (Table 1.2); `began` once its fusion phase has its inputs, `compared` once its COMPARE has left. -/
structure Phases where
  began : Bool := false
  fu : Bool := false
  law : Bool := false
  alloc : Bool := false
  solved : Bool := false
  deadline : Bool := false
  compared : Bool := false
  sealed : Bool := false
  mirrored : Bool := false
  deriving DecidableEq, Repr

/-- The cycle engine (chapter 01). `number` is the epoch number of the newest cycle, 0 before the first, `tick` and `tickV` the MONO and VESSEL time
of its tick, `pms` its period; `bnds` the accepted host actions that wait for their tick, `law` those of the cycle that wait for the control law with the configuration they have met, `done` those applied in it, `answers`
what they were answered, `toSend` sealed replies that wait for the mirror; `img` the process image of the cycle. `buf` is the output buffer, `latched` what
the consumers latched at the newest millisecond tick `ms`; `release` is set where the set of this cycle is complete but waits for its logic cycle; `released` whether this cycle released, `before` whether the previous one did. `srvOut` holds the words the servo engine
wrote, by loop, for this tick and `srvNext` those for the following one. `halt` is set where no further cycle starts. `tlim`, `iters` are of the cycle's lanes. `last` is the newest sealed epoch, `good` the newest that passes R25. `ofs` is agreed time less this module's MONO
(log 110); `step` the VESSEL step applied at the tick. `realign` is the sub-millisecond part of a VESSEL step still to be taken up. `relAt` is the MONO of the newest release; `whole` the image of the newest millisecond tick whose capture is complete, `next` the one being captured.  -/
structure Cyc where
  number : Nat := 0
  tick : Nat := 0
  tickV : Int := 0
  pms : Nat := 10
  ph : Phases := {}
  bnds : List Bnd := []
  law : List (Bnd × Mem) := []
  done : List Bnd := []
  answers : List Answer := []
  toSend : List SealedReply := []
  img : ProcImg := {}
  next : ProcImg := {}
  buf : OutSet := {}
  latched : OutSet := {}
  pendingSet : Option OutSet := none
  released : Bool := false
  before : Bool := false
  ms : Nat := 0
  srvOut : List Int := List.replicate 48 0
  srvNext : List Int := List.replicate 48 0
  halt : Bool := true
  tlim : Bool := false
  iters : List Nat := [0, 0, 0, 0]
  last : Option Sealed := none
  good : Option Sealed := none
  ofs : Int := 0
  step : Int := 0
  unsealed : Bool := false
  realign : Bool := false
  realignEnd : Nat := 0
  relAt : Nat := 0
  whole : ProcImg := {}
  num : Collector := { slots := List.replicate 5 none, out := List.replicate 5 [] }
  srvCol : Collector := { slots := List.replicate 48 none, out := List.replicate 48 [] }
  deriving DecidableEq, Repr

end Sys2Proof.Machine
end

