-- ==== Sys2Proof/Machine/Types/Red.lean ====
section
/-! DEFINITION. State of the Redundancy Manager and the messages of the redundancy link (chapter 17). -/

namespace Sys2Proof.Machine

/-- A heartbeat (Table 17.2): sending module, its group, role, READY, FAULTED, LATENT, flags, newest epoch number held, whether its own sense shows a
toggle; and what formation, R416, R458 and R525 compare: newest saved epoch number that passes R25, role preference, personality and
profile, firmware version. `crcOk` tells whether the message's CRC checks. -/
structure RlBeat where
  from_ : Nat
  group : Nat
  role : Role
  ready : Bool
  faulted : Bool
  latent : Bool
  flags : Nat
  newest : Nat
  token : Bool
  saved : Nat
  pref : Nat
  pers : Pers
  profile : Profile
  version : Nat × Nat × Nat
  crcOk : Bool
  deriving DecidableEq, Repr

/-- Compared quantities and the trailer (R427): the cycle, τ_cmd, set-points, the output set in force and whether this cycle released it, time limit
and iterations. -/
structure RlCompare where
  from_ : Nat
  epoch : Nat
  tau : V3
  thrust : List Int
  az : List Nat
  out : OutSet
  released : Bool
  tlim : Bool
  iters : List Nat
  crcOk : Bool
  deriving DecidableEq, Repr

/-- A mirrored epoch (R419): the servo and output parts in full; `differ` are the parts whose CRC differs from that of the receiver's own (2 fusion, 3
control, 4 allocation, 6 logic, 8 input agreement, 9 hosts); `sealOk` whether the seal's CRC checks over the parts that result. `gap` tells a gap epoch (R433): the state of the epoch before it. -/
structure RlSeal where
  from_ : Nat
  epoch : Nat
  tick : Nat
  tickV : Int
  srv : Srv
  out : OutSet
  released : Bool
  differ : List Nat
  sealOk : Bool
  gap : Bool
  crcOk : Bool
  deriving DecidableEq, Repr

/-- A repair (Table 17.2): a sealed epoch's parts, configuration with the epoch at which it became active, the load buffer; `ok` tells whether the seal's CRC
checks once they stand. -/
structure RlRepair where
  from_ : Nat
  epoch : Nat
  parts : List Nat
  sealed : Option Sealed
  cfg : Option (Mem × Nat)
  buf : Option (List (Nat × Byte) × Option Nat)
  ok : Bool
  crcOk : Bool
  deriving DecidableEq, Repr

/-- A verdict: for a cycle, which modules (bit m − 1) the sender agrees with; with it the sender's input-agreement findings of the cycle (stream, kind,
cycles in a row). -/
structure RlVerdict where
  from_ : Nat
  epoch : Nat
  agree : Nat
  find : List (Nat × Nat × Nat)
  crcOk : Bool
  deriving DecidableEq, Repr

/-- A control message: a join request, a request for repair of parts, a handover asked of the Active (target, flags, the epoch of its acceptance), that a
handover ended or failed (`active` 0), whether a disputed cycle's record came with an error or by repair (R429 step 1), the result of a replay and test. -/
inductive RlControl where
  | join
  | repair (epoch : Nat) (parts : List Nat)
  | handover (target flags epoch : Nat)
  | handoverEnd (result active first : Nat)
  | inputs (bad : Bool)
  | arbitration (replayDiffers katFailed : Bool)
  deriving DecidableEq, Repr

/-- A control message with its sender. -/
structure RlCtl where
  from_ : Nat
  what : RlControl
  crcOk : Bool
  deriving DecidableEq, Repr

/-- What the module sends on the redundancy link. -/
inductive RlTx where
  | beat (m : RlBeat)
  | record (m : RlRecord)
  | compare (m : RlCompare)
  | sealed (m : RlSeal)
  | repair (m : RlRepair)
  | verdict (m : RlVerdict)
  | control (m : RlCtl)
  deriving DecidableEq, Repr

/-- A peer as its heartbeats and the comparison show it: `judged` is the newest epoch compared with it, `run` the cycles in a row that disagreed, `prior` that run before the
newest, `fault` a comparison fault with it, `flags0` its flags when the run began; `mism` and `fwMism` that personality or firmware differ while it holds the token; `find` its input-agreement findings. -/
structure Peer where
  role : Role := .none
  present : Bool := false
  ready : Bool := false
  faulted : Bool := false
  latent : Bool := false
  flags : Nat := 0
  lastBeat : Nat := 0
  newest : Nat := 0
  saved : Nat := 0
  pref : Nat := 0
  mism : Bool := false
  fwMism : Bool := false
  agree : Bool := false
  judged : Nat := 0
  run : Nat := 0
  prior : Nat := 0
  fault : Bool := false
  flags0 : Nat := 0
  find : List (Nat × Nat × Nat) := []
  deriving DecidableEq, Repr

/-- A handover (R438): target, RETURN, the epoch in which it was accepted, the member that is Active at its start, the open request, whether command is on its way
back, the result of a failure, whether the epoch of its acceptance is mirrored. -/
structure Handover where
  target : Nat
  back : Bool
  epoch : Nat
  origin : Nat
  id : Option Nat
  onWayBack : Bool
  result : Option Nat
  armed : Bool
  deriving DecidableEq, Repr

/-- The Redundancy Manager. `loop`, `demand` are the loop currents in 0.1 mA; `idleSince` since when the loop is idle, `lastToggle` the own firmware's newest
toggle, `lastEdge` the newest edge sensed; `onAt` when the driver was switched on before confirmation, `confirmed` when the token was confirmed; `rlLost`, `edgeLost`
that the Active's heartbeats or toggles are missing; `conflict` that a peer has the same number; `base` is the newest epoch held intact that passes R25, `held` the newest received intact, `announced` the newest the
Active announced; `agreeRun` consecutive agreeing cycles, `counted` the newest cycle counted, `fit` that the last 100 compared cycles agreed, those with a member
judged faulty left out, `wasFit` that this held before the run of disagreement; `discAt` the newest disagreeing cycle; `join` tells whether a join runs, `intactRun` epochs received intact in it;
`formUntil` the end of formation, `elect` the winner of the election; `cause`, `detectAt` of the takeover under way; `giveUp` that the token is to be given up after the next
tick, `releaseAt` when; `firstOwn` its first epoch in the Active role; `due` since when the
Active is judged faulty; `check` since when the output stage is checked; `readyUntil` the end of the old Active's second (R438); `own` the own compares of the newest cycles,
`theirs` those of the peers; `heldSet` the newest set the Active reported released, with its cycle; `others` cycles in a row in which the two peers disagreed, `othersAt` the newest of
them; `repEpoch` the newest epoch with a repaired part; `recErr` that a record of the present run of disagreement came with an error or by repair, `flags0` the flags at its start; `arb` the
disputed epoch of an arbitration, `ownArb`, `theirArb` its results (replay differs, test failed); `find` the findings (stream, kind, cycles in a row), `unseen` admitted samples not
received here, `inputs` the streams with an active input-path fault (R430); `recordShift` the shift of the cycle's phases (R418); `noLink` since when no field port has a link; `lastTest`, `lastTake` are VESSEL times. -/
structure Red where
  modNum : Nat := 0
  size : Nat := 0
  role : Role := .none
  token : Bool := false
  driver : Bool := false
  sink : Bool := false
  loop : Nat := 0
  demand : Nat := 0
  demandSince : Option Nat := none
  idleSince : Option Nat := none
  lastToggle : Nat := 0
  lastEdge : Nat := 0
  high : Bool := false
  onAt : Option Nat := none
  confirmed : Option Nat := none
  faulted : Bool := false
  latent : Bool := false
  unres : Bool := false
  rlLost : Bool := false
  edgeLost : Bool := false
  conflict : Bool := false
  flags : Nat := 0
  peers : List Peer := [{}, {}, {}]
  base : Option Sealed := none
  held : Nat := 0
  announced : Nat := 0
  agreeRun : Nat := 0
  counted : Nat := 0
  fit : Bool := false
  wasFit : Bool := false
  discAt : Nat := 0
  join : Bool := false
  intactRun : Nat := 0
  formUntil : Option Nat := none
  elect : Bool := false
  cause : Nat := 0
  detectAt : Nat := 0
  giveUp : Bool := false
  releaseAt : Option Nat := none
  firstOwn : Nat := 0
  due : Option Nat := none
  check : Option Nat := none
  handover : Option Handover := none
  readyUntil : Option Nat := none
  own : List RlCompare := []
  theirs : List RlCompare := []
  heldSet : Option (Nat × OutSet) := none
  others : Nat := 0
  othersAt : Nat := 0
  repEpoch : Nat := 0
  recErr : Bool := false
  flags0 : Nat := 0
  arb : Option Nat := none
  ownArb : Option (Bool × Bool) := none
  theirArb : Option (Bool × Bool) := none
  find : List (Nat × Nat × Nat) := []
  unseen : List Sample := []
  inputs : List Nat := []
  recordShift : Nat := 0
  pref : Nat := 0
  lastTest : Option Nat := none
  testResult : Nat := 0
  testDue : Bool := false
  testRaised : Nat := 0
  lastTake : Nat := 0
  lastCause : Nat := 0
  noLink : Option Nat := none
  deriving DecidableEq, Repr

/-- The number of the newest epoch held intact, 0 without one. -/
def Red.intact (r : Red) : Nat := match r.base with
  | some e => e.number
  | none => 0

end Sys2Proof.Machine
end

