-- ==== Sys2Proof/Machine/Types/Saf.lean ====
section
/-! DEFINITION. State of the Safety Evaluator (chapter 16) and what its paths measure. -/

namespace Sys2Proof.Machine

/-- A safety input (R395, R396). `a`, `b` are the last levels; `ea`, `eb` the levels outside the off-pulses; `shown` with `since` whether the
input shows a demand; `demand` the recognised state, `known` once one was recognised, `clearAt` when it last changed to clear. Bit 0 of the
masks is channel A, bit 1 channel B: `sawLow` low within the own pulse, `before` high before the other source's pulse, `fol` low throughout
it; `cross`, `short` the faults; `lowA`, `lowB` the start of a low of mode 3,
`upA`, `upB` the end of the last one that was no test pulse. -/
structure SiSt where
  a : Bool := false
  b : Bool := false
  ea : Bool := false
  eb : Bool := false
  shown : Bool := true
  since : Nat := 0
  demand : Bool := true
  known : Bool := false
  clearAt : Nat := 0
  disSince : Option Nat := none
  disc : Bool := false
  cross : Nat := 0
  short : Nat := 0
  sawLow : Nat := 0
  before : Nat := 0
  fol : Nat := 0
  tp : Nat := 0
  lowA : Option Nat := none
  lowB : Option Nat := none
  upA : Nat := 0
  upB : Nat := 0
  deriving DecidableEq, Repr

/-- A function (R397, R398): state 0 OFF, 1 READY, 2 ON, 3 FAULT; the input that last left ON; for a two-hand function whether both hands have
been released together since it was last on. -/
structure SafFn where
  state : Nat := 0
  cause : Nat := 0
  armed : Bool := false
  deriving DecidableEq, Repr

/-- The inhibit masks of a telegram (R400, R401). -/
structure SafMasks where
  thr : Nat := 0xFFFFFFFF
  ao : Nat := 0xFFFFFFFF
  dout : Nat := 0xFFFFFFFF
  stn0 : Nat := 0xFFFFFFFF
  stn1 : Nat := 0xFFFFFFFF
  deriving DecidableEq, Repr

/-- A consumer of the inhibit link (R401): masks taken, runs of bad and good telegrams, whether it inhibits everything. -/
structure SafCons where
  masks : SafMasks := {}
  bad : Nat := 0
  good : Nat := 0
  failed : Bool := false
  deriving DecidableEq, Repr

/-- What the SAF measures in a cycle (R403): readbacks, bit 2f high side and bit 2f + 1 low side of output f + 1; the cycle's length in ns;
whether the active configuration's CRC equals the stored value. -/
structure SafMeas where
  rb : Nat
  dur : Nat
  cfgOk : Bool
  deriving DecidableEq, Repr

/-- A user slot's password: salt and hash. -/
structure SafPw where
  salt : List Byte
  hash : Nat
  deriving DecidableEq, Repr

/-- An open session (R407). -/
structure SafSession where
  ident : Ident
  slot : Nat
  last : Nat
  deriving DecidableEq, Repr

/-- A committed configuration that applies at the next SAF cycle: bytes, slot of the session, open request. -/
structure SafPend where
  bytes : List Byte
  slot : Nat
  id : Nat
  deriving DecidableEq, Repr

/-- The Safety Evaluator. `so` holds the outputs commanded on, `soFlt` those held off by a fault; `log` the change log, newest first;
`pwSet` counts password changes; `evald` is set by the first evaluation. -/
structure Saf where
  si : List SiSt := List.replicate 8 {}
  fns : List SafFn := List.replicate 8 {}
  so : Nat := 0
  soFlt : Nat := 0
  intFlt : Bool := false
  evald : Bool := false
  masks : SafMasks := {}
  sent : SafMasks := {}
  cons : List SafCons := List.replicate 4 {}
  cfg : List Byte := List.replicate 512 0
  staging : List Byte := List.replicate 512 0
  errCode : Nat := 0
  errFn : Nat := 0
  pend : Option SafPend := none
  pws : List (Option SafPw) := [none, none, none, none]
  pwSet : Nat := 0
  sessions : List SafSession := []
  fails : List Int := []
  lockUntil : Option Nat := none
  log : List (List Byte) := []
  logSeq : Nat := 0
  dev : Int := 0
  deriving DecidableEq, Repr

end Sys2Proof.Machine
end

