-- ==== Sys2Proof/Operand.lean ====
section
/-! DEFINITION. The operands of the commands: requests as they arrive, and what the module's own units and sensors measure when something happens. Times are MONO in ns. -/

namespace Sys2Proof.Machine

/-- A request of a host as it arrives on a host port (R29, Table 2.1): arrival, port, link-layer, IPv4 and UDP source, TAG, sequence number, FORCE,
the trailer where AUTH is set, payload, the reserved bits [7:3] of the Flags byte. Its opcode is the command's. -/
structure Rq where
  t : Nat
  portB : Bool
  mac : Nat
  ip : Nat
  udp : Nat
  tag : Nat
  seq : Nat
  force : Bool
  trailer : Option (List Byte)
  payload : List Byte
  rsv : Nat := 0
  deriving DecidableEq, Repr

/-- What a register access by software meets: its stall in ns; the bits that hardware sets, the fields it updates with their values, the counts it adds and the requests it
completes, all in the clock of the access; and whether its crossing is abandoned (R72), with whether a write took effect. -/
structure Cross where
  stall : Nat
  setBits : Nat
  hwMask : Nat
  hwVal : Nat
  inc : Nat
  done : Nat
  lost : Option Bool
  deriving DecidableEq, Repr

/-- An access that meets nothing. -/
def Cross.plain : Cross := ⟨0, 0, 0, 0, 0, 0, none⟩

/-- A datagram to port 22480 as it arrives, whole. -/
structure RawDatagram where
  t : Nat
  portB : Bool
  mac : Nat
  ip : Nat
  udp : Nat
  bytes : List Byte
  deriving DecidableEq, Repr

/-- Why a frame or datagram is discarded (R30). -/
inductive DiscardWhy where
  | fragment
  | options
  | tagged
  deriving DecidableEq, Repr

/-- What is measured up to a millisecond tick (R363, R365, R420): readbacks of the analogue outputs as s1.23, levels and trips of the digital outputs,
currents of the token and the demand loop in 0.1 mA. -/
structure MsMeas where
  ao : List Int
  doLevel : Nat
  doTrip : Nat
  loop : Nat
  demand : Nat
  deriving DecidableEq, Repr

/-- What a power-on finds (R487, R489, R508, R449): the time since the seal of the saved epoch by the AON counter, none where the counter
stopped; the straps; whether EXTSEL's input has stayed within ±5 ppm; whether the preferred firmware image passes verification (R521); recorder
slots whose CRC fails. -/
structure PowerOn where
  gap : Option Nat
  mod0 : Bool
  mod1 : Bool
  extsel : Bool
  extOk : Bool
  serviceEn : Bool
  imgOk : Bool
  lost : List Nat
  deriving DecidableEq, Repr

/-- Why the main reference is given up (R479): the oven failed, or the external input was lost. -/
inductive RefWhy where
  | ovenFailed
  | extLost
  deriving DecidableEq, Repr

/-- A PK-20 frame whose function code is the command's (R467, R468): arrival of its last byte, path, address byte, data bytes, whether its BCC
checks. -/
structure PkFrame where
  t : Nat
  src : PkSrc
  station : Byte
  data : List Byte
  bccOk : Bool
  deriving DecidableEq, Repr

/-- A lane's work up to the output deadline (R219): lane, groups completed, whether the next one has started, and its iterations. -/
structure LaneProg where
  lane : Nat
  groups : Nat
  started : Bool
  iters : Nat
  deriving DecidableEq, Repr

end Sys2Proof.Machine
end

