-- ==== Sys2Proof/Syntax.lean ====
section
/-! DEFINITION. The commands: one constructor for each row of spec/opcode_table.json. -/

namespace Sys2Proof

open Sys2Proof.Machine

/-- A command of the VL480: a request of a host, a frame or message that arrives, a measurement, or a happening of the module's own units at its MONO time `t`. -/
inductive Instr where
  /-- NOP (R45). -/
  | nop (rq : Rq)
  /-- GET_IDENTITY (R45). -/
  | getIdentity (rq : Rq)
  /-- GET_STATUS (R529). -/
  | getStatus (rq : Rq)
  /-- RESET_COLD (R495). -/
  | resetCold (rq : Rq)
  /-- RESET_WARM (R495). -/
  | resetWarm (rq : Rq)
  /-- RESET_START (R495). -/
  | resetStart (t : Nat)
  /-- SET_EVENT_MASK (R51). -/
  | setEventMask (rq : Rq)
  /-- ACK_EVENT (R52). -/
  | ackEvent (rq : Rq)
  /-- ENTER_STANDBY (R491). -/
  | enterStandby (rq : Rq)
  /-- WAKE (R493). -/
  | wake (rq : Rq)
  /-- SELECT_PERSONALITY (R456). -/
  | selectPersonality (rq : Rq)
  /-- PERSONALITY_RESTART (R457). -/
  | personalityRestart (t : Nat)
  /-- REG_READ (R67). -/
  | regRead (rq : Rq) (x : Cross)
  /-- REG_WRITE (R66). -/
  | regWrite (rq : Rq) (x : Cross)
  /-- REG_READ_BLOCK (R68). -/
  | regReadBlock (rq : Rq) (xs : List Cross)
  /-- MBX_READ (R80). -/
  | mbxRead (rq : Rq) (x : Cross)
  /-- REGISTER_WRITE (R75). -/
  | registerWrite (t : Nat) (addr : Nat) (value : Nat) (x : Cross)
  /-- REG_CROSS_TIMEOUT (R72). -/
  | regCrossTimeout (rq : Rq) (op : Nat) (xs : List Cross) (took : Bool)
  /-- MBX_SEL_WRITE (R76). -/
  | mbxSelWrite (t : Nat) (value : Nat) (x : Cross)
  /-- MBX_SNAPSHOT_COMPLETE (R76). -/
  | mbxSnapshotComplete (t : Nat) (done : Nat)
  /-- MBX_DATA7_READ (R77). -/
  | mbxData7Read (t : Nat) (x : Cross)
  /-- CFG_OPEN (R54). -/
  | cfgOpen (rq : Rq)
  /-- CFG_WRITE (R55). -/
  | cfgWrite (rq : Rq)
  /-- CFG_READ (R55). -/
  | cfgRead (rq : Rq)
  /-- CFG_COMMIT (R56). -/
  | cfgCommit (rq : Rq)
  /-- CFG_ABORT (R58). -/
  | cfgAbort (rq : Rq)
  /-- CFG_GET_HASH (R57). -/
  | cfgGetHash (rq : Rq)
  /-- CFG_TXN_EXPIRED (R59). -/
  | cfgTxnExpired (t : Nat)
  /-- EVENT_RETX_ROUND (R53). -/
  | eventRetxRound (t : Nat)
  /-- EVT_DEST_LOST (R53). -/
  | evtDestLost (t : Nat)
  /-- HOST_PATH_LOST (R527). -/
  | hostPathLost (t : Nat)
  /-- ARP_REQUEST (R30). -/
  | arpRequest (t : Nat) (portB : Bool) (mac : Nat) (ip : Nat) (target : Nat)
  /-- ICMP_ECHO (R30). -/
  | icmpEcho (t : Nat) (portB : Bool) (mac : Nat) (ip : Nat) (data : List Byte)
  /-- IP_DISCARD (R30). -/
  | ipDiscard (t : Nat) (portB : Bool) (why : DiscardWhy)
  /-- CYCLE_TICK (R10). -/
  | cycleTick (t : Nat)
  /-- FUSION_PHASE_DONE (R107). -/
  | fusionPhaseDone (t : Nat)
  /-- CONTROL_LAW (R170). -/
  | controlLaw (t : Nat)
  /-- OSCILLATION_TIMEOUT (R167). -/
  | oscillationTimeout (t : Nat)
  /-- CTL_JOY_TIMEOUT (R152). -/
  | ctlJoyTimeout (t : Nat)
  /-- CTL_TRAVERSE_DONE (R162). -/
  | ctlTraverseDone (t : Nat)
  /-- WIND_HOLD_EXPIRY (R158). -/
  | windHoldExpiry (t : Nat)
  /-- SL0_START (R12). -/
  | sl0Start (t : Nat)
  /-- SL0_COMPLETE (R193). -/
  | sl0Complete (t : Nat)
  /-- SL0_DEADLINE (R14). -/
  | sl0Deadline (t : Nat) (iters : Nat)
  /-- SCENARIO_COMPLETE (R218). -/
  | scenarioComplete (t : Nat) (lane : Nat)
  /-- ALC_CONSEQUENCE (R221). -/
  | alcConsequence (t : Nat)
  /-- CONSEQUENCE_CLEAR (R221). -/
  | consequenceClear (t : Nat)
  /-- OUTPUT_DEADLINE (R16). -/
  | outputDeadline (t : Nat) (prog : List LaneProg)
  /-- EPOCH_SEAL (R23). -/
  | epochSeal (t : Nat)
  /-- SEAL_FAULT (R24). -/
  | sealFault (t : Nat)
  /-- MIRROR_COMPLETE (R41). -/
  | mirrorComplete (t : Nat)
  /-- COLLECTOR_DRAIN_PASS (R27). -/
  | collectorDrainPass (t : Nat)
  /-- MILLISECOND_TICK (R18). -/
  | millisecondTick (t : Nat) (meas : MsMeas)
  /-- BUS_SECTION_RETURN (R212). -/
  | busSectionReturn (t : Nat)
  /-- SRV_VALIDATION (R237). -/
  | srvValidation (t : Nat)
  /-- SRV_PHASE_OVERRUN (R239). -/
  | srvPhaseOverrun (t : Nat)
  /-- CHAIN_COPY_RETURN (R327). -/
  | chainCopyReturn (t : Nat) (copy : ChainCopy)
  /-- CHAIN_CYCLE_COMPLETE (R327). -/
  | chainCycleComplete (t : Nat)
  /-- CHAIN_FORWARD (R341). -/
  | chainForward (t : Nat) (portB : Bool) (mac : Nat) (frame : List Byte)
  /-- FLD_FOREIGN (R339). -/
  | fldForeign (t : Nat) (portB : Bool) (mac : Nat)
  /-- CHAIN_SCAN_SEND (R336). -/
  | chainScanSend (t : Nat)
  /-- CHAIN_SCAN_COMPLETE (R337). -/
  | chainScanComplete (t : Nat) (a : Option (List ScanEntry)) (b : Option (List ScanEntry))
  /-- FLD_PORT_LINK (R323). -/
  | fldPortLink (t : Nat) (portB : Bool) (up : Bool)
  /-- FUS_GET_SOLUTION (R138). -/
  | fusGetSolution (rq : Rq)
  /-- FUS_GET_STREAM (R530). -/
  | fusGetStream (rq : Rq)
  /-- FUS_SET_STREAM_STATE_DESELECT (R139). -/
  | fusSetStreamStateDeselect (rq : Rq)
  /-- FUS_SET_STREAM_STATE_SELECT (R139). -/
  | fusSetStreamStateSelect (rq : Rq)
  /-- FUS_SET_STREAM_STATE_READMIT (R139). -/
  | fusSetStreamStateReadmit (rq : Rq)
  /-- FUS_CAL_CONTROL_START (R135). -/
  | fusCalControlStart (rq : Rq)
  /-- FUS_CAL_CONTROL_FREEZE (R137). -/
  | fusCalControlFreeze (rq : Rq)
  /-- FUS_CAL_CONTROL_RESUME (R137). -/
  | fusCalControlResume (rq : Rq)
  /-- FUS_CAL_CONTROL_ACCEPT (R137). -/
  | fusCalControlAccept (rq : Rq)
  /-- FUS_CAL_CONTROL_DISCARD (R135). -/
  | fusCalControlDiscard (rq : Rq)
  /-- FUS_INJECT (R112). -/
  | fusInject (rq : Rq)
  /-- DP_SET_MODE (R148). -/
  | dpSetMode (rq : Rq)
  /-- DP_SET_TARGET (R150). -/
  | dpSetTarget (rq : Rq)
  /-- DP_TRAVERSE (R160). -/
  | dpTraverse (rq : Rq)
  /-- DP_JOYSTICK (R151). -/
  | dpJoystick (rq : Rq)
  /-- DP_GET_STATE (R171). -/
  | dpGetState (rq : Rq)
  /-- DP_TAKE_COMMAND_TAKE (R146). -/
  | dpTakeCommandTake (rq : Rq)
  /-- DP_TAKE_COMMAND_RELEASE (R146). -/
  | dpTakeCommandRelease (rq : Rq)
  /-- ALC_GET_RESULT (R202). -/
  | alcGetResult (rq : Rq)
  /-- ALC_SET_THRUSTER_STATE_DISABLE (R202). -/
  | alcSetThrusterStateDisable (rq : Rq)
  /-- ALC_SET_THRUSTER_STATE_ENABLE (R202). -/
  | alcSetThrusterStateEnable (rq : Rq)
  /-- ALC_GET_CONSEQUENCE (R224). -/
  | alcGetConsequence (rq : Rq)
  /-- ALC_SET_POWER_LIMITS (R224). -/
  | alcSetPowerLimits (rq : Rq)
  /-- SRV_GET_STATE (R243). -/
  | srvGetState (rq : Rq)
  /-- SRV_TABLE_LOAD (R235). -/
  | srvTableLoad (rq : Rq)
  /-- LGC_LOAD_IMAGE_BEGIN (R384). -/
  | lgcLoadImageBegin (rq : Rq)
  /-- LGC_LOAD_IMAGE_DATA (R384). -/
  | lgcLoadImageData (rq : Rq)
  /-- LGC_LOAD_IMAGE_INSTALL (R384). -/
  | lgcLoadImageInstall (rq : Rq)
  /-- LGC_START (R385). -/
  | lgcStart (rq : Rq)
  /-- LGC_STOP (R385). -/
  | lgcStop (rq : Rq)
  /-- LGC_SET_VALUE (R387). -/
  | lgcSetValue (rq : Rq)
  /-- LGC_GET_VALUE (R389). -/
  | lgcGetValue (rq : Rq)
  /-- LGC_GET_STATUS (R389). -/
  | lgcGetStatus (rq : Rq)
  /-- LOGIC_CYCLE (R378). -/
  | logicCycle (t : Nat)
  /-- LOGIC_CYCLE_COMPLETE (R380). -/
  | logicCycleComplete (t : Nat)
  /-- REC_SET_CURSOR (R451). -/
  | recSetCursor (rq : Rq)
  /-- REC_READ (R451). -/
  | recRead (rq : Rq)
  /-- REC_CLEAR (R450). -/
  | recClear (rq : Rq)
  /-- REC_WRITE_USER (R453). -/
  | recWriteUser (rq : Rq)
  /-- REC_RECORD_WRITE (R447). -/
  | recRecordWrite (t : Nat) (ok1 : Bool) (ok2 : Bool)
  /-- REC_COALESCE_END (R444). -/
  | recCoalesceEnd (t : Nat)
  /-- REC_CURSOR_WRITE (R454). -/
  | recCursorWrite (t : Nat) (value : Nat)
  /-- REC_WINDOW_LOADED (R454). -/
  | recWindowLoaded (t : Nat)
  /-- TIM_GET (R263). -/
  | timGet (rq : Rq)
  /-- TIM_SET_PPS_EPOCH (R264). -/
  | timSetPpsEpoch (rq : Rq)
  /-- TIM_SET_HOST_TIME (R264). -/
  | timSetHostTime (rq : Rq)
  /-- TIM_ACCEPT_JUMP (R252). -/
  | timAcceptJump (rq : Rq)
  /-- VESSEL_MEASUREMENT (R250). -/
  | vesselMeasurement (t : Nat)
  /-- TIME_REFERENCE_LOST (R249). -/
  | timeReferenceLost (t : Nat)
  /-- TIM_SOURCE_SWITCH (R253). -/
  | timSourceSwitch (t : Nat)
  /-- TIM_HOLDOVER_LIMIT (R256). -/
  | timHoldoverLimit (t : Nat)
  /-- PPS_IN_EDGE (R259). -/
  | ppsInEdge (t : Nat)
  /-- PPS_IN_LOST (R259). -/
  | ppsInLost (t : Nat)
  /-- PPS_OUTPUT_EDGE (R260). -/
  | ppsOutputEdge (t : Nat)
  /-- PTP_MESSAGE (R257). -/
  | ptpMessage (t : Nat) (msg : PtpMsg)
  /-- PTP_SYNC_TX (R257). -/
  | ptpSyncTx (t : Nat) (mbps : Nat)
  /-- GNSS_MEASUREMENT_EPOCH (R274). -/
  | gnssMeasurementEpoch (t : Nat) (meas : GnssMeas)
  /-- GB_SAMPLE_HANDOVER (R278). -/
  | gbSampleHandover (t : Nat) (late : List Nat)
  /-- ACQUISITION_DETECT (R271). -/
  | acquisitionDetect (t : Nat) (input : Nat) (cells : List AcqCell)
  /-- CHANNEL_LOCK_LOSS (R273). -/
  | channelLockLoss (t : Nat) (input : Nat) (chan : Nat) (why : ChanLoss)
  /-- GNS_SIGNAL (R273). -/
  | gnsSignal (t : Nat) (input : Nat) (levels : List (Nat × Nat × Nat))
  /-- ANTENNA_SUPPLY_CHECK (R270). -/
  | antennaSupplyCheck (t : Nat) (ma1 : Nat) (ma2 : Nat)
  /-- ANTENNA_RETRY (R270). -/
  | antennaRetry (t : Nat) (ma1 : Nat) (ma2 : Nat)
  /-- RTCM_FRAME (R279). -/
  | rtcmFrame (t : Nat) (frame : List Byte)
  /-- CORRECTION_EXPIRY (R280). -/
  | correctionExpiry (t : Nat)
  /-- GNSS_STORE_WRITE (R292). -/
  | gnssStoreWrite (t : Nat) (whole : Bool)
  /-- GNS_GET_FIX (R289). -/
  | gnsGetFix (rq : Rq)
  /-- GNS_GET_CHANNELS (R289). -/
  | gnsGetChannels (rq : Rq)
  /-- GNS_SET_CORRECTIONS (R289). -/
  | gnsSetCorrections (rq : Rq)
  /-- GNS_COLD_START (R287). -/
  | gnsColdStart (rq : Rq)
  /-- SERIAL_SENTENCE (R296). -/
  | serialSentence (t : Nat) (port : Nat)
  /-- SERIAL_BYTE (R295). -/
  | serialByte (t : Nat) (port : Nat) (data : Byte) (framing : Bool)
  /-- LNK_SER_SILENT (R301). -/
  | lnkSerSilent (t : Nat)
  /-- SERIAL_TX_COMPLETE (R302). -/
  | serialTxComplete (t : Nat) (port : Nat)
  /-- ALERT_ALF_REPEAT (R303). -/
  | alertAlfRepeat (t : Nat)
  /-- ALERT_ALC_LIST (R303). -/
  | alertAlcList (t : Nat)
  /-- IEC_450_DATAGRAM (R304). -/
  | iec450Datagram (t : Nat) (portB : Bool) (group : Nat) (port : Nat) (src : Nat) (data : List Byte)
  /-- CAN_FRAME_RX (R310). -/
  | canFrameRx (t : Nat) (ctl : Nat) (frame : CanFrame)
  /-- CAN_TX_COMPLETE (R311). -/
  | canTxComplete (t : Nat) (ctl : Nat) (obj : Nat) (res : CanTx)
  /-- CAN_BUS_INTEGRATION (R308). -/
  | canBusIntegration (t : Nat) (ctl : Nat)
  /-- CAN_CTRL_RESTART (R309). -/
  | canCtrlRestart (t : Nat) (ctl : Nat) (x : Cross)
  /-- CAN_FIFO_POP (R310). -/
  | canFifoPop (t : Nat) (ctl : Nat) (fifo : Nat) (x : Cross)
  /-- CRC_INIT (R317). -/
  | crcInit (t : Nat) (unit : Nat) (x : Cross)
  /-- CRC_START (R317). -/
  | crcStart (t : Nat) (unit : Nat) (x : Cross)
  /-- CRC_DMA_COMPLETE (R317). -/
  | crcDmaComplete (t : Nat) (unit : Nat)
  /-- CRC_DATA_WRITE (R317). -/
  | crcDataWrite (t : Nat) (unit : Nat) (value : Nat) (x : Cross)
  /-- CRC_VALUE_WRITE (R317). -/
  | crcValueWrite (t : Nat) (unit : Nat) (value : Nat) (x : Cross)
  /-- LNK_GET_COUNTERS (R318). -/
  | lnkGetCounters (rq : Rq)
  /-- LNK_CAN_TX (R311). -/
  | lnkCanTx (rq : Rq)
  /-- LNK_SER_TX (R318). -/
  | lnkSerTx (rq : Rq)
  /-- FLD_GET_STATION (R343). -/
  | fldGetStation (rq : Rq)
  /-- FLD_SCAN (R343). -/
  | fldScan (rq : Rq)
  /-- AIO_FILTER_OUTPUT (R350). -/
  | aioFilterOutput (t : Nat) (chan : Nat) (raw : AioRaw)
  /-- DI_SAMPLE (R364). -/
  | diSample (t : Nat) (levels : Nat)
  /-- DO_TRIP_RETRY (R365). -/
  | doTripRetry (t : Nat) (out : Nat)
  /-- AIO_FILTER_SET_STOP (R354). -/
  | aioFilterSetStop (rq : Rq)
  /-- AIO_FILTER_SET_LOAD (R354). -/
  | aioFilterSetLoad (rq : Rq)
  /-- AIO_FILTER_SET_START (R354). -/
  | aioFilterSetStart (rq : Rq)
  /-- AIO_CAL_POINT1 (R366). -/
  | aioCalPoint1 (rq : Rq)
  /-- AIO_CAL_POINT2 (R366). -/
  | aioCalPoint2 (rq : Rq)
  /-- AIO_CAL_COMMIT (R366). -/
  | aioCalCommit (rq : Rq)
  /-- AIO_CAL_FACTORY (R366). -/
  | aioCalFactory (rq : Rq)
  /-- SAF_INPUT_SAMPLE (R395). -/
  | safInputSample (t : Nat) (levels : Nat) (tp : Nat)
  /-- SAF_CYCLE (R397). -/
  | safCycle (t : Nat) (meas : SafMeas)
  /-- SAF_TELEGRAM (R401). -/
  | safTelegram (t : Nat)
  /-- SAF_TELEGRAM_RX (R401). -/
  | safTelegramRx (t : Nat) (consumer : Nat) (ok : Bool)
  /-- SAF_OUTPUT_TEST (R403). -/
  | safOutputTest (t : Nat) (out : Nat) (low : Bool) (ok : Bool)
  /-- SAF_CLOCK_CHECK (R403). -/
  | safClockCheck (t : Nat) (ticks : Nat)
  /-- SAF_MEMORY_TEST (R403). -/
  | safMemoryTest (t : Nat) (ok : Bool)
  /-- SAF_SESSION_TIMEOUT (R407). -/
  | safSessionTimeout (t : Nat)
  /-- SAF_LOCKOUT_END (R407). -/
  | safLockoutEnd (t : Nat)
  /-- SAF_LOGIN_LOGIN (R407). -/
  | safLoginLogin (rq : Rq)
  /-- SAF_LOGIN_LOGOUT (R407). -/
  | safLoginLogout (rq : Rq)
  /-- SAF_LOGIN_CHANGE_PASSWORD (R407). -/
  | safLoginChangePassword (rq : Rq)
  /-- SAF_CFG_WRITE (R408). -/
  | safCfgWrite (rq : Rq)
  /-- SAF_CFG_COMMIT (R408). -/
  | safCfgCommit (rq : Rq)
  /-- SAF_GET_LOG (R410). -/
  | safGetLog (rq : Rq)
  /-- SAF_RESET_FUNCTION (R410). -/
  | safResetFunction (rq : Rq)
  /-- RED_GET_STATE (R439). -/
  | redGetState (rq : Rq)
  /-- RED_REQUEST_HANDOVER (R438). -/
  | redRequestHandover (rq : Rq)
  /-- RED_SET_ROLE_PREF (R439). -/
  | redSetRolePref (rq : Rq)
  /-- RECORD_MESSAGE (R418). -/
  | recordMessage (t : Nat) (m : RlRecord)
  /-- RECORD_TIMEOUT (R418). -/
  | recordTimeout (t : Nat)
  /-- COMPARE_MESSAGE (R427). -/
  | compareMessage (t : Nat) (m : RlCompare)
  /-- VERDICT_MESSAGE (R417). -/
  | verdictMessage (t : Nat) (m : RlVerdict)
  /-- SEAL_MESSAGE (R419). -/
  | sealMessage (t : Nat) (m : RlSeal)
  /-- REPAIR_MESSAGE (R425). -/
  | repairMessage (t : Nat) (m : RlRepair)
  /-- CONTROL_MESSAGE (R417). -/
  | controlMessage (t : Nat) (m : RlCtl)
  /-- HEARTBEAT_MESSAGE (R417). -/
  | heartbeatMessage (t : Nat) (m : RlBeat)
  /-- HEARTBEAT_LOSS (R432). -/
  | heartbeatLoss (t : Nat)
  /-- TOKEN_WATCHDOG (R420). -/
  | tokenWatchdog (t : Nat)
  /-- LOOP_IDLE_WAIT (R421). -/
  | loopIdleWait (t : Nat) (idle : Nat)
  /-- TOKEN_CONFIRM (R421). -/
  | tokenConfirm (t : Nat) (loop : Nat)
  /-- DEMAND_RELEASE (R422). -/
  | demandRelease (t : Nat)
  /-- TOKEN_RELEASE (R423). -/
  | tokenRelease (t : Nat)
  /-- RED_TAKEOVER (R433). -/
  | redTakeover (t : Nat)
  /-- OUTPUT_STAGE_CHECK (R437). -/
  | outputStageCheck (t : Nat) (cmdValid : Bool)
  /-- FORMATION_TIMEOUT (R424). -/
  | formationTimeout (t : Nat)
  /-- ARBITRATION_REPLAY_DONE (R429). -/
  | arbitrationReplayDone (t : Nat) (differs : Bool) (katFailed : Bool)
  /-- RED_TEST (R438). -/
  | redTest (t : Nat)
  /-- KNOWN_ANSWER_TEST (R431). -/
  | knownAnswerTest (t : Nat) (failed : Nat)
  /-- POWER_ON (R487). -/
  | powerOn (p : PowerOn)
  /-- COMMAND_CHANNEL_READY (R62). -/
  | commandChannelReady (t : Nat)
  /-- DP_READY (R487). -/
  | dpReady (t : Nat)
  /-- WARM_RESTART (R490). -/
  | warmRestart (t : Nat)
  /-- FEED_SAMPLE (R499). -/
  | feedSample (t : Nat) (mvA : Int) (maA : Nat) (mvB : Int) (maB : Nat)
  /-- RIDE_THROUGH_EXPIRY (R501). -/
  | rideThroughExpiry (t : Nat)
  /-- STORE_RESERVE_REACHED (R501). -/
  | storeReserveReached (t : Nat)
  /-- SAVE_COMPLETE (R503). -/
  | saveComplete (t : Nat) (ok : Bool)
  /-- CORE_RESTART (R503). -/
  | coreRestart (p : PowerOn)
  /-- AUX_SUPPLY_SAMPLE (R505). -/
  | auxSupplySample (t : Nat) (sMv : Int) (doMv : Int)
  /-- ENV_LIMIT (R513). -/
  | envLimit (t : Nat) (base : Int)
  /-- CLK_REFERENCE (R479). -/
  | clkReference (t : Nat) (why : RefWhy)
  /-- EXT_REFERENCE_RETURN (R479). -/
  | extReferenceReturn (t : Nat)
  /-- RC_TRIM (R479). -/
  | rcTrim (t : Nat) (khz : Nat)
  /-- CLK_OSC_WARM (R480). -/
  | clkOscWarm (t : Nat) (terr : Int)
  /-- OPPOINT_STEP (R482). -/
  | oppointStep (t : Nat)
  /-- THERMAL_STEPDOWN (R483). -/
  | thermalStepdown (t : Nat) (die : Int)
  /-- THERMAL_RECOVERY (R483). -/
  | thermalRecovery (t : Nat) (die : Int)
  /-- CLK_LOCK (R485). -/
  | clkLock (t : Nat) (domain : Nat) (pllB : Bool)
  /-- PLL_RELOCK (R485). -/
  | pllRelock (t : Nat) (domain : Nat) (pllB : Bool) (ok : Bool)
  /-- FW_UPDATE_BEGIN (R522). -/
  | fwUpdateBegin (rq : Rq)
  /-- FW_UPDATE_DATA (R522). -/
  | fwUpdateData (rq : Rq)
  /-- FW_UPDATE_END_VERIFY (R523). -/
  | fwUpdateEndVerify (rq : Rq)
  /-- FW_UPDATE_END_VERIFY_START (R523). -/
  | fwUpdateEndVerifyStart (rq : Rq)
  /-- FW_UPDATE_END_ABANDON (R523). -/
  | fwUpdateEndAbandon (rq : Rq)
  /-- FW_UPDATE_TIMEOUT (R522). -/
  | fwUpdateTimeout (t : Nat)
  /-- TRIAL_WATCHDOG (R524). -/
  | trialWatchdog (t : Nat)
  /-- SERVICE (R520). -/
  | service (rq : Rq) (xs : List Cross)
  /-- LIOSH_HELP (R518). -/
  | lioshHelp (t : Nat)
  /-- LIOSH_ID (R518). -/
  | lioshId (t : Nat)
  /-- LIOSH_STATUS (R518). -/
  | lioshStatus (t : Nat) (xs : List Cross)
  /-- LIOSH_REG (R518). -/
  | lioshReg (t : Nat) (addr : Nat) (count : Nat) (xs : List Cross)
  /-- LIOSH_MBX (R518). -/
  | lioshMbx (t : Nat) (id : Nat) (x : Cross)
  /-- LIOSH_EVENTS (R518). -/
  | lioshEvents (t : Nat) (xs : List Cross)
  /-- LIOSH_REC (R518). -/
  | lioshRec (t : Nat) (first : Nat) (n : Nat)
  /-- LIOSH_TIME (R518). -/
  | lioshTime (t : Nat) (xs : List Cross)
  /-- LIOSH_LINKS (R518). -/
  | lioshLinks (t : Nat) (xs : List Cross)
  /-- LIOSH_SERVICE (R516). -/
  | lioshService (t : Nat)
  /-- LIOSH_VIEW (R516). -/
  | lioshView (t : Nat)
  /-- LIOSH_REGW (R518). -/
  | lioshRegw (t : Nat) (addr : Nat) (value : Nat) (x : Cross)
  /-- LIOSH_KAT (R518). -/
  | lioshKat (t : Nat) (failed : Nat)
  /-- LIOSH_FW_SELECT (R518). -/
  | lioshFwSelect (t : Nat) (imageB : Bool)
  /-- LIOSH_RESET_COLD (R518). -/
  | lioshResetCold (t : Nat)
  /-- LIOSH_RESET_WARM (R518). -/
  | lioshResetWarm (t : Nat)
  /-- PK20_OUTPUT_WRITE (R19). -/
  | pk20OutputWrite (t : Nat)
  /-- PK20_FRAME_GAP (R468). -/
  | pk20FrameGap (t : Nat) (port : Nat)
  /-- READ_STATUS (R469). -/
  | readStatus (f : PkFrame)
  /-- READ_POSITION (R469). -/
  | readPosition (f : PkFrame)
  /-- READ_HEADING (R471). -/
  | readHeading (f : PkFrame)
  /-- READ_THRUSTER (R469). -/
  | readThruster (f : PkFrame)
  /-- READ_COMMANDS (R463). -/
  | readCommands (f : PkFrame)
  /-- READ_ALARMS (R472). -/
  | readAlarms (f : PkFrame)
  /-- ACK_ALARM (R472). -/
  | ackAlarm (f : PkFrame)
  /-- SET_MODE (R469). -/
  | setMode (f : PkFrame)
  /-- SET_POSITION (R469). -/
  | setPosition (f : PkFrame)
  /-- SET_HEADING (R469). -/
  | setHeading (f : PkFrame)
  /-- JOYSTICK (R469). -/
  | joystick (f : PkFrame)
  /-- THRUSTER_ENABLE (R469). -/
  | thrusterEnable (f : PkFrame)
  /-- READ_REFS (R469). -/
  | readRefs (f : PkFrame)
  /-- SELECT_REF (R469). -/
  | selectRef (f : PkFrame)
  /-- READ_TIME (R469). -/
  | readTime (f : PkFrame)
  /-- READ_CONSEQUENCE (R469). -/
  | readConsequence (f : PkFrame)
  /-- UNDEFINED_OPCODE_REQUEST (R45). -/
  | undefinedOpcodeRequest (dg : RawDatagram)
  /-- CAN_BUS_ERROR (R309). -/
  | canBusError (t : Nat) (ctl : Nat) (err : CanErr)
  /-- PULL_IN_LOCK (R273). -/
  | pullInLock (t : Nat) (input : Nat) (chan : Nat) (low : Nat) (ns : Nat)
  /-- NAV_DATA_DECODED (R273). -/
  | navDataDecoded (t : Nat) (input : Nat) (chan : Nat) (data : NavData)
  /-- PTP_DELAY_REQ_TX (R257). -/
  | ptpDelayReqTx (t : Nat) (mbps : Nat)
  /-- OPERATING_TIME_SAVE (R445). -/
  | operatingTimeSave (t : Nat)
  /-- ENERGY_STORE_CHARGED (R502). -/
  | energyStoreCharged (t : Nat)
  /-- AON_BACKUP_CHARGED (R504). -/
  | aonBackupCharged (t : Nat)
  /-- LIOSH_CHARACTER (R515). -/
  | lioshCharacter (t : Nat) (data : Byte) (xs : List Cross)
  /-- PK20_UNKNOWN_FUNCTION (R470). -/
  | pk20UnknownFunction (f : PkFrame) (hi : Byte) (lo : Byte)
  deriving DecidableEq, Repr

end Sys2Proof
end

