-- ==== Sys2Proof/Config.lean ====
section
/-! DEFINITION. What the spec leaves to the implementation or to chance: opaque constants, of which nothing can be evaluated or proved. -/

namespace Sys2Proof

/-- A value the spec does not state: `tag` is the number of the assumption log's entry that names it, `args` what it may depend on. -/
opaque Config.freeInt : (tag : Nat) → (args : List Int) → Int

/-- As `freeInt`, for a natural number. -/
opaque Config.freeNat : (tag : Nat) → (args : List Int) → Nat

/-- Bytes the spec does not state (`args` are the bytes they may depend on). -/
opaque Config.freeBytes : (tag : Nat) → (args : List (BitVec 8)) → List (BitVec 8)

/-- Serial number of the module (GET_IDENTITY). -/
opaque Config.serial : Nat

/-- The serialisation of a configuration over which the configuration hash is taken (R57): of the bytes that differ from their reset values. -/
opaque Config.image : List (Nat × BitVec 8) → List (BitVec 8)

/-- Salted password hash of R407: salt, password. -/
opaque Config.passwordHash : List (BitVec 8) → List (BitVec 8) → Nat

/-- Salt of a stored password (R407), by slot and occurrence. -/
opaque Config.salt : Nat → Nat → List (BitVec 8)

/-- The vendor public keys in one-time memory (Table 22.2): affine coordinates on P-256, by index. -/
opaque Config.vendorKey : Nat → Nat × Nat

/-- The MAC address of field port A or B (R324). -/
opaque Config.fieldMac : Bool → Nat

end Sys2Proof
end

