-- ==== Sys2Proof/Machine/CfgStore.lean ====
section
/-! DEFINITION. The configuration store: the items, their sizes and reset bytes (R61 and every owning chapter's item table), and reading them. -/

namespace Sys2Proof.Machine

/-- u16.16 of hundredths. -/
def fx100 (n : Nat) : Nat := (n * 65536 + 50) / 100

/-- Size in bytes of a configuration item; none where the item is unknown (R55). -/
def itemSize (item : Nat) : Option Nat :=
  if 0x0B10 ≤ item ∧ item < 0x0B10 + 48 then some 512 else
  match item with
  | 0x0001 => some 2
  | 0x0002 => some 2
  | 0x0010 => some 4
  | 0x0011 => some 4
  | 0x0012 => some 4
  | 0x0013 => some 4
  | 0x0018 => some 96
  | 0x0020 => some 1
  | 0x0021 => some 32
  | 0x0100 => some 32
  | 0x0101 => some 16
  | 0x0102 => some 24
  | 0x0300 => some 64
  | 0x0301 => some 2048
  | 0x0302 => some 768
  | 0x0400 => some 128
  | 0x0401 => some 128
  | 0x0402 => some 24
  | 0x0500 => some 8
  | 0x0501 => some 1024
  | 0x0600 => some 512
  | 0x0601 => some 120
  | 0x0602 => some 64
  | 0x0603 => some 256
  | 0x0604 => some 64
  | 0x0605 => some 448
  | 0x0700 => some 24
  | 0x0701 => some 16
  | 0x0800 => some 16384
  | 0x0801 => some 32
  | 0x0802 => some 84
  | 0x0803 => some 96
  | 0x0804 => some 32
  | 0x0805 => some 2048
  | 0x0806 => some 16
  | 0x0900 => some 12
  | 0x0901 => some 192
  | 0x0902 => some 32
  | 0x0903 => some 464
  | 0x0904 => some 36
  | 0x0905 => some 28
  | 0x0A00 => some 1536
  | 0x0A01 => some 768
  | 0x0A02 => some 576
  | 0x0A03 => some 24
  | 0x0A10 => some 128
  | 0x0A11 => some 128
  | 0x0A12 => some 1536
  | 0x0A13 => some 16
  | 0x0B00 => some 3072
  | 0x0C00 => some 1048576
  | 0x0C01 => some 1
  | 0x0D00 => some 64
  | 0x0E00 => some 16
  | 0x0F00 => some 32
  | 0x0F01 => some 48
  | 0x0F02 => some 64
  | _ => none

/-- The reset bytes of an item whose reset is one record: the record repeats through the item. -/
def itemReset (item : Nat) : List Byte :=
  match item with
  | 0x0001 => u16 10
  | 0x0002 => u16 450
  | 0x0010 => [192, 168, 48, 10]
  | 0x0011 => [255, 255, 255, 0]
  | 0x0012 => [192, 168, 49, 10]
  | 0x0013 => [255, 255, 255, 0]
  | 0x0100 => [1, 0xFF, 0, 0] ++ u32 1000000 ++ u32 1000000 ++ u32 1000000 ++ u32 10000 ++ u16 60 ++ u16 37 ++ zeros 8
  | 0x0101 => [0, 0, 0, 1, 128, 128, 0, 1, 0, 3] ++ u16 16 ++ zeros 4
  | 0x0102 => [3, 0] ++ u16 100 ++ u32 0 ++ [1, 0] ++ u16 100 ++ u32 0 ++ zeros 8
  | 0x0400 => [1, 0] ++ u32 4800 ++ [0, 0] ++ u16 50 ++ u16 0 ++ u32 (2 * 65536)
  | 0x0402 => zeros 16 ++ [0x44, 0x50, 0x30, 0x30, 0x30, 0x31, 0, 0]
  | 0x0500 => [0, 3] ++ u16 100 ++ zeros 4
  | 0x0600 => zeros 4 ++ u32 (2 ^ 23) ++ zeros 8
  | 0x0601 => (List.replicate 5 ([1, 1, 0, 0] ++ u32 5120)).flatten ++ zeros 80
  | 0x0603 => [0, 0] ++ u16 0x8000 ++ u32 65536 ++ u32 32768 ++ u16 100 ++ u16 0
  | 0x0604 => u16 30
  | 0x0700 => [3, 5, 10, 0, 10, 4, 28, 0] ++ u16 640 ++ u16 30 ++ u32 0 ++ u32 (5 * 65536) ++ u32 32768
  | 0x0701 => u32 0 ++ u32 (fx100 5) ++ u32 0 ++ u32 (3 * 65536)
  | 0x0801 => u16 30 ++ u16 0
  | 0x0802 =>
    u32 5000 ++ u32 5000 ++ u32 2000000 ++ u32 200 ++ u32 400 ++ u32 150000 ++
    (List.replicate 3 (u32 ((8 * 2 ^ 28 + 5) / 10))).flatten ++ (List.replicate 3 (u32 ((2 ^ 28 + 5) / 10))).flatten ++
    (List.replicate 3 (u32 65536)).flatten ++ (List.replicate 3 (u32 (fx100 1))).flatten ++ (List.replicate 3 (u32 (4 * 65536))).flatten
  | 0x0803 =>
    let g := u32 (fx100 1083) ++ u32 (fx100 1382) ++ u32 (4 * 65536)
    g ++ u32 (2 * 65536) ++ g ++ u32 65536 ++ g ++ u32 (fx100 50) ++ g ++ u32 (15 * 65536) ++ g ++ u32 (fx100 30) ++ g ++ u32 (fx100 20)
  | 0x0804 =>
    u32 (fx100 50) ++ u32 65536 ++ u32 (fx100 1) ++ u32 (fx100 1) ++ u32 (30 * 65536) ++ u32 65536 ++ u32 (50 * 65536) ++ u32 (fx100 25)
  | 0x0900 => u32 1000 ++ u32 1000 ++ u32 50000
  | 0x0902 =>
    u16 52429 ++ u16 32768 ++ u16 19661 ++ u16 5000 ++ u16 1000 ++ u16 1 ++ u32 (2 * 65536) ++ u32 (2 * 65536) ++ zeros 12
  | 0x0903 => u32 65536 ++ u32 80347 ++ zeros 20 ++ u32 (10 * 65536) ++ zeros 432
  | 0x0904 =>
    let a := u32 (fx100 50) ++ u32 (fx100 5) ++ u32 (fx100 1)
    a ++ a ++ u32 65536 ++ u32 (fx100 10) ++ u32 (fx100 2)
  | 0x0905 =>
    u32 (fx100 20) ++ u32 (fx100 20) ++ u32 65536 ++ u32 65536 ++ u32 (20 * 65536) ++ u32 (300 * 65536) ++ u32 4
  | 0x0A00 => [0, 0xFF] ++ zeros 62
  | 0x0A03 => u32 (1024 * 65536) ++ u32 (1024 * 65536) ++ u32 (1024 * 65536) ++ u32 32768 ++ u16 66 ++ zeros 6
  | 0x0A10 => u32 0 ++ [0xFF, 0] ++ u16 100
  | 0x0A11 => [0xFF, 0xFF] ++ zeros 6 ++ u32 0xFFFFFFFF ++ u32 0
  | 0x0A13 => u32 (4096 * 65536) ++ u32 65536 ++ u16 1311 ++ u16 30 ++ u16 50 ++ u16 0
  | 0x0D00 =>
    [0, 5] ++ u16 0 ++ u16 100 ++ u16 30 ++ zeros 20 ++
    [192, 168, 48, 10, 192, 168, 49, 10, 3, 0, 0, 0] ++ [192, 168, 48, 11, 192, 168, 49, 11, 3, 0, 0, 0] ++
    [192, 168, 48, 12, 192, 168, 49, 12, 3, 0, 0, 0]
  | 0x0E00 => List.replicate 16 0xFF
  | 0x0F00 => [0x31, 0, 8, 0] ++ u32 (5 * 65536) ++ u32 (5 * 65536) ++ List.replicate 12 0xFF ++ zeros 8
  | 0x0F02 => zeros 36 ++ u16 52429 ++ u16 0 ++ u16 26214 ++ u16 5243 ++ u16 26214 ++ u16 5243 ++ u16 26214 ++ u16 5243 ++ zeros 12
  | _ => [0]

/-- The key of a byte of an item in the store. -/
def cfgKey (item off : Nat) : Nat := item * 2 ^ 24 + off

/-- What an item's byte reads as while no commit has changed it. -/
def cfgDflt (key : Nat) : Byte :=
  let r := itemReset (key / 2 ^ 24)
  r.getD ((key % 2 ^ 24) % r.length) 0

/-- The active byte of an item. -/
def cfgByte (m : Mem) (item off : Nat) : Byte := sparseGet cfgDflt m (cfgKey item off)

/-- `n` active bytes of an item from an offset. -/
def cfgBytes (m : Mem) (item off n : Nat) : List Byte := (List.range n).map (fun i => cfgByte m item (off + i))

def cfgU8 (m : Mem) (item off : Nat) : Nat := (cfgByte m item off).toNat
def cfgU16 (m : Mem) (item off : Nat) : Nat := leNat (cfgBytes m item off 2)
def cfgU32 (m : Mem) (item off : Nat) : Nat := leNat (cfgBytes m item off 4)
/-- A field within its encoding, and a free value of the encoding where the item holds another value: a host error that is not checked (R8, log 126). -/
def cfgWithin (item off lo hi v : Nat) : Nat :=
  if lo ≤ v ∧ v ≤ hi then v else lo + Config.freeNat 126 [(item : Int), (off : Int), (v : Int)] % (hi + 1 - lo)

def cfgS16 (m : Mem) (item off : Nat) : Int := signed 16 (cfgU16 m item off)
def cfgS32 (m : Mem) (item off : Nat) : Int := signed 32 (cfgU32 m item off)

/-- Bytes written over a store. -/
def memWrite (dflt : Nat → Byte) (m : Mem) (a : Nat) : List Byte → Mem
  | [] => m
  | b :: bs => memWrite dflt (sparseSet dflt m a b) (a + 1) bs

/-- Every staged cell written over the active store (R57). -/
def cfgApply (m : Mem) (staged : Mem) : Mem := staged.foldl (fun acc c => sparseSet cfgDflt acc c.1 c.2) m

/-- What a read of an open transaction returns for a byte: the staged byte where there is one, else the active byte (R55). -/
def stagedByte (m staged : Mem) (item off : Nat) : Byte :=
  match staged.find? (fun c => c.1 == cfgKey item off) with
  | some c => c.2
  | none => cfgByte m item off

/-- Whether a transaction stages any byte of an item. -/
def stagesItem (staged : Mem) (item : Nat) : Bool := staged.any (fun c => c.1 / 2 ^ 24 == item)

/-- Staging bytes of an item: later bytes replace earlier ones (R55). -/
def stageBytes (staged : Mem) (key : Nat) : List Byte → Mem
  | [] => staged
  | b :: bs => stageBytes (sparseInsert (sparseErase staged key) key b) (key + 1) bs

end Sys2Proof.Machine
end

