-- ==== Sys2Proof/Machine/Fixed.lean ====
section
/-! DEFINITION. Fixed-point arithmetic shared by the numeric engines: asr_round, the sine table of R101, angle conversions of R119 and R153, binary64 arithmetic (R120, R532). -/

namespace Sys2Proof.Machine

/-- asr_round(x, k) = (x + 2^(k-1)) shifted right arithmetically by k bits (chapter 04, Sample time and the clock model). -/
def asrRound (x : Int) (k : Nat) : Int :=
  if k = 0 then x else (x + (2 ^ (k - 1) : Nat)) / ((2 ^ k : Nat) : Int)

/-- Reduce a value with `fromF` fraction bits to `toF` fraction bits by asr_round; exact when `toF` is larger. -/
def toFrac (fromF toF : Nat) (x : Int) : Int :=
  if toF ≤ fromF then asrRound x (fromF - toF) else x * ((2 ^ (toF - fromF) : Nat) : Int)

/-- As `toFrac` with a shift that may be negative. -/
def asrRoundZ (x : Int) (k : Int) : Int :=
  if 0 ≤ k then asrRound x k.toNat else x * ((2 ^ (-k).toNat : Nat) : Int)

/-- A product reduced once by asr_round. -/
def mulAsr (a b : Int) (k : Nat) : Int := asrRound (a * b) k

/-- π with 100 fraction bits, rounded to nearest. -/
def pi100 : Nat := 3982441812995697363688351113952

/-- Terms of the sine series in 96 fraction bits: the running term, then the sum. -/
def sinSeries : Nat → Nat → Int → Int → Int → Int
  | 0, _, _, _, acc => acc
  | k + 1, n, x2, term, acc =>
    let t := -((term * x2) / ((2 ^ 96 : Nat) : Int)) / ((2 * n * (2 * n + 1) : Nat) : Int)
    sinSeries k (n + 1) x2 t (acc + t)

/-- t[k] = sin(k·π/8192) in s2.30 rounded to nearest, k = 0 to 4,096 (R101). -/
def sinTab (k : Nat) : Int :=
  let x : Int := ((k * pi100 / 2 ^ 17 : Nat) : Int)
  asrRound (sinSeries 24 1 (x * x / ((2 ^ 96 : Nat) : Int)) x x) 66

/-- The sine of a bam32 angle, s2.30 (R101). -/
def sinBam (ang : Nat) : Int :=
  let a := ang % 2 ^ 32
  let q := bits a 30 2
  let k := bits a 18 12
  let f : Int := (bits a 0 18 : Nat)
  let m : Int :=
    if q % 2 = 0 then sinTab k + asrRound ((sinTab (k + 1) - sinTab k) * f) 18
    else sinTab (4096 - k) + asrRound ((sinTab (4095 - k) - sinTab (4096 - k)) * f) 18
  if q < 2 then m else -m

/-- The cosine of a bam32 angle, s2.30 (R101). -/
def cosBam (ang : Nat) : Int := sinBam ((ang + 0x40000000) % 2 ^ 32)

/-- The stored form of an angle: modulo one full circle (R5). -/
def bamOf (i : Int) : Nat := unsigned 32 i

/-- A signed bam32 difference (R5). -/
def bamDiff (a b : Int) : Int := signed 32 (unsigned 32 (a - b))

/-- K of R153: round(2π × 2^28). -/
def kRad : Int := 1686629713

/-- A bam32 value or difference in rad with `fr` fraction bits (R153). -/
def bamToRad (n : Int) (fr : Nat) : Int := asrRound (n * kRad) (60 - fr)

/-- K_b of R119: 2^32 / 2π held as u32.16, rounded to nearest. -/
def kBam : Int := 44798133900177

/-- An angle increment in rad with 28 fraction bits as bam32 (R119). -/
def radToBam (r : Int) : Int := asrRound (r * kBam) 44

/-- Degrees given as a fraction a / b in bam32, rounded to nearest with ties away from zero (R297). -/
def degToBam (a : Int) (b : Nat) : Int := divNearAway (a * ((2 ^ 32 : Nat) : Int)) (360 * b)

/-- Table of R528: atan(2^-i) × 2^32 / 2π, rounded to nearest. -/
def cordicTab : List Int :=
  [536870912, 316933406, 167458907, 85004756, 42667331, 21354465, 10679838, 5340245, 2670163, 1335087, 667544, 333772, 166886,
   83443, 41722, 20861, 10430, 5215, 2608, 1304, 652, 326, 163, 81, 41, 20, 10, 5, 3, 1, 1, 0]

/-- The quarter turns of R528, at most `k`. -/
def cordicTurn : Nat → Int → Int → Int → Int × Int × Int
  | 0, x, y, z => (x, y, z)
  | k + 1, x, y, z => if 0 < x ∧ -x < y ∧ y ≤ x then (x, y, z) else cordicTurn k y (-x) (z + 0x40000000)

/-- The iterations of R528 over the table's entries with their indices. -/
def cordicIter : List (Int × Nat) → Int → Int → Int → Int
  | [], _, _, z => z
  | (a, i) :: as, x, y, z =>
    if y = 0 then z else
    let p : Int := ((2 ^ i : Nat) : Int)
    if 0 < y then cordicIter as (x + y / p) (y - x / p) (z + a) else cordicIter as (x - y / p) (y + x / p) (z - a)

/-- atan2(y, x) of R528 as bam32; both inputs in one format. -/
def atan2 (y x : Int) : Nat :=
  if x = 0 ∧ y = 0 then 0 else
  let m := Nat.max x.natAbs y.natAbs
  let sh := 60 - Nat.log2 m
  let p : Int := ((2 ^ sh : Nat) : Int)
  let (x', y', z) := cordicTurn 3 (x * p) (y * p) 0
  unsigned 32 (cordicIter cordicTab.zipIdx x' y' z)

/-- The largest natural number whose cube is at most `n`, by bisection over `k` bits. -/
def icbrtGo : Nat → Nat → Nat → Nat
  | 0, _, r => r
  | k + 1, n, r => let c := r + 2 ^ k; if c * c * c ≤ n then icbrtGo k n c else icbrtGo k n r

def icbrt (n : Nat) : Nat := icbrtGo (Nat.log2 n / 3 + 1) n 0

/-! Exact rationals, brought into a fixed-point format once. -/

/-- A rational rounded to nearest (halves away from zero) with `fr` fraction bits. -/
def ratToFix (q : Rat) (fr : Nat) : Int := divNearAway (q.num * ((2 ^ fr : Nat) : Int)) q.den

/-- A fixed-point value with `fr` fraction bits as a rational. -/
def fixToRat (x : Int) (fr : Nat) : Rat := (x : Rat) / ((2 ^ fr : Nat) : Rat)

/-- Square root of a non-negative rational, truncated to 40 fraction bits (R161: roots by bisection, truncated). -/
def ratSqrt (q : Rat) : Rat := ((isqrt ((q * ((2 ^ 80 : Nat) : Rat)).floor.toNat) : Nat) : Rat) / ((2 ^ 40 : Nat) : Rat)

/-- Cube root of a non-negative rational, truncated to 40 fraction bits. -/
def ratCbrt (q : Rat) : Rat := ((icbrt ((q * ((2 ^ 120 : Nat) : Rat)).floor.toNat) : Nat) : Rat) / ((2 ^ 40 : Nat) : Rat)

/-! binary64: a value m × 2^e, every operation rounded to nearest, ties to even (R120, R532). -/

/-- A dyadic number m × 2^e. -/
structure Dy where
  m : Int
  e : Int
  deriving DecidableEq, Repr

/-- The binary64 nearest to num / den (53 significant bits, ties to even; overflow and subnormals do not arise in the ranges used). -/
def dyRound (num : Int) (den : Nat) (e0 : Int) : Dy :=
  if num = 0 ∨ den = 0 then ⟨0, 0⟩ else
  let ln : Int := (Nat.log2 num.natAbs : Nat)
  let ld : Int := (Nat.log2 den : Nat)
  let sh := 54 - (ln - ld)
  let q := fun (s : Int) =>
    if 0 ≤ s then divNearEven (num * ((2 ^ s.toNat : Nat) : Int)) den
    else divNearEven num (den * 2 ^ (-s).toNat)
  let a := fun (s : Int) => if 0 ≤ s then (num.natAbs * 2 ^ s.toNat) / den else num.natAbs / (den * 2 ^ (-s).toNat)
  let s := if a (sh - 1) < 2 ^ 53 then sh - 1 else sh - 2
  let s := if a s < 2 ^ 53 then s else s - 1
  ⟨q s, e0 - s⟩

def dyOfInt (n : Int) : Dy := dyRound n 1 0
def dyOfFrac (n : Int) (d : Nat) : Dy := dyRound n d 0

def dyAlign (a b : Dy) : Int × Int × Int :=
  let e := if a.e < b.e then a.e else b.e
  (a.m * ((2 ^ (a.e - e).toNat : Nat) : Int), b.m * ((2 ^ (b.e - e).toNat : Nat) : Int), e)

def dyAdd (a b : Dy) : Dy := let (x, y, e) := dyAlign a b; dyRound (x + y) 1 e
def dySub (a b : Dy) : Dy := let (x, y, e) := dyAlign a b; dyRound (x - y) 1 e
def dyMul (a b : Dy) : Dy := dyRound (a.m * b.m) 1 (a.e + b.e)
def dyDiv (a b : Dy) : Dy :=
  if b.m < 0 then dyRound (-a.m) b.m.natAbs (a.e - b.e) else dyRound a.m b.m.natAbs (a.e - b.e)

/-- The correctly rounded square root of a non-negative value. -/
def dySqrt (a : Dy) : Dy :=
  if a.m ≤ 0 then ⟨0, 0⟩ else
  let m := a.m.natAbs * (if a.e % 2 = 0 then 1 else 2)
  let e := if a.e % 2 = 0 then a.e else a.e - 1
  let k : Nat := 120
  let big := m * 2 ^ (2 * k)
  let r := isqrt big
  let sticky := if r * r = big then 0 else 1
  dyRound ((2 * r + sticky : Nat) : Int) 1 (e / 2 - (k : Int) - 1)

/-- The binary64 value nearest to π. -/
def dyPi : Dy := ⟨7074237752028440, -51⟩

/-- A binary64 value rounded to nearest (ties away from zero) with `fr` fraction bits. -/
def dyToFix (a : Dy) (fr : Nat) : Int :=
  let e := a.e + (fr : Int)
  if 0 ≤ e then a.m * ((2 ^ e.toNat : Nat) : Int) else divNearAway a.m (2 ^ (-e).toNat)

end Sys2Proof.Machine
end

