-- ==== Sys2Proof/Machine/RegMap.lean ====
section
/-! DEFINITION. The register map: block bases of Table 3.4, and of every register its address, reset value and the access classes of its fields that are not RO (R75). -/

namespace Sys2Proof.Machine

/-- Access classes of Table 3.2 other than RO, whose fields are the bits that no listed field covers. -/
inductive Acc where
  | rw | rws | w1c | rwh | cnt | wo
  deriving DecidableEq, Repr

/-- A field: lowest bit, width, class. -/
structure Fld where
  lo : Nat
  w : Nat
  cls : Acc
  deriving DecidableEq, Repr

/-- Registers of one kind: address of the first, address step, how many, reset value, fields. -/
structure RegGroup where
  base : Nat
  stride : Nat
  count : Nat
  reset : Nat
  flds : List Fld
  deriving DecidableEq, Repr

/-- Address of the first register of each kind. -/
def Reg.sysId : Nat := 0x000000
def Reg.sysRev : Nat := 0x000004
def Reg.sysFwver : Nat := 0x000008
def Reg.sysStatus : Nat := 0x00000C
def Reg.sysWlostAddr : Nat := 0x000010
def Reg.sysBuserrAddr : Nat := 0x000014
def Reg.sysXstall : Nat := 0x000018
def Reg.sysScratch : Nat := 0x00001C
def Reg.sysBuserrCount : Nat := 0x000020
def Reg.sysWlostCount : Nat := 0x000024
def Reg.evtActive : Nat := 0x020000
def Reg.evtLatch : Nat := 0x020010
def Reg.evtSeq : Nat := 0x020020
def Reg.evtDest : Nat := 0x020024
def Reg.mbxSel : Nat := 0x030000
def Reg.mbxStat : Nat := 0x030004
def Reg.mbxData : Nat := 0x030010
def Reg.fusStatus : Nat := 0x0B0000
def Reg.fusCntLate : Nat := 0x0B0010
def Reg.fusCntDefer : Nat := 0x0B0014
def Reg.fusCntDiscard : Nat := 0x0B0018
def Reg.fusCntRerun : Nat := 0x0B001C
def Reg.fusCntWaitclose : Nat := 0x0B0020
def Reg.fusCntRatex : Nat := 0x0B0024
def Reg.fusCntDup : Nat := 0x0B0028
def Reg.fusPhase : Nat := 0x0B002C
def Reg.fusStrmSel : Nat := 0x0B0030
def Reg.fusStrmStat : Nat := 0x0B1000
def Reg.fusStrmSamples : Nat := 0x0B1004
def Reg.fusStrmLate : Nat := 0x0B1008
def Reg.fusStrmDisc : Nat := 0x0B100C
def Reg.fusSol : Nat := 0x0B0040
def Reg.fusCntPivclamp : Nat := 0x0B0044
def Reg.fusCntStsat : Nat := 0x0B0048
def Reg.fusCntGatefail : Nat := 0x0B004C
def Reg.fusCntVotefail : Nat := 0x0B0050
def Reg.fusCntReject : Nat := 0x0B0054
def Reg.fusCalSlot : Nat := 0x0B0060
def Reg.fusObsDim : Nat := 0x0B0090
def Reg.fusStrmGate : Nat := 0x0B2000
def Reg.fusStrmScore : Nat := 0x0B2004
def Reg.fusStrmGfail : Nat := 0x0B2008
def Reg.fusStrmVfail : Nat := 0x0B200C
def Reg.ctlStatus : Nat := 0x0C0000
def Reg.ctlMode : Nat := 0x0C0004
def Reg.ctlCntDlmiss : Nat := 0x0C0010
def Reg.ctlCntForced : Nat := 0x0C0014
def Reg.ctlCntOsc : Nat := 0x0C0018
def Reg.ctlCntPklate : Nat := 0x0C001C
def Reg.ctlCntRefused : Nat := 0x0C0020
def Reg.ctlPhase : Nat := 0x0C0024
def Reg.ctlOsc : Nat := 0x0C0030
def Reg.alcStatus : Nat := 0x0D0000
def Reg.alcRes : Nat := 0x0D0004
def Reg.alcSig : Nat := 0x0D0008
def Reg.alcIter : Nat := 0x0D000C
def Reg.alcCntAnytime : Nat := 0x0D0010
def Reg.alcCntDegen : Nat := 0x0D0014
def Reg.alcCntOvf : Nat := 0x0D0018
def Reg.alcCntStall : Nat := 0x0D001C
def Reg.alcCntCold : Nat := 0x0D0020
def Reg.alcCntPartial : Nat := 0x0D0024
def Reg.alcCfgErr : Nat := 0x0D0030
def Reg.alcThrStat : Nat := 0x0D0100
def Reg.alcThrAz : Nat := 0x0D0200
def Reg.alcThrF : Nat := 0x0D0204
def Reg.alcCqStat : Nat := 0x0D1000
def Reg.alcCqTimer : Nat := 0x0D1004
def Reg.alcCqClear : Nat := 0x0D1008
def Reg.alcCqIter : Nat := 0x0D100C
def Reg.alcCqAlarm : Nat := 0x0D1100
def Reg.alcBusStat : Nat := 0x0D1200
def Reg.alcBusBudget : Nat := 0x0D1204
def Reg.alcCntCqalarm : Nat := 0x0D1300
def Reg.alcCntBuslost : Nat := 0x0D1304
def Reg.alcCntCqguard : Nat := 0x0D1308
def Reg.alcCntNosrc : Nat := 0x0D130C
def Reg.srvStatus : Nat := 0x0E0000
def Reg.srvColovr0 : Nat := 0x0E0004
def Reg.srvColovr1 : Nat := 0x0E0008
def Reg.srvCntValfail : Nat := 0x0E0010
def Reg.srvCntTblload : Nat := 0x0E0014
def Reg.srvCntPhovr : Nat := 0x0E0018
def Reg.srvPhase : Nat := 0x0E001C
def Reg.srvLoopSel : Nat := 0x0E0020
def Reg.srvLoopStat : Nat := 0x0E0100
def Reg.srvLoopSp : Nat := 0x0E0104
def Reg.srvLoopFb : Nat := 0x0E0108
def Reg.srvLoopCmd : Nat := 0x0E010C
def Reg.timStatus : Nat := 0x040000
def Reg.timBaseStat : Nat := 0x040010
def Reg.timErr : Nat := 0x040020
def Reg.timOfs : Nat := 0x040030
def Reg.timCntStep : Nat := 0x040040
def Reg.timCntRefused : Nat := 0x040044
def Reg.timCntOutlier : Nat := 0x040048
def Reg.timCntPpsbad : Nat := 0x04004C
def Reg.timCntPtpdisc : Nat := 0x040050
def Reg.timPtpStat : Nat := 0x040060
def Reg.timPtpDelay : Nat := 0x040064
def Reg.gnsStatus : Nat := 0x0A0000
def Reg.gnsAntStat : Nat := 0x0A0010
def Reg.gnsFixStat : Nat := 0x0A0020
def Reg.gnsBaseStat : Nat := 0x0A0030
def Reg.gnsStation : Nat := 0x0A0034
def Reg.gnsCntRtcmOk : Nat := 0x0A0040
def Reg.gnsCntRtcmCrc : Nat := 0x0A0044
def Reg.gnsCntRtcmDisc : Nat := 0x0A0048
def Reg.gnsCntAcq : Nat := 0x0A004C
def Reg.gnsCntSlip : Nat := 0x0A0050
def Reg.gnsCntRaimx : Nat := 0x0A0054
def Reg.gnsCntFixsearch : Nat := 0x0A0058
def Reg.gnsCntLate : Nat := 0x0A005C
def Reg.gnsChStat1 : Nat := 0x0A0100
def Reg.gnsChStat2 : Nat := 0x0A0180
def Reg.serStatus : Nat := 0x070000
def Reg.serPortStat : Nat := 0x070010
def Reg.serCnt : Nat := 0x070100
def Reg.serCnt450 : Nat := 0x070200
def Reg.can0Ctrl : Nat := 0x060000
def Reg.can0Status : Nat := 0x060004
def Reg.can0Errcnt : Nat := 0x060008
def Reg.can0Cnt : Nat := 0x060010
def Reg.can0FifoStat : Nat := 0x060100
def Reg.can0FifoW0 : Nat := 0x060104
def Reg.can0FifoW1 : Nat := 0x060108
def Reg.can0FifoW2 : Nat := 0x06010C
def Reg.can0FifoW3 : Nat := 0x060110
def Reg.can0FifoW4 : Nat := 0x060114
def Reg.can0FifoW5 : Nat := 0x060118
def Reg.can0FifoW6 : Nat := 0x06011C
def Reg.can0FifoW7 : Nat := 0x060120
def Reg.can0FifoW8 : Nat := 0x060124
def Reg.can0FifoW9 : Nat := 0x060128
def Reg.can0FifoW10 : Nat := 0x06012C
def Reg.can0FifoW11 : Nat := 0x060130
def Reg.can0FifoW12 : Nat := 0x060134
def Reg.can0FifoW13 : Nat := 0x060138
def Reg.can0FifoW14 : Nat := 0x06013C
def Reg.can0FifoW15 : Nat := 0x060140
def Reg.can0FifoW16 : Nat := 0x060144
def Reg.can0FifoW17 : Nat := 0x060148
def Reg.can0FifoW18 : Nat := 0x06014C
def Reg.can0MoStat : Nat := 0x061000
def Reg.can0MoW0 : Nat := 0x061004
def Reg.can0MoW1 : Nat := 0x061008
def Reg.can0MoW2 : Nat := 0x06100C
def Reg.can0MoW3 : Nat := 0x061010
def Reg.can0MoW4 : Nat := 0x061014
def Reg.can0MoW5 : Nat := 0x061018
def Reg.can0MoW6 : Nat := 0x06101C
def Reg.can0MoW7 : Nat := 0x061020
def Reg.can0MoW8 : Nat := 0x061024
def Reg.can0MoW9 : Nat := 0x061028
def Reg.can0MoW10 : Nat := 0x06102C
def Reg.can0MoW11 : Nat := 0x061030
def Reg.can0MoW12 : Nat := 0x061034
def Reg.can0MoW13 : Nat := 0x061038
def Reg.can0MoW14 : Nat := 0x06103C
def Reg.can0MoW15 : Nat := 0x061040
def Reg.can0MoW16 : Nat := 0x061044
def Reg.can0MoW17 : Nat := 0x061048
def Reg.can0MoW18 : Nat := 0x06104C
def Reg.can1Ctrl : Nat := 0x068000
def Reg.can1Status : Nat := 0x068004
def Reg.can1Errcnt : Nat := 0x068008
def Reg.can1Cnt : Nat := 0x068010
def Reg.can1FifoStat : Nat := 0x068100
def Reg.can1FifoW0 : Nat := 0x068104
def Reg.can1FifoW1 : Nat := 0x068108
def Reg.can1FifoW2 : Nat := 0x06810C
def Reg.can1FifoW3 : Nat := 0x068110
def Reg.can1FifoW4 : Nat := 0x068114
def Reg.can1FifoW5 : Nat := 0x068118
def Reg.can1FifoW6 : Nat := 0x06811C
def Reg.can1FifoW7 : Nat := 0x068120
def Reg.can1FifoW8 : Nat := 0x068124
def Reg.can1FifoW9 : Nat := 0x068128
def Reg.can1FifoW10 : Nat := 0x06812C
def Reg.can1FifoW11 : Nat := 0x068130
def Reg.can1FifoW12 : Nat := 0x068134
def Reg.can1FifoW13 : Nat := 0x068138
def Reg.can1FifoW14 : Nat := 0x06813C
def Reg.can1FifoW15 : Nat := 0x068140
def Reg.can1FifoW16 : Nat := 0x068144
def Reg.can1FifoW17 : Nat := 0x068148
def Reg.can1FifoW18 : Nat := 0x06814C
def Reg.can1MoStat : Nat := 0x069000
def Reg.can1MoW0 : Nat := 0x069004
def Reg.can1MoW1 : Nat := 0x069008
def Reg.can1MoW2 : Nat := 0x06900C
def Reg.can1MoW3 : Nat := 0x069010
def Reg.can1MoW4 : Nat := 0x069014
def Reg.can1MoW5 : Nat := 0x069018
def Reg.can1MoW6 : Nat := 0x06901C
def Reg.can1MoW7 : Nat := 0x069020
def Reg.can1MoW8 : Nat := 0x069024
def Reg.can1MoW9 : Nat := 0x069028
def Reg.can1MoW10 : Nat := 0x06902C
def Reg.can1MoW11 : Nat := 0x069030
def Reg.can1MoW12 : Nat := 0x069034
def Reg.can1MoW13 : Nat := 0x069038
def Reg.can1MoW14 : Nat := 0x06903C
def Reg.can1MoW15 : Nat := 0x069040
def Reg.can1MoW16 : Nat := 0x069044
def Reg.can1MoW17 : Nat := 0x069048
def Reg.can1MoW18 : Nat := 0x06904C
def Reg.crcCtrl : Nat := 0x130000
def Reg.crcStat : Nat := 0x130004
def Reg.crcValue : Nat := 0x130008
def Reg.crcResult : Nat := 0x13000C
def Reg.crcData : Nat := 0x130010
def Reg.crcDmaSrc : Nat := 0x130014
def Reg.crcDmaLen : Nat := 0x130018
def Reg.fldStatus : Nat := 0x080000
def Reg.fldCycle : Nat := 0x080004
def Reg.fldRtt : Nat := 0x080008
def Reg.fldCmdEpoch : Nat := 0x08000C
def Reg.fldColovr0 : Nat := 0x080010
def Reg.fldColovr1 : Nat := 0x080014
def Reg.fldCntFrames : Nat := 0x080020
def Reg.fldCntLost : Nat := 0x080024
def Reg.fldCntFcs : Nat := 0x080028
def Reg.fldCntLength : Nat := 0x08002C
def Reg.fldCntSeq : Nat := 0x080030
def Reg.fldCntDup : Nat := 0x080034
def Reg.fldCntForeign : Nat := 0x080038
def Reg.fldCntScans : Nat := 0x08003C
def Reg.fldStnStat : Nat := 0x080100
def Reg.fldStnMiss : Nat := 0x080104
def Reg.fldStnViol : Nat := 0x080108
def Reg.fldStnLastcyc : Nat := 0x08010C
def Reg.fldIn : Nat := 0x081000
def Reg.fldOut : Nat := 0x082000
def Reg.aioStatus : Nat := 0x090000
def Reg.aioCntInflt : Nat := 0x090010
def Reg.aioCntOutflt : Nat := 0x090014
def Reg.aioCntUnsettled : Nat := 0x090018
def Reg.aioDi : Nat := 0x090020
def Reg.aioDiRaw : Nat := 0x090024
def Reg.aioDo : Nat := 0x090028
def Reg.aioDoFlt : Nat := 0x09002C
def Reg.aioAiVal : Nat := 0x090100
def Reg.aioAiFlg : Nat := 0x090104
def Reg.aioResVal : Nat := 0x090200
def Reg.aioResFlg : Nat := 0x090204
def Reg.aioAo : Nat := 0x090300
def Reg.lgcStatus : Nat := 0x0F0000
def Reg.lgcProgramId : Nat := 0x0F0004
def Reg.lgcImageCrc : Nat := 0x0F0008
def Reg.lgcCost : Nat := 0x0F000C
def Reg.lgcPeriod : Nat := 0x0F0010
def Reg.lgcIdle : Nat := 0x0F0014
def Reg.lgcExec : Nat := 0x0F0018
def Reg.lgcCntCycles : Nat := 0x0F0020
def Reg.lgcCntOvr : Nat := 0x0F0024
def Reg.lgcCntSkip : Nat := 0x0F0028
def Reg.lgcCntArith : Nat := 0x0F002C
def Reg.lgcCntGuard : Nat := 0x0F0030
def Reg.lgcCntDiscard : Nat := 0x0F0034
def Reg.safStatus : Nat := 0x100000
def Reg.safCfgCrc : Nat := 0x100004
def Reg.safCfgErr : Nat := 0x100008
def Reg.safFuncStat : Nat := 0x100010
def Reg.safInhThr : Nat := 0x100040
def Reg.safInhAo : Nat := 0x100044
def Reg.safInhDo : Nat := 0x100048
def Reg.safInhStn0 : Nat := 0x10004C
def Reg.safInhStn1 : Nat := 0x100050
def Reg.safSiRaw : Nat := 0x100060
def Reg.safClk : Nat := 0x100064
def Reg.safCntDemand : Nat := 0x100080
def Reg.safCntInflt : Nat := 0x100084
def Reg.safCntOutflt : Nat := 0x100088
def Reg.safCntLink : Nat := 0x10008C
def Reg.safCntLoginfail : Nat := 0x100090
def Reg.safCntCommit : Nat := 0x100094
def Reg.safCfg : Nat := 0x100400
def Reg.redStatus : Nat := 0x110000
def Reg.redFlags : Nat := 0x110004
def Reg.redIl : Nat := 0x110008
def Reg.redCntTakeover : Nat := 0x110010
def Reg.redCntCmpfault : Nat := 0x110014
def Reg.redCntDiscrep : Nat := 0x110018
def Reg.redCntUnres : Nat := 0x11001C
def Reg.redCntTkfail : Nat := 0x110020
def Reg.redCntRlerr : Nat := 0x110024
def Reg.redCntRepair : Nat := 0x110028
def Reg.redCntReclate : Nat := 0x11002C
def Reg.redCntSkiptl : Nat := 0x110030
def Reg.redPeer : Nat := 0x110040
def Reg.redTest : Nat := 0x110050
def Reg.recStatus : Nat := 0x120000
def Reg.recSeqClear : Nat := 0x120004
def Reg.recSeqNewest : Nat := 0x120008
def Reg.recPower : Nat := 0x12000C
def Reg.recCntDrop : Nat := 0x120010
def Reg.recCntBad : Nat := 0x120014
def Reg.recCntClear : Nat := 0x120018
def Reg.recCntCoalesce : Nat := 0x12001C
def Reg.recCursor : Nat := 0x120040
def Reg.recWin : Nat := 0x120080
def Reg.cmpStatus : Nat := 0x140000
def Reg.cmpCycle : Nat := 0x140004
def Reg.cmpAlarm : Nat := 0x140008
def Reg.cmpAlarmUnack : Nat := 0x14000C
def Reg.cmpCntFrames : Nat := 0x140010
def Reg.cmpCntBcc : Nat := 0x140014
def Reg.cmpCntMalformed : Nat := 0x140018
def Reg.cmpCntNak : Nat := 0x14001C
def Reg.cmpCntEarly : Nat := 0x140020
def Reg.cmpCntRepeat : Nat := 0x140024
def Reg.cmpCntLate : Nat := 0x140028
def Reg.cmpCntSingular : Nat := 0x14002C
def Reg.clkStatus : Nat := 0x010000
def Reg.clkDomain : Nat := 0x010010
def Reg.clkOsc : Nat := 0x010030
def Reg.clkTemp : Nat := 0x010034
def Reg.clkGap : Nat := 0x010038
def Reg.clkGate : Nat := 0x01003C
def Reg.clkCntRefsw : Nat := 0x010040
def Reg.clkCntLocklost : Nat := 0x010044
def Reg.clkCntOpchg : Nat := 0x010048
def Reg.clkCntThrottle : Nat := 0x01004C
def Reg.clkCntWarm : Nat := 0x010050
def Reg.clkCntStandby : Nat := 0x010054
def Reg.clkCntSrcsw : Nat := 0x010058

def regGroups0 : List RegGroup :=
  [⟨Reg.sysId, 4, 1, 0x04805753, []⟩,
   ⟨Reg.sysRev, 4, 1, 0x00000042, []⟩,
   ⟨Reg.sysFwver, 4, 1, 0x00000000, []⟩,
   ⟨Reg.sysStatus, 4, 1, 0x00000000, [⟨0, 1, .w1c⟩, ⟨1, 1, .w1c⟩, ⟨2, 1, .w1c⟩]⟩,
   ⟨Reg.sysWlostAddr, 4, 1, 0x00000000, []⟩,
   ⟨Reg.sysBuserrAddr, 4, 1, 0x00000000, []⟩,
   ⟨Reg.sysXstall, 4, 1, 0x00000000, [⟨0, 16, .rwh⟩]⟩,
   ⟨Reg.sysScratch, 4, 1, 0x00000000, [⟨0, 32, .rw⟩]⟩,
   ⟨Reg.sysBuserrCount, 4, 1, 0x00000000, [⟨0, 32, .cnt⟩]⟩,
   ⟨Reg.sysWlostCount, 4, 1, 0x00000000, [⟨0, 32, .cnt⟩]⟩,
   ⟨Reg.evtActive, 4, 4, 0x00000000, []⟩,
   ⟨Reg.evtLatch, 4, 4, 0x00000000, [⟨0, 32, .w1c⟩]⟩,
   ⟨Reg.evtSeq, 4, 1, 0x00000000, []⟩,
   ⟨Reg.evtDest, 4, 1, 0x00000000, []⟩,
   ⟨Reg.mbxSel, 4, 1, 0x00000000, [⟨0, 16, .rw⟩]⟩,
   ⟨Reg.mbxStat, 4, 1, 0x00000000, [⟨2, 1, .w1c⟩, ⟨3, 1, .w1c⟩]⟩,
   ⟨Reg.mbxData, 4, 8, 0x00000000, []⟩,
   ⟨Reg.fusStatus, 4, 1, 0x00004000, [⟨0, 1, .w1c⟩, ⟨1, 1, .w1c⟩, ⟨2, 1, .w1c⟩, ⟨3, 1, .w1c⟩, ⟨4, 1, .w1c⟩, ⟨5, 1, .w1c⟩, ⟨8, 1, .w1c⟩, ⟨9, 1, .w1c⟩]⟩,
   ⟨Reg.fusCntLate, 4, 1, 0x00000000, [⟨0, 32, .cnt⟩]⟩,
   ⟨Reg.fusCntDefer, 4, 1, 0x00000000, [⟨0, 32, .cnt⟩]⟩,
   ⟨Reg.fusCntDiscard, 4, 1, 0x00000000, [⟨0, 32, .cnt⟩]⟩,
   ⟨Reg.fusCntRerun, 4, 1, 0x00000000, [⟨0, 32, .cnt⟩]⟩,
   ⟨Reg.fusCntWaitclose, 4, 1, 0x00000000, [⟨0, 32, .cnt⟩]⟩,
   ⟨Reg.fusCntRatex, 4, 1, 0x00000000, [⟨0, 32, .cnt⟩]⟩,
   ⟨Reg.fusCntDup, 4, 1, 0x00000000, [⟨0, 32, .cnt⟩]⟩,
   ⟨Reg.fusPhase, 4, 1, 0x00000000, [⟨16, 16, .rwh⟩]⟩,
   ⟨Reg.fusStrmSel, 4, 1, 0x00000000, [⟨0, 8, .rw⟩]⟩,
   ⟨Reg.fusStrmStat, 16, 256, 0x00000005, []⟩,
   ⟨Reg.fusStrmSamples, 16, 256, 0x00000000, [⟨0, 32, .cnt⟩]⟩,
   ⟨Reg.fusStrmLate, 16, 256, 0x00000000, [⟨0, 32, .cnt⟩]⟩,
   ⟨Reg.fusStrmDisc, 16, 256, 0x00000000, [⟨0, 32, .cnt⟩]⟩,
   ⟨Reg.fusSol, 4, 1, 0x00000002, []⟩,
   ⟨Reg.fusCntPivclamp, 4, 1, 0x00000000, [⟨0, 32, .cnt⟩]⟩,
   ⟨Reg.fusCntStsat, 4, 1, 0x00000000, [⟨0, 32, .cnt⟩]⟩,
   ⟨Reg.fusCntGatefail, 4, 1, 0x00000000, [⟨0, 32, .cnt⟩]⟩,
   ⟨Reg.fusCntVotefail, 4, 1, 0x00000000, [⟨0, 32, .cnt⟩]⟩,
   ⟨Reg.fusCntReject, 4, 1, 0x00000000, [⟨0, 32, .cnt⟩]⟩,
   ⟨Reg.fusCalSlot, 4, 12, 0x00000000, []⟩,
   ⟨Reg.fusObsDim, 4, 1, 0x0000000F, []⟩,
   ⟨Reg.fusStrmGate, 16, 256, 0x00000000, []⟩]

def regGroups1 : List RegGroup :=
  [⟨Reg.fusStrmScore, 16, 256, 0x00000000, []⟩,
   ⟨Reg.fusStrmGfail, 16, 256, 0x00000000, [⟨0, 32, .cnt⟩]⟩,
   ⟨Reg.fusStrmVfail, 16, 256, 0x00000000, [⟨0, 32, .cnt⟩]⟩,
   ⟨Reg.ctlStatus, 4, 1, 0x00000000, [⟨0, 1, .w1c⟩, ⟨1, 1, .w1c⟩, ⟨2, 1, .w1c⟩, ⟨3, 1, .w1c⟩, ⟨4, 1, .w1c⟩, ⟨5, 1, .w1c⟩, ⟨6, 1, .w1c⟩]⟩,
   ⟨Reg.ctlMode, 4, 1, 0x000F0010, []⟩,
   ⟨Reg.ctlCntDlmiss, 4, 1, 0x00000000, [⟨0, 32, .cnt⟩]⟩,
   ⟨Reg.ctlCntForced, 4, 1, 0x00000000, [⟨0, 32, .cnt⟩]⟩,
   ⟨Reg.ctlCntOsc, 4, 1, 0x00000000, [⟨0, 32, .cnt⟩]⟩,
   ⟨Reg.ctlCntPklate, 4, 1, 0x00000000, [⟨0, 32, .cnt⟩]⟩,
   ⟨Reg.ctlCntRefused, 4, 1, 0x00000000, [⟨0, 32, .cnt⟩]⟩,
   ⟨Reg.ctlPhase, 4, 1, 0x00000000, [⟨16, 16, .rwh⟩]⟩,
   ⟨Reg.ctlOsc, 4, 3, 0x00000000, []⟩,
   ⟨Reg.alcStatus, 4, 1, 0x00000000, [⟨0, 1, .w1c⟩, ⟨1, 1, .w1c⟩, ⟨2, 1, .w1c⟩, ⟨3, 1, .w1c⟩, ⟨4, 1, .w1c⟩, ⟨5, 1, .w1c⟩, ⟨6, 1, .w1c⟩, ⟨16, 1, .w1c⟩, ⟨17, 1, .w1c⟩, ⟨18, 1, .w1c⟩, ⟨19, 1, .w1c⟩, ⟨20, 1, .w1c⟩]⟩,
   ⟨Reg.alcRes, 4, 1, 0x00000005, []⟩,
   ⟨Reg.alcSig, 4, 1, 0x00000000, []⟩,
   ⟨Reg.alcIter, 4, 1, 0x00000000, [⟨16, 16, .rwh⟩]⟩,
   ⟨Reg.alcCntAnytime, 4, 1, 0x00000000, [⟨0, 32, .cnt⟩]⟩,
   ⟨Reg.alcCntDegen, 4, 1, 0x00000000, [⟨0, 32, .cnt⟩]⟩,
   ⟨Reg.alcCntOvf, 4, 1, 0x00000000, [⟨0, 32, .cnt⟩]⟩,
   ⟨Reg.alcCntStall, 4, 1, 0x00000000, [⟨0, 32, .cnt⟩]⟩,
   ⟨Reg.alcCntCold, 4, 1, 0x00000000, [⟨0, 32, .cnt⟩]⟩,
   ⟨Reg.alcCntPartial, 4, 1, 0x00000000, [⟨0, 32, .cnt⟩]⟩,
   ⟨Reg.alcCfgErr, 4, 1, 0x00000000, []⟩,
   ⟨Reg.alcThrStat, 4, 24, 0x00000000, []⟩,
   ⟨Reg.alcThrAz, 8, 24, 0x00000000, []⟩,
   ⟨Reg.alcThrF, 8, 24, 0x00000000, []⟩,
   ⟨Reg.alcCqStat, 16, 16, 0x00000000, []⟩,
   ⟨Reg.alcCqTimer, 16, 16, 0x00000000, []⟩,
   ⟨Reg.alcCqClear, 16, 16, 0x00000000, []⟩,
   ⟨Reg.alcCqIter, 16, 16, 0x00000000, []⟩,
   ⟨Reg.alcCqAlarm, 4, 1, 0x00000000, []⟩,
   ⟨Reg.alcBusStat, 8, 8, 0x00000001, []⟩,
   ⟨Reg.alcBusBudget, 8, 8, 0x7FFFFFFF, []⟩,
   ⟨Reg.alcCntCqalarm, 4, 1, 0x00000000, [⟨0, 32, .cnt⟩]⟩,
   ⟨Reg.alcCntBuslost, 4, 1, 0x00000000, [⟨0, 32, .cnt⟩]⟩,
   ⟨Reg.alcCntCqguard, 4, 1, 0x00000000, [⟨0, 32, .cnt⟩]⟩,
   ⟨Reg.alcCntNosrc, 4, 1, 0x00000000, [⟨0, 32, .cnt⟩]⟩,
   ⟨Reg.srvStatus, 4, 1, 0x00000000, [⟨0, 1, .w1c⟩, ⟨1, 1, .w1c⟩]⟩,
   ⟨Reg.srvColovr0, 4, 1, 0x00000000, [⟨0, 32, .w1c⟩]⟩,
   ⟨Reg.srvColovr1, 4, 1, 0x00000000, [⟨0, 32, .w1c⟩]⟩]

def regGroups2 : List RegGroup :=
  [⟨Reg.srvCntValfail, 4, 1, 0x00000000, [⟨0, 32, .cnt⟩]⟩,
   ⟨Reg.srvCntTblload, 4, 1, 0x00000000, [⟨0, 32, .cnt⟩]⟩,
   ⟨Reg.srvCntPhovr, 4, 1, 0x00000000, [⟨0, 32, .cnt⟩]⟩,
   ⟨Reg.srvPhase, 4, 1, 0x00000000, [⟨16, 16, .rwh⟩]⟩,
   ⟨Reg.srvLoopSel, 4, 1, 0x00000000, [⟨0, 6, .rw⟩]⟩,
   ⟨Reg.srvLoopStat, 16, 48, 0x00000000, []⟩,
   ⟨Reg.srvLoopSp, 16, 48, 0x00000000, []⟩,
   ⟨Reg.srvLoopFb, 16, 48, 0x00000000, []⟩,
   ⟨Reg.srvLoopCmd, 16, 48, 0x00000000, []⟩,
   ⟨Reg.timStatus, 4, 1, 0x00000000, [⟨0, 1, .w1c⟩, ⟨1, 1, .w1c⟩, ⟨2, 1, .w1c⟩, ⟨3, 1, .w1c⟩, ⟨4, 1, .w1c⟩]⟩,
   ⟨Reg.timBaseStat, 4, 3, 0x00000000, []⟩,
   ⟨Reg.timErr, 4, 3, 0xFFFFFFFF, []⟩,
   ⟨Reg.timOfs, 4, 3, 0x00000000, []⟩,
   ⟨Reg.timCntStep, 4, 1, 0x00000000, [⟨0, 32, .cnt⟩]⟩,
   ⟨Reg.timCntRefused, 4, 1, 0x00000000, [⟨0, 32, .cnt⟩]⟩,
   ⟨Reg.timCntOutlier, 4, 1, 0x00000000, [⟨0, 32, .cnt⟩]⟩,
   ⟨Reg.timCntPpsbad, 4, 1, 0x00000000, [⟨0, 32, .cnt⟩]⟩,
   ⟨Reg.timCntPtpdisc, 4, 1, 0x00000000, [⟨0, 32, .cnt⟩]⟩,
   ⟨Reg.timPtpStat, 4, 1, 0x0000F803, []⟩,
   ⟨Reg.timPtpDelay, 4, 1, 0x00000000, []⟩,
   ⟨Reg.gnsStatus, 4, 1, 0x00000000, [⟨0, 1, .w1c⟩, ⟨1, 1, .w1c⟩, ⟨2, 1, .w1c⟩, ⟨3, 1, .w1c⟩]⟩,
   ⟨Reg.gnsAntStat, 4, 2, 0x00000000, []⟩,
   ⟨Reg.gnsFixStat, 4, 2, 0x00000000, []⟩,
   ⟨Reg.gnsBaseStat, 4, 1, 0x00000000, []⟩,
   ⟨Reg.gnsStation, 4, 1, 0x0000FFFF, []⟩,
   ⟨Reg.gnsCntRtcmOk, 4, 1, 0x00000000, [⟨0, 32, .cnt⟩]⟩,
   ⟨Reg.gnsCntRtcmCrc, 4, 1, 0x00000000, [⟨0, 32, .cnt⟩]⟩,
   ⟨Reg.gnsCntRtcmDisc, 4, 1, 0x00000000, [⟨0, 32, .cnt⟩]⟩,
   ⟨Reg.gnsCntAcq, 4, 1, 0x00000000, [⟨0, 32, .cnt⟩]⟩,
   ⟨Reg.gnsCntSlip, 4, 1, 0x00000000, [⟨0, 32, .cnt⟩]⟩,
   ⟨Reg.gnsCntRaimx, 4, 1, 0x00000000, [⟨0, 32, .cnt⟩]⟩,
   ⟨Reg.gnsCntFixsearch, 4, 1, 0x00000000, [⟨0, 32, .cnt⟩]⟩,
   ⟨Reg.gnsCntLate, 4, 1, 0x00000000, [⟨0, 32, .cnt⟩]⟩,
   ⟨Reg.gnsChStat1, 4, 24, 0x00000000, []⟩,
   ⟨Reg.gnsChStat2, 4, 24, 0x00000000, []⟩,
   ⟨Reg.serStatus, 4, 1, 0x00000000, [⟨0, 8, .w1c⟩, ⟨16, 1, .w1c⟩]⟩,
   ⟨Reg.serPortStat, 4, 8, 0x08000001, []⟩,
   ⟨Reg.serCnt, 4, 64, 0x00000000, [⟨0, 32, .cnt⟩]⟩,
   ⟨Reg.serCnt450, 4, 8, 0x00000000, [⟨0, 32, .cnt⟩]⟩,
   ⟨Reg.can0Ctrl, 4, 1, 0x00000000, [⟨0, 1, .rws⟩]⟩]

def regGroups3 : List RegGroup :=
  [⟨Reg.can0Status, 4, 1, 0x00000000, [⟨8, 1, .w1c⟩, ⟨9, 1, .w1c⟩, ⟨10, 1, .w1c⟩]⟩,
   ⟨Reg.can0Errcnt, 4, 1, 0x00000000, []⟩,
   ⟨Reg.can0Cnt, 4, 12, 0x00000000, [⟨0, 32, .cnt⟩]⟩,
   ⟨Reg.can0FifoStat, 128, 2, 0x00000000, [⟨8, 1, .rws⟩]⟩,
   ⟨Reg.can0FifoW0, 128, 2, 0x00000000, []⟩,
   ⟨Reg.can0FifoW1, 128, 2, 0x00000000, []⟩,
   ⟨Reg.can0FifoW2, 128, 2, 0x00000000, []⟩,
   ⟨Reg.can0FifoW3, 128, 2, 0x00000000, []⟩,
   ⟨Reg.can0FifoW4, 128, 2, 0x00000000, []⟩,
   ⟨Reg.can0FifoW5, 128, 2, 0x00000000, []⟩,
   ⟨Reg.can0FifoW6, 128, 2, 0x00000000, []⟩,
   ⟨Reg.can0FifoW7, 128, 2, 0x00000000, []⟩,
   ⟨Reg.can0FifoW8, 128, 2, 0x00000000, []⟩,
   ⟨Reg.can0FifoW9, 128, 2, 0x00000000, []⟩,
   ⟨Reg.can0FifoW10, 128, 2, 0x00000000, []⟩,
   ⟨Reg.can0FifoW11, 128, 2, 0x00000000, []⟩,
   ⟨Reg.can0FifoW12, 128, 2, 0x00000000, []⟩,
   ⟨Reg.can0FifoW13, 128, 2, 0x00000000, []⟩,
   ⟨Reg.can0FifoW14, 128, 2, 0x00000000, []⟩,
   ⟨Reg.can0FifoW15, 128, 2, 0x00000000, []⟩,
   ⟨Reg.can0FifoW16, 128, 2, 0x00000000, []⟩,
   ⟨Reg.can0FifoW17, 128, 2, 0x00000000, []⟩,
   ⟨Reg.can0FifoW18, 128, 2, 0x00000000, []⟩,
   ⟨Reg.can0MoStat, 96, 128, 0x00000000, [⟨0, 1, .w1c⟩, ⟨1, 1, .w1c⟩]⟩,
   ⟨Reg.can0MoW0, 96, 128, 0x00000000, []⟩,
   ⟨Reg.can0MoW1, 96, 128, 0x00000000, []⟩,
   ⟨Reg.can0MoW2, 96, 128, 0x00000000, []⟩,
   ⟨Reg.can0MoW3, 96, 128, 0x00000000, []⟩,
   ⟨Reg.can0MoW4, 96, 128, 0x00000000, []⟩,
   ⟨Reg.can0MoW5, 96, 128, 0x00000000, []⟩,
   ⟨Reg.can0MoW6, 96, 128, 0x00000000, []⟩,
   ⟨Reg.can0MoW7, 96, 128, 0x00000000, []⟩,
   ⟨Reg.can0MoW8, 96, 128, 0x00000000, []⟩,
   ⟨Reg.can0MoW9, 96, 128, 0x00000000, []⟩,
   ⟨Reg.can0MoW10, 96, 128, 0x00000000, []⟩,
   ⟨Reg.can0MoW11, 96, 128, 0x00000000, []⟩,
   ⟨Reg.can0MoW12, 96, 128, 0x00000000, []⟩,
   ⟨Reg.can0MoW13, 96, 128, 0x00000000, []⟩,
   ⟨Reg.can0MoW14, 96, 128, 0x00000000, []⟩,
   ⟨Reg.can0MoW15, 96, 128, 0x00000000, []⟩]

def regGroups4 : List RegGroup :=
  [⟨Reg.can0MoW16, 96, 128, 0x00000000, []⟩,
   ⟨Reg.can0MoW17, 96, 128, 0x00000000, []⟩,
   ⟨Reg.can0MoW18, 96, 128, 0x00000000, []⟩,
   ⟨Reg.can1Ctrl, 4, 1, 0x00000000, [⟨0, 1, .rws⟩]⟩,
   ⟨Reg.can1Status, 4, 1, 0x00000000, [⟨8, 1, .w1c⟩, ⟨9, 1, .w1c⟩, ⟨10, 1, .w1c⟩]⟩,
   ⟨Reg.can1Errcnt, 4, 1, 0x00000000, []⟩,
   ⟨Reg.can1Cnt, 4, 12, 0x00000000, [⟨0, 32, .cnt⟩]⟩,
   ⟨Reg.can1FifoStat, 128, 2, 0x00000000, [⟨8, 1, .rws⟩]⟩,
   ⟨Reg.can1FifoW0, 128, 2, 0x00000000, []⟩,
   ⟨Reg.can1FifoW1, 128, 2, 0x00000000, []⟩,
   ⟨Reg.can1FifoW2, 128, 2, 0x00000000, []⟩,
   ⟨Reg.can1FifoW3, 128, 2, 0x00000000, []⟩,
   ⟨Reg.can1FifoW4, 128, 2, 0x00000000, []⟩,
   ⟨Reg.can1FifoW5, 128, 2, 0x00000000, []⟩,
   ⟨Reg.can1FifoW6, 128, 2, 0x00000000, []⟩,
   ⟨Reg.can1FifoW7, 128, 2, 0x00000000, []⟩,
   ⟨Reg.can1FifoW8, 128, 2, 0x00000000, []⟩,
   ⟨Reg.can1FifoW9, 128, 2, 0x00000000, []⟩,
   ⟨Reg.can1FifoW10, 128, 2, 0x00000000, []⟩,
   ⟨Reg.can1FifoW11, 128, 2, 0x00000000, []⟩,
   ⟨Reg.can1FifoW12, 128, 2, 0x00000000, []⟩,
   ⟨Reg.can1FifoW13, 128, 2, 0x00000000, []⟩,
   ⟨Reg.can1FifoW14, 128, 2, 0x00000000, []⟩,
   ⟨Reg.can1FifoW15, 128, 2, 0x00000000, []⟩,
   ⟨Reg.can1FifoW16, 128, 2, 0x00000000, []⟩,
   ⟨Reg.can1FifoW17, 128, 2, 0x00000000, []⟩,
   ⟨Reg.can1FifoW18, 128, 2, 0x00000000, []⟩,
   ⟨Reg.can1MoStat, 96, 128, 0x00000000, [⟨0, 1, .w1c⟩, ⟨1, 1, .w1c⟩]⟩,
   ⟨Reg.can1MoW0, 96, 128, 0x00000000, []⟩,
   ⟨Reg.can1MoW1, 96, 128, 0x00000000, []⟩,
   ⟨Reg.can1MoW2, 96, 128, 0x00000000, []⟩,
   ⟨Reg.can1MoW3, 96, 128, 0x00000000, []⟩,
   ⟨Reg.can1MoW4, 96, 128, 0x00000000, []⟩,
   ⟨Reg.can1MoW5, 96, 128, 0x00000000, []⟩,
   ⟨Reg.can1MoW6, 96, 128, 0x00000000, []⟩,
   ⟨Reg.can1MoW7, 96, 128, 0x00000000, []⟩,
   ⟨Reg.can1MoW8, 96, 128, 0x00000000, []⟩,
   ⟨Reg.can1MoW9, 96, 128, 0x00000000, []⟩,
   ⟨Reg.can1MoW10, 96, 128, 0x00000000, []⟩,
   ⟨Reg.can1MoW11, 96, 128, 0x00000000, []⟩]

def regGroups5 : List RegGroup :=
  [⟨Reg.can1MoW12, 96, 128, 0x00000000, []⟩,
   ⟨Reg.can1MoW13, 96, 128, 0x00000000, []⟩,
   ⟨Reg.can1MoW14, 96, 128, 0x00000000, []⟩,
   ⟨Reg.can1MoW15, 96, 128, 0x00000000, []⟩,
   ⟨Reg.can1MoW16, 96, 128, 0x00000000, []⟩,
   ⟨Reg.can1MoW17, 96, 128, 0x00000000, []⟩,
   ⟨Reg.can1MoW18, 96, 128, 0x00000000, []⟩,
   ⟨Reg.crcCtrl, 64, 4, 0x00000040, [⟨0, 3, .rw⟩, ⟨3, 1, .rws⟩, ⟨4, 1, .rws⟩, ⟨5, 2, .rw⟩]⟩,
   ⟨Reg.crcStat, 64, 4, 0x00000000, [⟨1, 1, .w1c⟩, ⟨2, 1, .w1c⟩]⟩,
   ⟨Reg.crcValue, 64, 4, 0x00000000, [⟨0, 32, .rwh⟩]⟩,
   ⟨Reg.crcResult, 64, 4, 0x00000000, []⟩,
   ⟨Reg.crcData, 64, 4, 0x00000000, [⟨0, 32, .wo⟩]⟩,
   ⟨Reg.crcDmaSrc, 64, 4, 0x00000000, [⟨0, 25, .rw⟩]⟩,
   ⟨Reg.crcDmaLen, 64, 4, 0x00000000, [⟨0, 24, .rw⟩]⟩,
   ⟨Reg.fldStatus, 4, 1, 0x00000000, [⟨0, 1, .w1c⟩, ⟨1, 1, .w1c⟩, ⟨2, 1, .w1c⟩, ⟨3, 1, .w1c⟩]⟩,
   ⟨Reg.fldCycle, 4, 1, 0x00000000, []⟩,
   ⟨Reg.fldRtt, 4, 1, 0x00000000, [⟨16, 16, .rwh⟩]⟩,
   ⟨Reg.fldCmdEpoch, 4, 1, 0x00000000, []⟩,
   ⟨Reg.fldColovr0, 4, 1, 0x00000000, [⟨0, 32, .w1c⟩]⟩,
   ⟨Reg.fldColovr1, 4, 1, 0x00000000, [⟨0, 32, .w1c⟩]⟩,
   ⟨Reg.fldCntFrames, 4, 1, 0x00000000, [⟨0, 32, .cnt⟩]⟩,
   ⟨Reg.fldCntLost, 4, 1, 0x00000000, [⟨0, 32, .cnt⟩]⟩,
   ⟨Reg.fldCntFcs, 4, 1, 0x00000000, [⟨0, 32, .cnt⟩]⟩,
   ⟨Reg.fldCntLength, 4, 1, 0x00000000, [⟨0, 32, .cnt⟩]⟩,
   ⟨Reg.fldCntSeq, 4, 1, 0x00000000, [⟨0, 32, .cnt⟩]⟩,
   ⟨Reg.fldCntDup, 4, 1, 0x00000000, [⟨0, 32, .cnt⟩]⟩,
   ⟨Reg.fldCntForeign, 4, 1, 0x00000000, [⟨0, 32, .cnt⟩]⟩,
   ⟨Reg.fldCntScans, 4, 1, 0x00000000, [⟨0, 32, .cnt⟩]⟩,
   ⟨Reg.fldStnStat, 16, 64, 0x00000000, []⟩,
   ⟨Reg.fldStnMiss, 16, 64, 0x00000000, [⟨0, 32, .cnt⟩]⟩,
   ⟨Reg.fldStnViol, 16, 64, 0x00000000, [⟨0, 32, .cnt⟩]⟩,
   ⟨Reg.fldStnLastcyc, 16, 64, 0x00000000, []⟩,
   ⟨Reg.fldIn, 4, 1024, 0x00000000, []⟩,
   ⟨Reg.fldOut, 4, 1024, 0x00000000, []⟩,
   ⟨Reg.aioStatus, 4, 1, 0x00000000, [⟨0, 1, .w1c⟩, ⟨1, 1, .w1c⟩]⟩,
   ⟨Reg.aioCntInflt, 4, 1, 0x00000000, [⟨0, 32, .cnt⟩]⟩,
   ⟨Reg.aioCntOutflt, 4, 1, 0x00000000, [⟨0, 32, .cnt⟩]⟩,
   ⟨Reg.aioCntUnsettled, 4, 1, 0x00000000, [⟨0, 32, .cnt⟩]⟩,
   ⟨Reg.aioDi, 4, 1, 0x00000000, []⟩,
   ⟨Reg.aioDiRaw, 4, 1, 0x00000000, []⟩]

def regGroups6 : List RegGroup :=
  [⟨Reg.aioDo, 4, 1, 0x00000000, []⟩,
   ⟨Reg.aioDoFlt, 4, 1, 0x00000000, []⟩,
   ⟨Reg.aioAiVal, 8, 32, 0x00000000, []⟩,
   ⟨Reg.aioAiFlg, 8, 32, 0x00000000, []⟩,
   ⟨Reg.aioResVal, 8, 8, 0x00000000, []⟩,
   ⟨Reg.aioResFlg, 8, 8, 0x00000000, []⟩,
   ⟨Reg.aioAo, 4, 16, 0x00000000, []⟩,
   ⟨Reg.lgcStatus, 4, 1, 0x00000000, [⟨0, 1, .w1c⟩, ⟨1, 1, .w1c⟩, ⟨2, 1, .w1c⟩, ⟨3, 1, .w1c⟩]⟩,
   ⟨Reg.lgcProgramId, 4, 1, 0x00000000, []⟩,
   ⟨Reg.lgcImageCrc, 4, 1, 0x00000000, []⟩,
   ⟨Reg.lgcCost, 4, 1, 0x00000000, []⟩,
   ⟨Reg.lgcPeriod, 4, 1, 0x00000000, []⟩,
   ⟨Reg.lgcIdle, 4, 1, 0xFFFF0000, [⟨16, 16, .rwh⟩]⟩,
   ⟨Reg.lgcExec, 4, 1, 0x00000000, [⟨16, 16, .rwh⟩]⟩,
   ⟨Reg.lgcCntCycles, 4, 1, 0x00000000, [⟨0, 32, .cnt⟩]⟩,
   ⟨Reg.lgcCntOvr, 4, 1, 0x00000000, [⟨0, 32, .cnt⟩]⟩,
   ⟨Reg.lgcCntSkip, 4, 1, 0x00000000, [⟨0, 32, .cnt⟩]⟩,
   ⟨Reg.lgcCntArith, 4, 1, 0x00000000, [⟨0, 32, .cnt⟩]⟩,
   ⟨Reg.lgcCntGuard, 4, 1, 0x00000000, [⟨0, 32, .cnt⟩]⟩,
   ⟨Reg.lgcCntDiscard, 4, 1, 0x00000000, [⟨0, 32, .cnt⟩]⟩,
   ⟨Reg.safStatus, 4, 1, 0x00000000, []⟩,
   ⟨Reg.safCfgCrc, 4, 1, 0x00000000, []⟩,
   ⟨Reg.safCfgErr, 4, 1, 0x00000000, []⟩,
   ⟨Reg.safFuncStat, 4, 8, 0x00000000, []⟩,
   ⟨Reg.safInhThr, 4, 1, 0xFFFFFFFF, []⟩,
   ⟨Reg.safInhAo, 4, 1, 0xFFFFFFFF, []⟩,
   ⟨Reg.safInhDo, 4, 1, 0xFFFFFFFF, []⟩,
   ⟨Reg.safInhStn0, 4, 1, 0xFFFFFFFF, []⟩,
   ⟨Reg.safInhStn1, 4, 1, 0xFFFFFFFF, []⟩,
   ⟨Reg.safSiRaw, 4, 1, 0x00000000, []⟩,
   ⟨Reg.safClk, 4, 1, 0x00000000, []⟩,
   ⟨Reg.safCntDemand, 4, 1, 0x00000000, []⟩,
   ⟨Reg.safCntInflt, 4, 1, 0x00000000, []⟩,
   ⟨Reg.safCntOutflt, 4, 1, 0x00000000, []⟩,
   ⟨Reg.safCntLink, 4, 1, 0x00000000, []⟩,
   ⟨Reg.safCntLoginfail, 4, 1, 0x00000000, []⟩,
   ⟨Reg.safCntCommit, 4, 1, 0x00000000, []⟩,
   ⟨Reg.safCfg, 4, 128, 0x00000000, []⟩,
   ⟨Reg.redStatus, 4, 1, 0x00000000, [⟨0, 1, .w1c⟩, ⟨1, 1, .w1c⟩, ⟨2, 1, .w1c⟩, ⟨3, 1, .w1c⟩]⟩,
   ⟨Reg.redFlags, 4, 1, 0x00000000, []⟩]

def regGroups7 : List RegGroup :=
  [⟨Reg.redIl, 4, 1, 0x00000000, []⟩,
   ⟨Reg.redCntTakeover, 4, 1, 0x00000000, [⟨0, 32, .cnt⟩]⟩,
   ⟨Reg.redCntCmpfault, 4, 1, 0x00000000, [⟨0, 32, .cnt⟩]⟩,
   ⟨Reg.redCntDiscrep, 4, 1, 0x00000000, [⟨0, 32, .cnt⟩]⟩,
   ⟨Reg.redCntUnres, 4, 1, 0x00000000, [⟨0, 32, .cnt⟩]⟩,
   ⟨Reg.redCntTkfail, 4, 1, 0x00000000, [⟨0, 32, .cnt⟩]⟩,
   ⟨Reg.redCntRlerr, 4, 1, 0x00000000, [⟨0, 32, .cnt⟩]⟩,
   ⟨Reg.redCntRepair, 4, 1, 0x00000000, [⟨0, 32, .cnt⟩]⟩,
   ⟨Reg.redCntReclate, 4, 1, 0x00000000, [⟨0, 32, .cnt⟩]⟩,
   ⟨Reg.redCntSkiptl, 4, 1, 0x00000000, [⟨0, 32, .cnt⟩]⟩,
   ⟨Reg.redPeer, 4, 3, 0x00000000, []⟩,
   ⟨Reg.redTest, 4, 1, 0x0000FFFF, []⟩,
   ⟨Reg.recStatus, 4, 1, 0x00000000, [⟨0, 1, .w1c⟩, ⟨1, 1, .w1c⟩]⟩,
   ⟨Reg.recSeqClear, 4, 1, 0x00000000, []⟩,
   ⟨Reg.recSeqNewest, 4, 1, 0x00000000, []⟩,
   ⟨Reg.recPower, 4, 1, 0x00000000, []⟩,
   ⟨Reg.recCntDrop, 4, 1, 0x00000000, [⟨0, 32, .cnt⟩]⟩,
   ⟨Reg.recCntBad, 4, 1, 0x00000000, [⟨0, 32, .cnt⟩]⟩,
   ⟨Reg.recCntClear, 4, 1, 0x00000000, [⟨0, 32, .cnt⟩]⟩,
   ⟨Reg.recCntCoalesce, 4, 1, 0x00000000, [⟨0, 32, .cnt⟩]⟩,
   ⟨Reg.recCursor, 4, 1, 0x00000000, [⟨0, 32, .rw⟩]⟩,
   ⟨Reg.recWin, 4, 16, 0x00000000, []⟩,
   ⟨Reg.cmpStatus, 4, 1, 0x00000000, [⟨0, 1, .w1c⟩, ⟨1, 1, .w1c⟩, ⟨2, 1, .w1c⟩]⟩,
   ⟨Reg.cmpCycle, 4, 1, 0x00000000, []⟩,
   ⟨Reg.cmpAlarm, 4, 1, 0x00000000, []⟩,
   ⟨Reg.cmpAlarmUnack, 4, 1, 0x00000000, []⟩,
   ⟨Reg.cmpCntFrames, 4, 1, 0x00000000, [⟨0, 32, .cnt⟩]⟩,
   ⟨Reg.cmpCntBcc, 4, 1, 0x00000000, [⟨0, 32, .cnt⟩]⟩,
   ⟨Reg.cmpCntMalformed, 4, 1, 0x00000000, [⟨0, 32, .cnt⟩]⟩,
   ⟨Reg.cmpCntNak, 4, 1, 0x00000000, [⟨0, 32, .cnt⟩]⟩,
   ⟨Reg.cmpCntEarly, 4, 1, 0x00000000, [⟨0, 32, .cnt⟩]⟩,
   ⟨Reg.cmpCntRepeat, 4, 1, 0x00000000, [⟨0, 32, .cnt⟩]⟩,
   ⟨Reg.cmpCntLate, 4, 1, 0x00000000, [⟨0, 32, .cnt⟩]⟩,
   ⟨Reg.cmpCntSingular, 4, 1, 0x00000000, [⟨0, 32, .cnt⟩]⟩,
   ⟨Reg.clkStatus, 4, 1, 0x00000000, [⟨0, 1, .w1c⟩, ⟨1, 1, .w1c⟩, ⟨2, 1, .w1c⟩, ⟨3, 1, .w1c⟩]⟩,
   ⟨Reg.clkDomain, 4, 6, 0x00000000, []⟩,
   ⟨Reg.clkOsc, 4, 1, 0x00000000, []⟩,
   ⟨Reg.clkTemp, 4, 1, 0x00000000, []⟩,
   ⟨Reg.clkGap, 4, 1, 0x00000000, []⟩,
   ⟨Reg.clkGate, 4, 1, 0x00000000, []⟩]

def regGroups8 : List RegGroup :=
  [⟨Reg.clkCntRefsw, 4, 1, 0x00000000, [⟨0, 32, .cnt⟩]⟩,
   ⟨Reg.clkCntLocklost, 4, 1, 0x00000000, [⟨0, 32, .cnt⟩]⟩,
   ⟨Reg.clkCntOpchg, 4, 1, 0x00000000, [⟨0, 32, .cnt⟩]⟩,
   ⟨Reg.clkCntThrottle, 4, 1, 0x00000000, [⟨0, 32, .cnt⟩]⟩,
   ⟨Reg.clkCntWarm, 4, 1, 0x00000000, [⟨0, 32, .cnt⟩]⟩,
   ⟨Reg.clkCntStandby, 4, 1, 0x00000000, [⟨0, 32, .cnt⟩]⟩,
   ⟨Reg.clkCntSrcsw, 4, 1, 0x00000000, [⟨0, 32, .cnt⟩]⟩]

/-- Every register (R81 and the chapters' register lists). -/
def regGroups : List RegGroup := regGroups0 ++ regGroups1 ++ regGroups2 ++ regGroups3 ++ regGroups4 ++ regGroups5 ++ regGroups6 ++ regGroups7 ++ regGroups8

/-- Whether an address is one of a group's registers. -/
def RegGroup.has (g : RegGroup) (addr : Nat) : Bool :=
  g.base ≤ addr && (addr - g.base) % g.stride == 0 && (addr - g.base) / g.stride < g.count

/-- The register at an address; none where the address is reserved or unimplemented (R67). -/
def regFind (addr : Nat) : Option RegGroup := regGroups.find? (fun g => g.has addr)

/-- A register's reset value (a word of a reserved address reads as 0 inside the model, and is never read by an access). -/
def regReset (addr : Nat) : Nat := match regFind addr with
  | some g => g.reset
  | none => 0

/-- What an unlisted address of the register file reads as. -/
def regDflt (addr : Nat) : Word := BitVec.ofNat 32 (regReset addr)

/-- Block index of an address (Table 3.4): bits [31:16], with CAN1 at 0x0006_8000. -/
def blockOf (addr : Nat) : Nat :=
  let p := addr / 0x10000
  if p < 6 then p else if p = 6 then (if addr % 0x10000 < 0x8000 then 6 else 7) else p + 1

end Sys2Proof.Machine
end

