-- ==== Sys2Proof/Machine/Observer.lean ====
section
/-! DEFINITION. The observer's arithmetic (chapter 05): coefficients, time update, measurement models, gate, sequential update, augments, the Datum. -/

namespace Sys2Proof.Machine

/-! Stream records (Table 4.3) and the observer's items (Table 5.6). -/

def strType (cfg : Mem) (n : Nat) : Nat := cfgU8 cfg 0x0800 (64 * n)
def strLink (cfg : Mem) (n : Nat) : Nat := cfgU8 cfg 0x0800 (64 * n + 1)
def strSelector (cfg : Mem) (n : Nat) : Nat := cfgU32 cfg 0x0800 (64 * n + 4)
def strGroup (cfg : Mem) (n : Nat) : Nat := cfgU8 cfg 0x0800 (64 * n + 8)
def strFlags (cfg : Mem) (n : Nat) : Nat := cfgU8 cfg 0x0800 (64 * n + 9)
def strEnable (cfg : Mem) (n : Nat) : Bool := bits (strFlags cfg n) 0 1 == 1
def strRequired (cfg : Mem) (n : Nat) : Bool := bits (strFlags cfg n) 1 1 == 1
def strTimesrc (cfg : Mem) (n : Nat) : Nat := bits (strFlags cfg n) 2 2
def strSourceSigma (cfg : Mem) (n : Nat) : Bool := bits (strFlags cfg n) 4 1 == 1

/-- A parameter `v` of which the spec calls values outside 1 to `top` a host error with unpredictable results (R2, R117, R144): there it is free in that range (log 45). -/
def heldParam (key : List Int) (top v : Nat) : Nat := if v = 0 ∨ top < v then 1 + Config.freeNat 45 key % top else v

/-- The rate in 0.1 Hz, 1 to 2,000. -/
def strRate (cfg : Mem) (n : Nat) : Nat := heldParam [(n : Int)] 2000 (cfgU16 cfg 0x0800 (64 * n + 10))

def strLatency (cfg : Mem) (n : Nat) : Nat := cfgU32 cfg 0x0800 (64 * n + 12)
def strLever (cfg : Mem) (n k : Nat) : Int := cfgS32 cfg 0x0800 (64 * n + 16 + 4 * k)
def strSigma (cfg : Mem) (n k : Nat) : Nat := cfgU32 cfg 0x0800 (64 * n + 28 + 4 * k)
def strJitter (cfg : Mem) (n : Nat) : Nat := cfgU32 cfg 0x0800 (64 * n + 40)
def strDriftInit (cfg : Mem) (n : Nat) : Int := cfgS32 cfg 0x0800 (64 * n + 44)

/-- Whether a span exceeds `k` nominal periods of a stream (a period is 10^10 / RATE ns). -/
def strOver (cfg : Mem) (n : Nat) (span : Int) (k : Nat) : Bool :=
  decide (((k * 10 ^ 10 : Nat) : Int) < span * (strRate cfg n : Nat))

def mountOf (cfg : Mem) (n k : Nat) : Int := cfgS32 cfg 0x0805 (8 * n + 4 * k)

/-! Formats of Table 5.1. -/

def one24 : Int := 16777216
def maxU32 : Int := 4294967295
def fusDelta : Int := 42949673

/-- log2 of the error units of states 0 to 14. -/
def errExp : List Int := [0, 0, -6, -4, -4, -10, 6, 6, 11, -1, -1, -7, -2, -2, -8]

/-- Fraction bits of states 0 to 14 (heading is bam32 and taken apart). -/
def fracBits : List Int := [32, 32, 28, 24, 24, 28, 16, 16, 12, 24, 24, 28, 24, 24, 28]

/-- Bounds of the analysed ranges of states 0 to 14 as stored (heading has none). -/
def stateLim : List Int :=
  [429496729600000, 429496729600000, 0, 167772160, 167772160, 67108864, 524288000, 524288000, 1638400000,
   335544320, 335544320, 134217728, 335544320, 335544320, 268435456]

/-- Squares of the initial σ in normalised units, u8.24 (R142). -/
def initD : List Int :=
  [1677721600, 1677721600, 523328742, 1073741824, 1073741824, 1759218604, 40960000, 40960000, 64000000,
   67108864, 67108864, 109951163, 268435456, 268435456, 439804651]

/-- Whether an augment kind is a lever arm (0 to 2) rather than an angle (3 to 5). -/
def augLever (kind : Nat) : Bool := decide (kind < 3)

/-- log2 s_i of a state index. -/
def expOf (o : ObsStep) (i : Nat) : Int :=
  if i < 15 then errExp.getD i 0 else if augLever (o.aug.getD (i - 15) (0, 0, 0)).2.2 then -3 else -8

def fracOf (o : ObsStep) (i : Nat) : Int :=
  if i < 15 then fracBits.getD i 0 else if augLever (o.aug.getD (i - 15) (0, 0, 0)).2.2 then 24 else 28

/-- LEVER_BOUND and ANGLE_BOUND, u16.16 m and degrees, at most 20 m and 28° (R144). -/
def leverRaw (cfg : Mem) : Nat := heldParam [-4] 1310720 (cfgU32 cfg 0x0804 0)
def angleRaw (cfg : Mem) : Nat := heldParam [-5] 1835008 (cfgU32 cfg 0x0804 4)

/-- LEVER_BOUND as s8.24 m and ANGLE_BOUND as s4.28 rad. -/
def leverBound (cfg : Mem) : Int := ((leverRaw cfg * 256 : Nat) : Int)
def angleBound (cfg : Mem) : Int := divNearAway ((angleRaw cfg * pi100 : Nat) : Int) (180 * 2 ^ 88)

def augBound (cfg : Mem) (kind : Nat) : Int := if augLever kind then leverBound cfg else angleBound cfg

/-! Saturations and pivot clamps (R122, R125). -/

/-- The effects of one saturation. -/
def satFx (idx : Nat) : List Fx := [.count Reg.fusCntStsat 1, .flag Reg.fusStatus 9, .event 39 (u8 idx)]

def satsFx (idx n : Nat) : List Fx := (List.replicate n (satFx idx)).flatten

/-- The effects of one pivot clamp: in the time update (0) or a measurement (1), at a state index. -/
def pivFx (kind idx : Nat) : List Fx := [.count Reg.fusCntPivclamp 1, .flag Reg.fusStatus 8, .event 38 (u8 kind ++ u8 idx)]

/-- What a step has asked for so far: effects, the FUS_SOL bits PIVOT, STSAT and TSUSP_USED. -/
structure ObsAcc where
  fx : List Fx := []
  pivot : Bool := false
  sat : Bool := false
  tsusp : Bool := false
  deriving DecidableEq, Repr

def ObsAcc.sats (a : ObsAcc) (idx n : Nat) : ObsAcc := if n = 0 then a else { a with fx := a.fx ++ satsFx idx n, sat := true }

def ObsAcc.pivs (a : ObsAcc) (kind : Nat) (idxs : List Nat) : ObsAcc :=
  if idxs.isEmpty then a else { a with fx := a.fx ++ idxs.flatMap (pivFx kind), pivot := true }

def ObsAcc.add (a : ObsAcc) (fx : List Fx) : ObsAcc := { a with fx := a.fx ++ fx }

/-- A value brought into a range, and 1 where that changed it. -/
def clipTo (lo hi x : Int) : Int × Nat := let y := clampI lo hi x; (y, if y = x then 0 else 1)

def clip24 (x : Int) : Int × Nat := clipTo (-2147483648) 2147483647 x
def clipU (x : Int) : Int × Nat := clipTo 0 maxU32 x

/-- Initial D of an augment: (bound / 2)² in normalised units, rounded once to u8.24, and 1 where it saturates. -/
def augInitD (cfg : Mem) (kind : Nat) : Int × Nat :=
  clipU (if augLever kind then divNearAway ((16 * leverRaw cfg ^ 2 : Nat) : Int) 256
    else divNearAway (((angleRaw cfg * pi100 * 128) ^ 2 : Nat) : Int) (180 ^ 2 * 2 ^ 208))

def clipAll (xs : List Int) : List Int × Nat :=
  let r := xs.map clip24
  (r.map Prod.fst, (r.map Prod.snd).foldl (· + ·) 0)

def dotI (a b : List Int) : Int := (List.zipWith (· * ·) a b).foldl (· + ·) 0

/-- The pivot floor of R125: 2^-24 of the largest diagonal element, never below 2^-24. -/
def pivFloor (d : List Int) : Int := let m := d.foldl max 0; max 1 (asrRound m 24)

/-- The states brought into their analysed ranges. -/
def limitState (cfg : Mem) (o : ObsStep) (a : ObsAcc) : ObsStep × ObsAcc :=
  let one := fun (i : Nat) (x : Int) =>
    if i = 2 then (((bamOf x : Nat) : Int), 0)
    else
      let b := if i < 15 then stateLim.getD i 0 else augBound cfg (o.aug.getD (i - 15) (0, 0, 0)).2.2
      clipTo (-b) b x
  let r := o.x.zipIdx.map (fun p => (one p.2 p.1, p.2))
  ({ o with x := r.map (fun q => q.1.1) }, r.foldl (fun a q => a.sats q.2 q.1.2) a)

/-! The derived coefficients of R532. -/

/-- The coefficients a, c (per axis) and p, s (per wave state), u16.48, with the number of saturations. -/
structure ObsCoef where
  a : List Int
  c : List Int
  p : List Int
  s : List Int
  sats : Nat
  deriving DecidableEq, Repr

def coefOf (cfg : Mem) : ObsCoef :=
  let dl : Dy := ⟨fusDelta, -32⟩
  let m := fun (k : Nat) => cfgU32 cfg 0x0802 (4 * k)
  let d := fun (k : Nat) => cfgU32 cfg 0x0802 (12 + 4 * k)
  let om := fun (k : Nat) => dyRound ((cfgU32 cfg 0x0802 (24 + 4 * k) : Nat) : Int) 1 (-28)
  let ze := fun (k : Nat) => dyRound ((cfgU32 cfg 0x0802 (36 + 4 * k) : Nat) : Int) 1 (-28)
  let fin := fun (y : Dy) => clipTo 0 18446744073709551615 (dyToFix y 48)
  let ax := [0, 1, 2].map (fun k => if m k = 0 then (Config.freeInt 45 [-1, (k : Int)], 0) else fin (dyDiv dl (dyOfInt (m k : Nat))))
  let cx := [0, 1, 2].map (fun k =>
    if m k = 0 then (Config.freeInt 45 [-2, (k : Int)], 0) else fin (dyDiv (dyMul dl (dyOfInt (d k : Nat))) (dyOfInt (m k : Nat))))
  let pk := [0, 1, 2].map (fun k => fin (dyMul dl (dyMul (om k) (om k))))
  let sk := [0, 1, 2].map (fun k => fin (dyMul (dyMul (dyMul (dyOfInt 2) dl) (ze k)) (om k)))
  let n := (ax ++ cx ++ pk ++ sk).foldl (fun a q => a + q.2) 0
  ⟨ax.map Prod.fst, cx.map Prod.fst, pk.map Prod.fst, sk.map Prod.fst, n⟩

/-- Q, u8.24, of the observer's states, with saturations. -/
def procNoise (cfg : Mem) (n : Nat) : List Int × Nat :=
  let q := fun (k : Nat) => clipU (asrRound (((cfgU32 cfg 0x0802 (48 + 4 * k) : Nat) : Int) * fusDelta) 24)
  let r := (List.range n).map (fun i =>
    if 3 ≤ i ∧ i ≤ 8 then q (i - 3) else if 12 ≤ i ∧ i ≤ 14 then q (i - 6) else (0, 0))
  (r.map Prod.fst, (r.map Prod.snd).foldl (· + ·) 0)

/-! The initial state (R142). -/

def identRows (n : Nat) : List (List Int) :=
  (List.range n).map (fun i => (List.range n).map (fun j => if i = j then one24 else 0))

def obsInitial (streams : List StreamStep) : ObsStep :=
  { x := List.replicate 15 0, u := identRows 15, d := initD, aug := [], posSet := false, hdgSet := false, lastPos := none, lastHdg := none,
    drPos := false, drHdg := false,
    streams := streams, classes := List.replicate 6 {}, pairs := [], slots := List.replicate 12 {}, psiWin := [], attWin := [], posWin := [],
    psiUnwrapped := 0 }

/-! The time update (R123, R532). -/

/-- One entry of Φ in normalised units: an exact value with `fr` fraction bits at (i, j), rounded into s8.24. -/
def phiEntry (i j : Nat) (v : Int) (fr : Int) : Nat × Nat × Int :=
  (i, j, asrRoundZ v (fr - 24 - (errExp.getD j 0 - errExp.getD i 0)))

/-- The entries of Φ that are not those of the identity: the derivative of the map of R532. -/
def phiEntries (k : ObsCoef) (x : List Int) : List (Nat × Nat × Int) :=
  let g := fun i => x.getD i 0
  let psi := (g 2).toNat
  let c := cosBam psi
  let s := sinBam psi
  let cf := fun (l : List Int) (i : Nat) => l.getD i 0
  let d := fusDelta
  let p48 : Int := 281474976710656
  [phiEntry 0 2 (d * (-(s * g 3) - c * g 4)) 86, phiEntry 0 3 (d * c) 62, phiEntry 0 4 (-(d * s)) 62,
   phiEntry 1 2 (d * (c * g 3 - s * g 4)) 86, phiEntry 1 3 (d * s) 62, phiEntry 1 4 (d * c) 62,
   phiEntry 2 5 d 32,
   phiEntry 3 3 (p48 - cf k.c 0) 48, phiEntry 3 6 (cf k.a 0) 48,
   phiEntry 4 4 (p48 - cf k.c 1) 48, phiEntry 4 7 (cf k.a 1) 48,
   phiEntry 5 5 (p48 - cf k.c 2) 48, phiEntry 5 8 (cf k.a 2) 48] ++
  [0, 1, 2].flatMap (fun i =>
    [phiEntry (12 + i) (9 + i) (-(cf k.p i)) 48, phiEntry (12 + i) (12 + i) (p48 - cf k.s i) 48,
     phiEntry (9 + i) (9 + i) (4294967296 * p48 - d * cf k.p i) 80, phiEntry (9 + i) (12 + i) (d * (p48 - cf k.s i)) 80])

/-- Φ as rows of (column, value), with the number of entries that saturated. -/
def phiRows (k : ObsCoef) (x : List Int) : List (List (Nat × Int)) × Nat :=
  let es := (phiEntries k x).map (fun e => (e.1, e.2.1, clip24 e.2.2))
  ((List.range x.length).map (fun i =>
    let own := (es.filter (fun e => e.1 == i)).map (fun e => (e.2.1, e.2.2.1))
    if own.any (fun e => e.1 == i) then own else own ++ [(i, one24)]),
   es.foldl (fun a e => a + e.2.2.2) 0)

/-- Φ·U, each entry one sum reduced once. -/
def phiU (phi : List (List (Nat × Int))) (u : List (List Int)) (n : Nat) : List (List Int) × Nat :=
  let rows := phi.map (fun r =>
    clipAll ((List.range n).map (fun k => asrRound ((r.map (fun e => e.2 * (u.getD e.1 []).getD k 0)).foldl (· + ·) 0) 24)))
  (rows.map Prod.fst, (rows.map Prod.snd).foldl (· + ·) 0)

/-- The Gram–Schmidt update of R123 from column `j - 1` down: rows of W still to do, U rows so far (from their diagonal's right neighbour on), D. -/
structure GsState where
  w : List (List Int)
  u : List (List Int)
  d : List Int
  sats : Nat
  pivs : List Nat
  deriving DecidableEq, Repr

def gsStep (wts : List Int) (floor : Int) (j : Nat) (g : GsState) : GsState :=
  let wj := g.w.getD j []
  let dw := List.zipWith (· * ·) wts wj
  let d0 := asrRound (dotI dw wj) 48
  let low := decide (d0 < floor)
  let (dj, sd) := clipU (if low then floor else d0)
  let upd := fun (wi : List Int) =>
    let (uij, s1) := clip24 (divNearAway (dotI dw wi) (dj * one24).toNat)
    let (w', s2) := clipAll (List.zipWith (fun a b => a - asrRound (uij * b) 24) wi wj)
    (w', uij, s1 + s2)
  let r := (g.w.take j).map upd
  { w := r.map Prod.fst
    u := (List.zipWith (fun us q => q.2.1 :: us) (g.u.take j) r) ++ g.u.drop j
    d := dj :: g.d
    sats := g.sats + sd + r.foldl (fun a q => a + q.2.2) 0
    pivs := if low then g.pivs ++ [j] else g.pivs }

def gsGo (wts : List Int) (floor : Int) : Nat → GsState → GsState
  | 0, g => g
  | j + 1, g => gsGo wts floor j (gsStep wts floor j g)

/-- Full rows of a unit upper triangular matrix from what stands right of its diagonal. -/
def fullRows (u : List (List Int)) : List (List Int) := u.zipIdx.map (fun p => List.replicate p.2 0 ++ one24 :: p.1)

/-- The forces F_x, F_y, F_n of R532 from τ, ω and the biases, with saturations. -/
def forces (x : List Int) (tau om : V3) : List (Int × Nat) :=
  [0, 1, 2].map (fun k => clip24 (tau.get k + om.get k + x.getD (6 + k) 0))

/-- The state update of R532 and the covariance update of R123. -/
def timeUpdate (cfg : Mem) (tau om : V3) (o : ObsStep) (a : ObsAcc) : ObsStep × ObsAcc :=
  let k := coefOf cfg
  let n := o.x.length
  let g := fun i => o.x.getD i 0
  let cf := fun (l : List Int) (i : Nat) => l.getD i 0
  let psi := (g 2).toNat
  let c := cosBam psi
  let s := sinBam psi
  let d := fusDelta
  let (vn, s1) := clip24 (asrRound (c * g 3) 30 - asrRound (s * g 4) 30)
  let (ve, s2) := clip24 (asrRound (s * g 3) 30 + asrRound (c * g 4) 30)
  let f := forces o.x tau om
  let fv := fun (i : Nat) => (f.getD i (0, 0)).1
  let w' := fun (i : Nat) => g (12 + i) - asrRound (cf k.p i * g (9 + i)) 48 - asrRound (cf k.s i * g (12 + i)) 48
  let wl := fun (i : Nat) => clampI (-(stateLim.getD (12 + i) 0)) (stateLim.getD (12 + i) 0) (w' i)
  let x' := [g 0 + asrRound (d * vn) 24, g 1 + asrRound (d * ve) 24,
    ((bamOf (g 2 + radToBam (asrRound (d * g 5) 32)) : Nat) : Int),
    g 3 + asrRound (cf k.a 0 * fv 0) 40 - asrRound (cf k.c 0 * g 3) 48,
    g 4 + asrRound (cf k.a 1 * fv 1) 40 - asrRound (cf k.c 1 * g 4) 48,
    g 5 + asrRound (cf k.a 2 * fv 2) 32 - asrRound (cf k.c 2 * g 5) 48,
    g 6, g 7, g 8,
    g 9 + asrRound (d * wl 0) 32, g 10 + asrRound (d * wl 1) 32, g 11 + asrRound (d * wl 2) 32,
    w' 0, w' 1, w' 2] ++ o.x.drop 15
  let (phi, s3) := phiRows k o.x
  let (pu, s4) := phiU phi o.u n
  let ident := identRows n
  let w := List.zipWith (· ++ ·) pu ident
  let (q, s5) := procNoise cfg n
  let wts := o.d ++ q
  let gs := gsGo wts (pivFloor o.d) n { w := w, u := List.replicate n [], d := [], sats := 0, pivs := [] }
  let inter := s1 + s2 + f.foldl (fun t q => t + q.2) 0 + s3 + s4 + s5 + gs.sats
  let a := (a.sats 0xFF inter).pivs 0 gs.pivs
  let turned := bamDiff (x'.getD 2 0) (g 2)
  limitState cfg { o with x := x', u := fullRows gs.u, d := gs.d, psiUnwrapped := o.psiUnwrapped + turned } a

/-! Measurements (R99 to R101, R120, R531). -/

/-- A measurement of the observer: its type, stream, and its components. -/
structure Meas where
  typ : Nat
  stream : Nat
  z : List Int
  sg : List Nat
  deriving DecidableEq, Repr

/-- The scale factors of a Datum (R120), u0.40. -/
def datumScale (lat0 : Nat) : Nat × Nat :=
  let one := dyOfInt 1
  let f := dyDiv one (dyOfFrac 298257223563 (10 ^ 9))
  let e2 := dyMul f (dySub (dyOfInt 2) f)
  let a := dyOfInt 6378137
  let s : Dy := dyRound (sinBam lat0) 1 (-30)
  let w := dySub one (dyMul (dyMul e2 s) s)
  let rn := dyDiv a (dySqrt w)
  let rm := dyDiv (dyMul rn (dySub one e2)) w
  let fin := fun (r : Dy) => (dyToFix ⟨(dyMul r dyPi).m, (dyMul r dyPi).e - 31⟩ 40).toNat
  (fin rm, fin rn)

/-- Mapping of a latitude and a longitude into the frame of a Datum (R120), unlimited. -/
def datumMapRaw (lat0 lon0 v0 v1 : Nat) : Int × Int :=
  let (kn, ke) := datumScale lat0
  let c := asrRound ((ke : Int) * cosBam v0) 30
  (asrRound ((kn : Int) * bamDiff v0 lat0) 8, asrRound (c * bamDiff v1 lon0) 8)

def datumSet (cfg : Mem) : Bool := cfgU8 cfg 0x0806 12 != 0

/-- Sine table angles of the attitude at a sample time (R99): signed bam32 roll and pitch of the samples of one source, ordered by time. -/
def attAt (cfg : Mem) (smp : List Sample) (src : Option Nat) (ts : Int) : Int × Int :=
  match src with
  | none => (0, 0)
  | some n =>
    let own := smp.filter (fun s => s.stream == n)
    let before := own.filter (fun s => decide (s.ts ≤ ts))
    let after := own.filter (fun s => decide (ts < s.ts))
    let newest := before.foldl (fun (m : Option Sample) s => match m with
      | none => some s
      | some b => if b.ts ≤ s.ts then some s else some b) none
    let oldest := after.foldl (fun (m : Option Sample) s => match m with
      | none => some s
      | some b => if s.ts < b.ts then some s else some b) none
    let rp := fun (s : Sample) => (getS32 s.body 8, getS32 s.body 12)
    let raw : Option (Int × Int) := match newest, oldest with
      | some a, some b =>
        let f := fun (x y : Int) => x + divNearAway (bamDiff y x * (ts - a.ts)) (b.ts - a.ts).toNat
        some (f (rp a).1 (rp b).1, f (rp a).2 (rp b).2)
      | some a, none => some (rp a)
      | none, some b => some (rp b)
      | none, none => none
    match raw with
    | none => (0, 0)
    | some (r, p) => (signed 32 (bamOf (r + radToBam (mountOf cfg n 0))), signed 32 (bamOf (p + radToBam (mountOf cfg n 1))))

/-- North and east components of R·ℓ, s16.16 (R99, R101). -/
def leverNE (cfg : Mem) (n : Nat) (roll pitch : Int) (psi : Nat) : Int × Int :=
  let m := fun (a b : Int) => asrRound (a * b) 30
  let (x, y, z) := (strLever cfg n 0, strLever cfg n 1, strLever cfg n 2)
  let (cr, sr) := (cosBam (bamOf roll), sinBam (bamOf roll))
  let (cp, sp) := (cosBam (bamOf pitch), sinBam (bamOf pitch))
  let (cy, sy) := (cosBam psi, sinBam psi)
  let y1 := m cr y - m sr z
  let z1 := m sr y + m cr z
  let x2 := m cp x + m sp z1
  (m cy x2 - m sy y1, m sy x2 + m cy y1)

/-- A span of nanoseconds as u0.32 s (R101). -/
def spanU32 (ns : Int) : Int := clampI 0 maxU32 (divNearAway (ns * 4294967296) (10 ^ 9))

/-- The measurement a sample gives (R99 to R101, R531), from the state of reference `ref`, and the saturations of its mapping. A PREF sample
gives none while no Datum is set. -/
def measOf (cfg : Mem) (ref : List Int) (tv : Int) (roll pitch : Int) (s : Sample) : Option Meas × Nat :=
  let n := s.stream
  let g := fun i => ref.getD i 0
  let dt := spanU32 (tv - s.ts)
  let ut := g 3 + g 12
  let vt := g 4 + g 13
  let rt := g 5 + g 14
  let psi := bamOf (g 2 + radToBam (asrRound (g 5 * spanU32 (s.ts - (tv - 10000000))) 32))
  let c := cosBam psi
  let sn := sinBam psi
  let v0 := getU32 s.body 8
  let v1 := getU32 s.body 12
  match strType cfg n with
  | 1 =>
    if !datumSet cfg then (none, 0) else
    let (an, ae) := datumMapRaw (cfgU32 cfg 0x0806 0) (cfgU32 cfg 0x0806 4) v0 v1
    let lim := stateLim.getD 0 0
    let (an, s1) := clipTo (-lim) lim an
    let (ae, s2) := clipTo (-lim) lim ae
    let (ln, le) := leverNE cfg n roll pitch psi
    let vn := asrRound (c * ut) 30 - asrRound (sn * vt) 30
    let ve := asrRound (sn * ut) 30 + asrRound (c * vt) 30
    let (zn, s3) := clipTo (-lim) lim (an - ln * 65536 + asrRound (vn * dt) 40 * 65536)
    let (ze, s4) := clipTo (-lim) lim (ae - le * 65536 + asrRound (ve * dt) 40 * 65536)
    let sg := if strSourceSigma cfg n then [getU32 s.body 20, getU32 s.body 20] else [strSigma cfg n 0, strSigma cfg n 1]
    (some ⟨1, n, [zn, ze], sg⟩, s1 + s2 + s3 + s4)
  | 2 =>
    let z := bamOf ((v0 : Int) - radToBam (mountOf cfg n 0) + radToBam (asrRound (rt * dt) 32))
    (some ⟨2, n, [(z : Int)], [strSigma cfg n 0]⟩, 0)
  | 5 =>
    let (z0, s1) := clip24 (signed 32 v0 * 256 + asrRound (rt * strLever cfg n 1) 20)
    let (z1, s2) := clip24 (signed 32 v1 * 256 - asrRound (rt * strLever cfg n 0) 20)
    (some ⟨5, n, [z0, z1], [strSigma cfg n 0, strSigma cfg n 1]⟩, s1 + s2)
  | _ => (none, 0)

/-! Rows, variances, gate (R126, R127). -/

/-- What a measurement's rows depend on besides the state: the voted attitude source with the sample's roll and pitch, which augments are
observed in this epoch. -/
structure RowEnv where
  attSrc : Option Nat
  roll : Int
  pitch : Int
  observed : List Bool
  deriving DecidableEq, Repr

/-- The index of the augment of a kind of a stream, where the model has it. -/
def augIdx (o : ObsStep) (stream kind : Nat) : Option Nat :=
  (o.aug.zipIdx.find? (fun e => e.1.2.2 == kind && decide ((o.slots.getD e.1.2.1 {}).stream = stream))).map (fun e => 15 + e.2)

/-- The value of an augment, 0 where the model has none. -/
def augVal (o : ObsStep) (stream : Option Nat) (kind : Nat) : Int :=
  match stream with
  | none => 0
  | some n => match augIdx o n kind with
    | none => 0
    | some i => o.x.getD i 0

/-- A row of H with its entry for an augment where that is observed. -/
def augEntry (o : ObsStep) (e : RowEnv) (stream : Option Nat) (kind : Nat) (v : Int) : List (Nat × Int) :=
  match stream with
  | none => []
  | some n => match augIdx o n kind with
    | none => []
    | some i => if e.observed.getD (i - 15) false then [(i, v)] else []

/-- The vessel-frame offset a_x, a_y of a PREF stream, s8.24. -/
def vesselOffset (cfg : Mem) (o : ObsStep) (e : RowEnv) (n : Nat) : Int × Int :=
  let lz := strLever cfg n 2
  let phi := bamToRad e.roll 28
  let th := bamToRad e.pitch 28
  let dz := augVal o (some n) 2
  (o.x.getD 9 0 + augVal o (some n) 0 + asrRound (lz * augVal o e.attSrc 5) 20 + asrRound (dz * th) 28,
   o.x.getD 10 0 + augVal o (some n) 1 - asrRound (lz * augVal o e.attSrc 4) 20 - asrRound (dz * phi) 28)

/-- The normalised rows of H (column, s8.24) and innovations (s16.16) of a measurement at a state, unlimited. -/
def measRows (cfg : Mem) (o : ObsStep) (e : RowEnv) (m : Meas) : List (List (Nat × Int) × Int) :=
  let g := fun i => o.x.getD i 0
  let z := fun i => m.z.getD i 0
  let n := some m.stream
  match m.typ with
  | 1 =>
    let (ax, ay) := vesselOffset cfg o e m.stream
    let psi := (g 2).toNat
    let c := cosBam psi
    let s := sinBam psi
    let lz := strLever cfg m.stream 2
    let phi := bamToRad e.roll 28
    let th := bamToRad e.pitch 28
    let row := fun (own : Nat) (p q dpsi : Int) =>
      [(own, one24), (2, asrRound dpsi 36), (9, asrRound p 7), (10, asrRound q 7)] ++
      augEntry o e n 0 (asrRound p 9) ++ augEntry o e n 1 (asrRound q 9) ++ augEntry o e n 2 (asrRound (p * th - q * phi) 37) ++
      augEntry o e e.attSrc 5 (asrRound (p * lz) 30) ++ augEntry o e e.attSrc 4 (asrRound (-(q * lz)) 30)
    [(row 0 c (-s) (-(s * ax) - c * ay), asrRound (z 0 - (g 0 + asrRound (c * ax - s * ay) 22)) 16),
     (row 1 s c (c * ax - s * ay), asrRound (z 1 - (g 1 + asrRound (s * ax + c * ay) 22)) 16)]
  | 2 =>
    let h := g 2 + radToBam (g 11 + augVal o n 3)
    [([(2, one24), (11, 8388608)] ++ augEntry o e n 3 4194304, bamToRad (bamDiff (z 0) h) 22)]
  | 5 =>
    [([(3, one24), (12, 67108864)], asrRound (z 0 - (g 3 + g 12)) 4), ([(4, one24), (13, 67108864)], asrRound (z 1 - (g 4 + g 13)) 4)]
  | _ => []

/-- The TIME_SUSPECT term of R93: (u_t × q)² in normalised units, u16.16; `q` has `fr` fraction bits, the quantity's unit is 2^ex. -/
def suspTerm (ut : Nat) (q : Int) (fr : Nat) (ex : Int) : Int :=
  let v := divNearAway ((ut : Int) * q * ((2 ^ (16 - ex).toNat : Nat) : Int)) (10 ^ 9 * 2 ^ fr)
  asrRound (v * v) 16

/-- The variances ρ of a measurement's components, u16.16 (R126); `ut` is the stream's u_t while it is TIME_SUSPECT. -/
def measRho (cfg : Mem) (o : ObsStep) (tau om : V3) (ut : Option Nat) (m : Meas) : List Int × Nat :=
  let g := fun i => o.x.getD i 0
  let sg := fun i => ((m.sg.getD i 0 : Nat) : Int)
  let extra := fun (q : Int) (fr : Nat) (ex : Int) => match ut with
    | none => 0
    | some u => suspTerm u q fr ex
  let fin := fun (v : Int) => clipTo 1 maxU32 (max 1 v)
  let r : List (Int × Nat) := match m.typ with
    | 1 =>
      let psi := (g 2).toNat
      let c := cosBam psi
      let s := sinBam psi
      let ut := g 3 + g 12
      let vt := g 4 + g 13
      [fin (asrRound (sg 0 * sg 0) 16 + extra (asrRound (c * ut) 30 - asrRound (s * vt) 30) 24 0),
       fin (asrRound (sg 1 * sg 1) 16 + extra (asrRound (s * ut) 30 + asrRound (c * vt) 30) 24 0)]
    | 2 =>
      let rad := bamToRad (min (divNearAway (sg 0 * 65536) 360) maxU32) 22
      [fin (asrRound (rad * rad) 16 + extra (g 5 + g 14) 28 (-6))]
    | 5 =>
      let one := fun (k : Nat) =>
        let f := clip24 (tau.get k + om.get k + g (6 + k))
        let acc := divNearAway (f.1 * 256 - ((cfgU32 cfg 0x0802 (12 + 4 * k) : Nat) : Int) * g (3 + k)) (heldParam [-6, (k : Int)] 0xFFFFFFFF (cfgU32 cfg 0x0802 (4 * k)))
        let r := fin (asrRound (sg k * sg k * 256) 16 + extra acc 24 (-4))
        (r.1, r.2 + if ut.isSome then f.2 else 0)
      [one 0, one 1]
    | _ => []
  (r.map Prod.fst, r.foldl (fun a q => a + q.2) 0)

/-- f = Uᵀ·h, s8.24, with saturations. -/
def fOf (o : ObsStep) (h : List (Nat × Int)) : List Int × Nat :=
  clipAll ((List.range o.x.length).map (fun j =>
    asrRound ((h.map (fun e => if e.1 ≤ j then e.2 * (o.u.getD e.1 []).getD j 0 else 0)).foldl (· + ·) 0) 24))

/-- Σ a·d·b over the states, u16.16. -/
def sDot (a d b : List Int) : Int := asrRound (dotI (List.zipWith (· * ·) a d) b) 56

/-- The statistic d² of R127, u16.16, and the saturations met on the way. -/
def gateStat (cfg : Mem) (o : ObsStep) (e : RowEnv) (rho : List Int) (m : Meas) : Int × Nat :=
  let rows := measRows cfg o e m
  let fs := rows.map (fun r => fOf o r.1)
  let nus := rows.map (fun r => clip24 r.2)
  let n := fs.foldl (fun a q => a + q.2) 0 + nus.foldl (fun a q => a + q.2) 0
  let f := fun i => (fs.getD i ([], 0)).1
  let nu := fun i => (nus.getD i (0, 0)).1
  let d2 : Int :=
    if rows.length = 1 then divNearAway (nu 0 * nu 0) (sDot (f 0) o.d (f 0) + rho.getD 0 1).toNat
    else
      let s11 := sDot (f 0) o.d (f 0) + rho.getD 0 1
      let s22 := sDot (f 1) o.d (f 1) + rho.getD 1 1
      let s12 := sDot (f 0) o.d (f 1)
      let det := s11 * s22 - s12 * s12
      if det ≤ 0 then maxU32
      else divNearAway (s22 * nu 0 * nu 0 - 2 * s12 * nu 0 * nu 1 + s11 * nu 1 * nu 1) det.toNat
  (clampI 0 maxU32 d2, n)

/-! The sequential update (R124). -/

/-- The running values of R124's loop: α, the columns of U done, D, b, saturations and clamps. -/
structure SeqState where
  alpha : Int
  cols : List (List Int)
  d : List Int
  b : List Int
  sats : Nat
  pivs : List Nat
  deriving DecidableEq, Repr

/-- Column `j` of the loop: its f, g, d and the column of U. -/
def seqStep (floor : Int) (s : SeqState) (j : Nat) (f g d : Int) (col : List Int) : SeqState :=
  let (al, s1) := clipU (s.alpha + asrRound (f * g) 32)
  let d0 := divNearAway (d * s.alpha) al.toNat
  let low := decide (d0 < floor)
  let (dj, s2) := clipU (if low then floor else d0)
  let (p, s3) := clip24 (divNearAway (-(f * 65536)) s.alpha.toNat)
  let upd := List.zipWith (fun (t b : Int) =>
    let (t', q1) := clip24 (t + asrRound (b * p) 24)
    let (b', q2) := clip24 (b + asrRound (t * g) 24)
    (t', b', q1 + q2)) (col.take j) s.b
  { alpha := al
    cols := s.cols ++ [upd.map (fun q => q.1) ++ col.drop j]
    d := s.d ++ [dj]
    b := upd.map (fun q => q.2.1) ++ [g]
    sats := s.sats + s1 + s2 + s3 + upd.foldl (fun a q => a + q.2.2) 0
    pivs := if low then s.pivs ++ [j] else s.pivs }

def seqGo (floor : Int) : List (Nat × Int × Int × Int × List Int) → SeqState → SeqState
  | [], s => s
  | (j, f, g, d, col) :: r, s => seqGo floor r (seqStep floor s j f g d col)

/-- A matrix of n rows from its columns, and its columns from its rows. -/
def transpose (n : Nat) (m : List (List Int)) : List (List Int) := (List.range n).map (fun i => m.map (fun r => r.getD i 0))

/-- A component's update: row, variance, innovation (R124), the correction of the state (R122) and its limits. -/
def scalarUpdate (cfg : Mem) (h : List (Nat × Int)) (rho nu0 : Int) (o : ObsStep) (a : ObsAcc) : ObsStep × ObsAcc :=
  let n := o.x.length
  let (nu, s0) := clip24 nu0
  let (f, s1) := fOf o h
  let (g, s2) := clipAll (List.zipWith (fun d f => asrRound (d * f) 24) o.d f)
  let cols := transpose n o.u
  let items := (List.range n).map (fun j => (j, f.getD j 0, g.getD j 0, o.d.getD j 0, cols.getD j []))
  let s := seqGo (pivFloor o.d) items { alpha := rho, cols := [], d := [], b := [], sats := 0, pivs := [] }
  let (k, s3) := clipAll (s.b.map (fun b => divNearAway (b * 65536) s.alpha.toNat))
  let corr := fun (i : Nat) (x k : Int) =>
    if i = 2 then ((bamOf (x + radToBam (asrRound (k * nu) 18)) : Nat) : Int)
    else x + asrRoundZ (k * nu) (40 - expOf o i - fracOf o i)
  let x' := (List.zipWith (fun (xi : Int × Nat) k => corr xi.2 xi.1 k) o.x.zipIdx k)
  let turned := bamDiff (x'.getD 2 0) (o.x.getD 2 0)
  let a := (a.sats 0xFF (s0 + s1 + s2 + s.sats + s3)).pivs 1 s.pivs
  limitState cfg { o with x := x', u := transpose n s.cols, d := s.d, psiUnwrapped := o.psiUnwrapped + turned } a

/-- Every component of a measurement, V0 then V1, each from the state the one before has left. -/
def measUpdate (cfg : Mem) (e : RowEnv) (rho : List Int) (m : Meas) (o : ObsStep) (a : ObsAcc) : ObsStep × ObsAcc :=
  (List.range m.z.length).foldl (fun (q : ObsStep × ObsAcc) i =>
    let r := (measRows cfg q.1 e m).getD i ([], 0)
    scalarUpdate cfg r.1 (rho.getD i 1) r.2 q.1 q.2) (o, a)

/-! Augments (R135 to R137). -/

/-- The augment kinds of a stream type. -/
def augKinds (typ : Nat) : List Nat := match typ with
  | 1 => [0, 1, 2]
  | 2 => [3]
  | 3 => [4, 5]
  | _ => []

/-- The lowest free run of `k` consecutive positions of the 12. -/
def freeRun (o : ObsStep) (k : Nat) : Option Nat :=
  (List.range (13 - k)).find? (fun p => (List.range k).all (fun i => !(o.aug.any (fun e => e.1 == p + i))))

/-- The slot of a stream that is not OFF. -/
def slotOf (o : ObsStep) (n : Nat) : Option Nat :=
  (List.range 12).find? (fun k => let s := o.slots.getD k {}; decide (s.state ≠ .off) && s.stream == n)

/-- Insert at index `i` of a list. -/
def insAt {α : Type} (i : Nat) (v : α) (xs : List α) : List α := xs.take i ++ v :: xs.drop i

/-- Add one augment state with value 0 and zero correlation. -/
def augAdd (cfg : Mem) (slot pos kind : Nat) (o : ObsStep) : ObsStep :=
  let r := (o.aug.filter (fun e => decide (e.1 < pos))).length
  let i := 15 + r
  let n := o.x.length
  { o with
    x := insAt i 0 o.x
    u := insAt i ((List.range (n + 1)).map (fun j => if j = i then one24 else 0)) (o.u.map (insAt i 0))
    d := insAt i (augInitD cfg kind).1 o.d
    aug := insAt r (pos, slot, kind) o.aug }

/-- START of a calibration slot (R135); nothing where no position run or slot is free. -/
def calStart (cfg : Mem) (n : Nat) (o : ObsStep) (a : ObsAcc) : ObsStep × ObsAcc :=
  let kinds := augKinds (strType cfg n)
  match freeRun o kinds.length, (List.range 12).find? (fun k => decide ((o.slots.getD k {}).state = .off)) with
  | some p, some k =>
    let o := kinds.zipIdx.foldl (fun o q => augAdd cfg k (p + q.2) q.1 o) o
    ({ o with slots := o.slots.set k { state := .learning, stream := n, first := p, size := kinds.length } },
     a.sats 0xFF (kinds.foldl (fun t x => t + (augInitD cfg x).2) 0))
  | _, _ => (o, a)

/-- P = U·D·Uᵀ over the kept indices, 24 fraction bits. -/
def covOf (o : ObsStep) (keep : List Nat) : List (List Int) :=
  keep.map (fun i => keep.map (fun j =>
    asrRound (dotI (List.zipWith (· * ·) (o.u.getD i []) o.d) (o.u.getD j [])) 48))

/-- The backward UD decomposition of a covariance: for column j from the last, d_j and u_ij, with P reduced by what column j explains. -/
def udGo (floor : Int) : Nat → List (List Int) → List (List Int) → List Int → Nat → List Nat → List (List Int) × List Int × Nat × List Nat
  | 0, _, us, ds, s, pv => (us, ds, s, pv)
  | j + 1, p, us, ds, s, pv =>
    let d0 := (p.getD j []).getD j 0
    let low := decide (d0 < floor)
    let (dj, s1) := clipU (if low then floor else d0)
    let col := (List.range j).map (fun i => clip24 (divNearAway ((p.getD i []).getD j 0 * one24) dj.toNat))
    let c := col.map Prod.fst
    let p' := (p.take j).zipIdx.map (fun r => r.1.zipIdx.map (fun e => e.1 - asrRound (c.getD r.2 0 * dj * c.getD e.2 0) 48))
    udGo floor j p' ((List.zipWith (fun u v => v :: u) (us.take j) c) ++ us.drop j) (dj :: ds)
      (s + s1 + col.foldl (fun a q => a + q.2) 0) (if low then j :: pv else pv)

/-- The slot's states removed, the rest factored anew (R135). -/
def calDrop (k : Nat) (o : ObsStep) (a : ObsAcc) : ObsStep × ObsAcc :=
  let n := o.x.length
  let keep := (List.range n).filter (fun i => decide (i < 15) || (o.aug.getD (i - 15) (0, 0, 0)).2.1 != k)
  let m := keep.length
  let (us, ds, s, pv) := udGo (pivFloor o.d) m (covOf o keep) (List.replicate m []) [] 0 []
  let o' := { o with
    x := keep.map (fun i => o.x.getD i 0)
    u := fullRows us
    d := ds
    aug := o.aug.filter (fun e => e.2.1 != k)
    slots := o.slots.set k {} }
  (o', (a.sats 0xFF s).pivs 0 pv)

/-- A lever arm or mounting changed under a LEARNING slot is a host error (R144): the slot's augments are free within their bounds (log 45). -/
def calSpoil (cfg : Mem) (k : Nat) (o : ObsStep) : ObsStep :=
  { o with x := o.x.zipIdx.map (fun q =>
      let e := o.aug.getD (q.2 - 15) (0, 12, 0)
      let b := augBound cfg e.2.2
      if 15 ≤ q.2 ∧ e.2.1 = k then clampI (-b) b (Config.freeInt 45 [-7, (k : Int), (q.2 : Int), q.1]) else q.1) }

/-- What a host action or an exchange does to the stream's slot. -/
def calAct (cfg : Mem) (n op : Nat) (o : ObsStep) (a : ObsAcc) : ObsStep × ObsAcc :=
  match op, slotOf o n with
  | 10, none => calStart cfg n o a
  | 11, some k => ({ o with slots := modNth o.slots k (fun s => { s with state := .frozen, obs := false }) }, a)
  | 12, some k => ({ o with slots := modNth o.slots k (fun s => { s with state := .learning }) }, a)
  | 13, some k => ({ o with slots := modNth o.slots k (fun s => { s with state := .frozen, obs := false }) }, a)
  | 14, some k => calDrop k o a
  | 15, some k => (calSpoil cfg k o, a)
  | _, _ => (o, a)

/-- The metric of a kind reaches its threshold (Table 5.3), on the windows of the state. -/
def augMetric (cfg : Mem) (o : ObsStep) (kind : Nat) : Bool :=
  match kind with
  | 2 =>
    let n := o.attWin.length
    let sq : Int := o.attWin.foldl (fun a q => a + q.2.1 * q.2.1 + q.2.2 * q.2.2) 0
    decide (n ≠ 0) && decide (((cfgU32 cfg 0x0804 20 * 65536) ^ 2 * (2 * n) : Nat) ≤ (sq * 129600).toNat)
  | 3 =>
    let ps := o.posWin.map (fun q => (q.2.1, q.2.2))
    let trav : Nat := (ps.zip (ps.drop 1)).foldl (fun a q => a + isqrt ((q.1.1 - q.2.1).natAbs ^ 2 + (q.1.2 - q.2.2).natAbs ^ 2)) 0
    decide (cfgU32 cfg 0x0804 24 * 65536 ≤ trav)
  | _ =>
    match o.psiWin with
    | [] => false
    | q :: r =>
      let hi := r.foldl (fun m p => max m p.2) q.2
      let lo := r.foldl (fun m p => min m p.2) q.2
      decide (((cfgU32 cfg 0x0804 16 * 65536 : Nat) : Int) ≤ (hi - lo) * 360)

/-- Which augments are observed in an epoch (R136). -/
def augObserved (cfg : Mem) (o : ObsStep) (attSrc : Option Nat) : List Bool :=
  o.aug.map (fun e =>
    let s := o.slots.getD e.2.1 {}
    decide (s.state = .learning) && (augLever e.2.2 || e.2.2 == 3 || attSrc == some s.stream) && augMetric cfg o e.2.2)

/-- The largest change of an augment in an epoch. -/
def augRate (cfg : Mem) (kind : Nat) : Int :=
  if augLever kind then asrRound (((cfgU32 cfg 0x0804 8 : Nat) : Int) * fusDelta) 24
  else divNearAway (((cfgU32 cfg 0x0804 12 * pi100 : Nat) : Int) * fusDelta) (180 * 2 ^ 120)

/-- σ of state `i` at or below READY_FRACTION × bound. -/
def augReady (cfg : Mem) (o : ObsStep) (i kind : Nat) : Bool :=
  let u := o.u.getD i []
  let var : Int := dotI (List.zipWith (· * ·) u o.d) u
  let rf := cfgU32 cfg 0x0804 28
  if augLever kind then decide (var ≤ (((rf * leverRaw cfg * 8) ^ 2 : Nat) : Int) * 256)
  else decide (var * ((180 ^ 2 * 2 ^ 192 : Nat) : Int) ≤ (((rf * angleRaw cfg * 256 * pi100) ^ 2 : Nat) : Int))

/-- The augment limits of a step (R136): change and bound of each augment of a LEARNING slot, `before` being the values at the start of the
step; READY and BOUND with their events. -/
def augLimits (cfg : Mem) (observed : List Bool) (before : List Int) (o : ObsStep) (a : ObsAcc) : ObsStep × ObsAcc :=
  let lim := o.aug.zipIdx.map (fun e =>
    let i := 15 + e.2
    let kind := e.1.2.2
    let x := o.x.getD i 0
    if (o.slots.getD e.1.2.1 {}).state ≠ .learning then (x, false, false) else
    let old := before.getD i 0
    let b := augBound cfg kind
    let y := clampI (-b) b (clampI (old - augRate cfg kind) (old + augRate cfg kind) x)
    (y, decide (y.natAbs = b.natAbs), decide (old.natAbs = b.natAbs)))
  let o1 := { o with x := o.x.take 15 ++ lim.map Prod.fst }
  let per := fun (k : Nat) (s : CalSlot) =>
    if s.state ≠ .learning then (s, ([] : List Fx)) else
    let idx := (o1.aug.zipIdx.filter (fun e => e.1.2.1 == k)).map (fun e => (e.2, e.1.2.2))
    let rdy := idx.all (fun e => augReady cfg o1 (15 + e.1) e.2)
    let hit := idx.filter (fun e => (lim.getD e.1 (0, false, false)).2.1 && !(lim.getD e.1 (0, false, false)).2.2)
    ({ s with
       ready := s.ready || rdy
       obs := idx.any (fun e => observed.getD e.1 false)
       bound := idx.any (fun e => (lim.getD e.1 (0, false, false)).2.1) },
     (if rdy && !s.ready then [Fx.event 44 (u8 k ++ u8 s.stream)] else []) ++
     hit.map (fun e => Fx.event 45 (u8 k ++ u8 s.stream ++ u8 (15 + e.1))))
  let r := o1.slots.zipIdx.map (fun q => per q.2 q.1)
  ({ o1 with slots := r.map Prod.fst }, a.add (r.flatMap Prod.snd))

/-- σ_N, σ_E (u16.16 m) and σ_ψ (u16.16 degrees) of Table 5.4: truncated roots, σ_ψ as s4.28 rad taken to bam32 by R119 (log 63). -/
def sigmasOf (o : ObsStep) : Nat × Nat × Nat :=
  let var := fun (i : Nat) => let u := o.u.getD i []; (dotI (List.zipWith (· * ·) u o.d) u).toNat
  let m := fun (i : Nat) => min (isqrt (var i / 2 ^ 40)) 0xFFFFFFFF
  (m 0, m 1, min (asrRound (radToBam ((isqrt (var 2 / 2 ^ 28) : Nat) : Int) * 360) 16).toNat 0xFFFFFFFF)

end Sys2Proof.Machine
end

