-- ==== Sys2Proof/Machine/Analog.lean ====
section
/-! DEFINITION. The analogue core: filters, flags, engineering words, resolvers, outputs, digital I/O, calibration (chapter 14). -/

namespace Sys2Proof.Machine

/-! Channels are numbered 0 to 31 (inputs 1 to 32) and 32 to 39 (resolvers 1 to 8); a group has eight. -/

def aioGroupOf (ch : Nat) : Nat := ch / 8
def aioRun (cfg : Mem) (g : Nat) : Bool := cfgU8 cfg 0x0601 (8 * g) % 2 == 1
def aioPreset (cfg : Mem) (g : Nat) : Nat := cfgWithin 0x0601 (8 * g + 1) 0 3 (cfgU8 cfg 0x0601 (8 * g + 1))

/-- N of a preset (Table 14.2); `n` for USER. -/
def presetN (preset n : Nat) : Nat := match preset with
  | 0 => 512
  | 1 => 5120
  | 2 => 51200
  | _ => n

def aioN (cfg : Mem) (g : Nat) : Nat := presetN (aioPreset cfg g) (cfgWithin 0x0601 (8 * g + 4) 64 65536 (cfgU32 cfg 0x0601 (8 * g + 4)))
def aiRange (cfg : Mem) (ch : Nat) : Nat := cfgWithin 0x0600 (16 * ch) 0 2 (cfgU8 cfg 0x0600 (16 * ch))
def aiLoop (cfg : Mem) (ch : Nat) : Bool := cfgU8 cfg 0x0600 (16 * ch + 1) % 2 == 1
def aiGain (cfg : Mem) (ch : Nat) : Int := cfgS32 cfg 0x0600 (16 * ch + 4)
def aiOffset (cfg : Mem) (ch : Nat) : Int := cfgS32 cfg 0x0600 (16 * ch + 8)
def resExc (cfg : Mem) (r : Nat) : Nat := cfgWithin 0x0602 (8 * r) 0 3 (cfgU8 cfg 0x0602 (8 * r))
def resOffset (cfg : Mem) (r : Nat) : Nat := cfgU32 cfg 0x0602 (8 * r + 4)
def aoRange (cfg : Mem) (o : Nat) : Nat := cfgWithin 0x0603 (16 * o) 0 2 (cfgU8 cfg 0x0603 (16 * o))
def aoInhibit (cfg : Mem) (o : Nat) : Nat := cfgU16 cfg 0x0603 (16 * o + 2)
def aoGain (cfg : Mem) (o : Nat) : Int := cfgS32 cfg 0x0603 (16 * o + 4)
def aoOffset (cfg : Mem) (o : Nat) : Int := cfgS32 cfg 0x0603 (16 * o + 8)
def aoTol (cfg : Mem) (o : Nat) : Nat := cfgU16 cfg 0x0603 (16 * o + 12)
def diFilter (cfg : Mem) (i : Nat) : Nat := cfgWithin 0x0604 (2 * i) 0 2550 (cfgU16 cfg 0x0604 (2 * i))

/-- Index of a calibration record: inputs, resolvers, outputs in turn (Table 14.4). -/
def calIndex (kind ch : Nat) : Nat := match kind with
  | 0 => ch
  | 1 => 32 + ch
  | _ => 40 + ch

/-- G and O of a channel (R366): the field values, else the factory values, which the spec does not state (log 41). -/
def calOf (cfg : Mem) (kind ch : Nat) : Nat × Int :=
  let i := calIndex kind ch
  let g := cfgU32 cfg 0x0605 (8 * i)
  if g = 0 then (Config.freeNat 41 [(kind : Int), (ch : Int)], Config.freeInt 41 [(kind : Int), (ch : Int)]) else (g, cfgS32 cfg 0x0605 (8 * i + 4))

/-- The corrected reading (R366). -/
def calApply (cal : Nat × Int) (raw : Int) : Int := mulAsr cal.1 raw 30 + cal.2

/-- The largest reading, 1 − 2^−23. -/
def aioFull : Int := 8388607

/-- A reading limited to ±(1 − 2^−23), and whether it is overrange (R349). -/
def aioLimit (x : Int) : Int × Bool := (clampI (-aioFull) aioFull x, decide (aioFull ≤ x ∨ x ≤ -aioFull))

/-- Signal fault of a current loop: I below 3.6 mA or above 21.0 mA (R353). -/
def loopFault (x : Int) : Bool := decide (10 * x < -(7 * 8388608) ∨ 4 * x > 3 * 8388608)

/-- w = OFFSET + asr_round(GAIN × x, 23) modulo 2^32 (R356). -/
def aioWord (gain offset x : Int) : Nat := unsigned 32 (offset + mulAsr gain x 23)

/-- Word, overrange and signal fault of a window's reading. -/
def aioRead (cfg : Mem) (ch : Nat) (ref : Option Nat) (r : AioRaw) : Nat × Bool × Bool × Nat :=
  if ch < 32 then
    let (x, ovr) := aioLimit (calApply (calOf cfg 0 ch) r.x)
    (aioWord (aiGain cfg ch) (aiOffset cfg ch) x, ovr, aiRange cfg ch == 2 && aiLoop cfg ch && loopFault x, 0)
  else
    let k := ch - 32
    let cal := calOf cfg 1 k
    let (s, o1) := aioLimit (calApply cal r.x)
    let (c, o2) := aioLimit (calApply cal r.c)
    let m := (s * s + c * c).toNat
    let bad := match ref with
      | none => false
      | some q => decide (100 * m < 64 * q ∨ 144 * q < 100 * m)
    ((atan2 s c + resOffset cfg k) % 2 ^ 32, o1 || o2, bad || r.exLimit, m)

def aioFlags (o : AioOut) : Nat := b2n o.unsettled + 2 * b2n o.ovr + 4 * b2n o.sig

def aioFaultDetail (ch : Nat) (o : AioOut) (start : Bool) : List Byte :=
  [byteOf (b2n (decide (32 ≤ ch))), byteOf (ch % 32 + 1), byteOf (aioFlags o), byteOf (b2n start)]

/-- Whether a window of a group can end at MONO `t` (R350): within the nanosecond at a multiple of the output period, N × 195.3125 ns. -/
def aioWindowAt (cfg : Mem) (g t : Nat) : Bool :=
  let p := 3125 * aioN cfg g
  decide (16 * t % p < 16) || decide (p - 16 * t % p < 16)

/-- The start and end of a fault of a channel; `key` tells overrange from signal fault (R353, log 88). -/
def aioFaultFx (key ch : Nat) (was is_ : Bool) (o : AioOut) : List Fx :=
  if is_ && !was then [.flag Reg.aioStatus 0, .count Reg.aioCntInflt 1, .start 88 key (aioFaultDetail ch o true)]
  else if was && !is_ then [.ended 88 key (aioFaultDetail ch o false)] else []

/-- An output of a channel's filter at window end `t` (R350 to R353). -/
def aioOutput (cfg : Mem) (t ch : Nat) (r : AioRaw) (c : AioChan) : AioChan × List Fx :=
  let (w, ovr, sig, m) := aioRead cfg ch c.ref r
  let was := c.new.ovr || c.new.sig
  let isFault := ovr || sig
  let back := was && !isFault
  let settle := if back then 0 else c.settle + 1
  let o : AioOut := { te := t, w := w, unsettled := decide (settle < 3), ovr := ovr, sig := sig }
  let ref := if ch < 32 then c.ref else match c.ref with
    | some q => some q
    | none => some m
  let fx := aioFaultFx ch ch c.new.ovr ovr o ++ aioFaultFx (64 + ch) ch c.new.sig sig o ++ (if back then [.count Reg.aioCntUnsettled 1] else [])
  ({ new := o, old := c.new, settle := settle, ref := ref }, fx)

/-- Whether a channel gives outputs: its group runs and its range is not off. -/
def aioActive (cfg : Mem) (a : Aio) (ch : Nat) : Bool :=
  a.running && aioRun cfg (aioGroupOf ch) && (decide (32 ≤ ch) || aiRange cfg ch != 0)

/-- The newest output whose window ended strictly before a tick (R358). -/
def aioBefore (a : Aio) (t ch : Nat) : AioOut :=
  let c := a.chans.getD ch {}
  if c.new.te < t then c.new else c.old

/-- The flags of a channel as they read: a stopped group is a signal fault (R355). -/
def aioFlagView (cfg : Mem) (a : Aio) (ch : Nat) : Nat :=
  let o := (a.chans.getD ch {}).new
  aioFlags { o with sig := o.sig || !(a.running && aioRun cfg (aioGroupOf ch)) }

/-- What a servo loop reads from a channel at a tick: the word, and whether a signal fault is present (R236, R352, R353, R355). -/
def aioFeedback (cfg : Mem) (a : Aio) (t ch : Nat) : Nat × Bool :=
  let o := aioBefore a t ch
  (o.w, o.ovr || o.sig || o.unsettled || !(a.running && aioRun cfg (aioGroupOf ch)))

/-- Filters restarted (R352): the channels' settling counts, and the count. -/
def aioRestart (a : Aio) (chs : List Nat) : Aio × List Fx :=
  (chs.foldl (fun a ch => { a with chans := modNth a.chans ch (fun c => { c with settle := 0 }) }) a,
   if chs.isEmpty then [] else [.count Reg.aioCntUnsettled chs.length])

def groupChans (g : Nat) : List Nat := (List.range 8).map (fun k => 8 * g + k)

/-- Start of every group whose RUN is 1 (R369). -/
def aioStart (cfg : Mem) (a : Aio) : Aio × List Fx :=
  let (b, fx) := aioRestart { a with running := true } (((List.range 5).filter (aioRun cfg)).flatMap groupChans)
  (b, fx)

/-- Configuration changes at a boundary (R352, R359): changed ranges and excitations restart their filters, a changed resolver record takes
its amplitude anew. -/
def aioApply (old new : Mem) (a : Aio) : Aio × List Fx :=
  let ins := (List.range 32).filter (fun c => aiRange old c != aiRange new c)
  let ress := (List.range 8).filter (fun r => resExc old r != resExc new r)
  let recs := (List.range 8).filter (fun r => cfgBytes old 0x0602 (8 * r) 8 != cfgBytes new 0x0602 (8 * r) 8)
  let a1 := recs.foldl (fun a r => { a with chans := modNth a.chans (32 + r) (fun c => { c with ref := none }) }) a
  aioRestart a1 (ins ++ ress.map (fun r => 32 + r))

/-! AIO_FILTER_SET as staged bytes of item 0x0601 (R354). -/

def filterStop (g : Nat) : Mem := stageBytes [] (cfgKey 0x0601 (8 * g)) [0]
def filterStart (g : Nat) : Mem := stageBytes [] (cfgKey 0x0601 (8 * g)) [1]
def filterLoad (g preset n : Nat) (delays : List Byte) : Mem :=
  stageBytes (stageBytes [] (cfgKey 0x0601 (8 * g + 1)) ([byteOf preset, 0, 0] ++ u32 (presetN preset n))) (cfgKey 0x0601 (40 + 16 * g)) delays

/-- What a STOP (0), LOAD (1) or START (2) that applies does beside the item (Table 14.6). -/
def filterApplied (new : Mem) (g action : Nat) (a : Aio) : Aio × List Fx :=
  let (a1, fx) := if action = 2 then aioRestart a (groupChans g) else (a, [])
  (a1, fx ++ [.event 90 ([byteOf g, byteOf action, byteOf (aioPreset new g), 0] ++ u32 (aioN new g))])

/-! Calibration (R366). -/

/-- The reference of an input in µV or nA as s1.23. -/
def calRef (range : Nat) (v : Int) : Int :=
  if range = 2 then divNearAway ((v - 12000000) * 8388608) 12000000 else divNearAway (v * 8388608) 10000000

/-- The reference of an output's point: codes 0x2000 and 0xE000. -/
def calOutRef (point2 : Bool) : Int := if point2 then 6291456 else -6291456
def calOutCode (point2 : Bool) : Nat := if point2 then 0xE000 else 0x2000

def calPoint (a : Aio) (kind ch : Nat) (p2 : Bool) : Option CalPoint :=
  a.points.find? (fun p => p.kind == kind && p.chan == ch && p.point2 == p2)

/-- G and O from both points; none where a point is missing or the points differ by less than 25 % of full scale. -/
def calSolve (a : Aio) (kind ch : Nat) : Option (Nat × Int) :=
  match calPoint a kind ch false, calPoint a kind ch true with
  | some p, some q =>
    let dm := q.mean - p.mean
    if dm.natAbs < 2097152 then none else
    let n := (q.ref - p.ref) * 1073741824
    let g := (satU 32 (if dm < 0 then divNearAway (-n) dm.natAbs else divNearAway n dm.natAbs)).toNat
    some (g, p.ref - mulAsr g p.mean 30)
  | _, _ => none

/-- Staged bytes of a calibration record. -/
def calStage (kind ch g : Nat) (o : Int) : Mem := stageBytes [] (cfgKey 0x0605 (8 * calIndex kind ch)) (u32 g ++ s32 o)

/-- A settled output counted into the runs of a channel: the runs that end give (open request, mean). -/
def calFeed (kind ch : Nat) (x : Int) (need : Nat) (a : Aio) : Aio × List (Nat × Int) :=
  let step := fun (r : CalRun) => if r.kind == kind && r.chan == ch then { r with sum := r.sum + x, n := r.n + 1 } else r
  let runs := a.runs.map step
  let mean := fun (r : CalRun) => divNearAway r.sum r.n
  let done := runs.filter (fun r => decide (need ≤ r.n) && r.kind == kind && r.chan == ch)
  let pts := done.map (fun r => ({ kind := kind, chan := ch, point2 := r.point2, mean := mean r, ref := r.ref } : CalPoint))
  let keep := a.points.filter (fun p => !(pts.any (fun q => q.kind == p.kind && q.chan == p.chan && q.point2 == p.point2)))
  ({ a with runs := runs.filter (fun r => !(decide (need ≤ r.n) && r.kind == kind && r.chan == ch)), points := keep ++ pts },
   done.map (fun r => (r.id, mean r)))

/-- A window ends on a channel: the new state, the replies of calibration points that end, effects. The mean of a resolver's point is not
stated by the spec (log 42). -/
def aioWindow (cfg : Mem) (t ch : Nat) (r : AioRaw) (a : Aio) : Aio × List (Nat × Int) × List Fx :=
  if !aioActive cfg a ch || !aioWindowAt cfg (aioGroupOf ch) t then (a, [], []) else
  let (c, fx) := aioOutput cfg t ch r (a.chans.getD ch {})
  let a1 := { a with chans := a.chans.set ch c }
  if c.new.unsettled then (a1, [], fx) else
  let kind := if ch < 32 then 0 else 1
  let x := if ch < 32 then r.x else Config.freeInt 42 [(ch : Int), (t : Int)]
  let (a2, done) := calFeed kind (ch % 32) x 256 a1
  (a2, done, fx)

/-! Outputs (R360 to R363, R365). -/

def aoCode (cfg : Mem) (o : Nat) (w : Int) : Nat := (clampI 0 65535 (aoOffset cfg o + mulAsr (aoGain cfg o) w 16)).toNat

/-- The value a code commands, as s1.23 of full scale. -/
def aoNorm (code : Nat) : Int := ((code : Int) - 32768) * 256

def outFault (kind o key : Nat) (start : Bool) : List Fx :=
  let d := [byteOf kind, byteOf (o + 1), byteOf (b2n start)]
  if start then [.flag Reg.aioStatus 1, .count Reg.aioCntOutflt 1, .start 89 key d] else [.ended 89 key d]

/-- A readback of an analogue output with its driver enabled (R363). -/
def aoReadback (cfg : Mem) (o : Nat) (raw : Int) (x : AoSt) : AoSt × List Fx :=
  let r := calApply (calOf cfg 2 o) raw
  let dev := (r - aoNorm x.code).natAbs
  if aoTol cfg o * 8388608 < dev * 10000 then
    let y := { x with bad := satN 8 (x.bad + 1), good := 0 }
    if 3 ≤ y.bad ∧ !y.flt then ({ y with flt := true }, outFault 0 o o true) else (y, [])
  else
    let y := { x with good := satN 8 (x.good + 1), bad := 0 }
    if 3 ≤ y.good ∧ y.flt then ({ y with flt := false }, outFault 0 o o false) else (y, [])

/-- A readback of a digital output with its driver enabled, and whether it tripped (R365). -/
def doReadback (t o : Nat) (level trip : Bool) (x : DoSt) : DoSt × List Fx :=
  if trip then
    ({ x with tripped := true, tripAt := t, flt := true, bad := 0, good := 0 }, if x.flt then [] else outFault 1 o (64 + o) true)
  else if x.tripped then (x, [])
  else if level ≠ x.on then
    let y := { x with bad := satN 8 (x.bad + 1), good := 0 }
    if 3 ≤ y.bad ∧ !y.flt then ({ y with flt := true }, outFault 1 o (64 + o) true) else (y, [])
  else
    let y := { x with good := satN 8 (x.good + 1), bad := 0 }
    if 3 ≤ y.good ∧ y.flt then ({ y with flt := false }, outFault 1 o (64 + o) false) else (y, [])

/-- The readbacks of a millisecond, taken before the tick's latch: raw values of the analogue outputs, levels and trips of the digital ones.
The result gives the calibration points that end. -/
def aioReadbacks (cfg : Mem) (t : Nat) (ao : List Int) (levels trips : Nat) (a : Aio) : Aio × List (Nat × Int) × List Fx :=
  if !a.drven then (a, [], []) else
  let as_ := (a.ao.zipIdx).map (fun x => if aoRange cfg x.2 = 0 then (x.1, []) else aoReadback cfg x.2 (ao.getD x.2 0) x.1)
  let ds := (a.dout.zipIdx).map (fun x => doReadback t x.2 (bits levels x.2 1 == 1) (bits trips x.2 1 == 1) x.1)
  let a1 := { a with ao := as_.map (·.1), dout := ds.map (·.1) }
  let (a2, done) := (List.range 16).foldl (fun acc o =>
    if (acc.1.runs.any (fun r => r.kind == 2 && r.chan == o)) && (acc.1.ao.getD o {}).code == calOutCode (acc.1.runs.any (fun r => r.kind == 2 && r.chan == o && r.point2)) then
      let (b, d) := calFeed 2 o (ao.getD o 0) 1 acc.1; (b, acc.2 ++ d)
    else acc) (a1, [])
  (a2, done, as_.flatMap (·.2) ++ ds.flatMap (·.2))

/-- The latch of a millisecond tick (R361, R365): words of the analogue outputs, codes
that stand in place of R360's (R463), commanded digital outputs, the outputs inhibited, the
token. -/
def aioLatch (cfg : Mem) (words : Nat → Int) (direct : Nat → Option Nat) (dos aInh dInh : Nat) (token : Bool) (a : Aio) : Aio :=
  let cal := fun (o : Nat) => a.runs.find? (fun r => r.kind == 2 && r.chan == o)
  { a with
    drven := token
    ao := (a.ao.zipIdx).map (fun x =>
      let inh := bits aInh x.2 1 == 1
      let code := match cal x.2 with
        | some r => calOutCode r.point2
        | none => (direct x.2).getD (aoCode cfg x.2 (words x.2))
      { x.1 with code := if inh then aoInhibit cfg x.2 else code, inhib := inh })
    dout := (a.dout.zipIdx).map (fun x => { x.1 with on := bits dos x.2 1 == 1 && bits dInh x.2 1 == 0 && !x.1.tripped }) }

/-- The 1 s retry of a tripped output. -/
def doRetry (t o : Nat) (a : Aio) : Aio :=
  { a with dout := modNth a.dout o (fun x => if x.tripped && decide (1000000000 ≤ t - x.tripAt) then { x with tripped := false } else x) }

/-- A 100 µs sample of the digital inputs (R364). -/
def diSample (cfg : Mem) (t levels : Nat) (a : Aio) : Aio :=
  { a with
    din := (a.din.zipIdx).map (fun x =>
      let lv := bits levels x.2 1 == 1
      let since := if lv = x.1.raw then x.1.since else t
      { raw := lv, since := since, filt := if lv ≠ x.1.filt ∧ diFilter cfg x.2 * 100000 ≤ t - since then lv else x.1.filt }) }

/-! Views. -/

def diFiltered (a : Aio) : Nat := bitmap 32 (fun i => (a.din.getD i {}).filt)
def diRaw (a : Aio) : Nat := bitmap 32 (fun i => (a.din.getD i {}).raw)
def doCmd (a : Aio) : Nat := bitmap 24 (fun i => (a.dout.getD i {}).on)
def doFlt (a : Aio) : Nat := bitmap 24 (fun i => (a.dout.getD i {}).flt)
def aoView (x : AoSt) : Nat := x.code + b2n x.flt * 65536 + b2n x.inhib * 131072
def aioStatusView (cfg : Mem) (a : Aio) : Nat := bitmap 5 (fun g => a.running && aioRun cfg g) * 256 + b2n a.drven * 8192

end Sys2Proof.Machine
end

