-- ==== Sys2Proof/Machine/EvNames.lean ====
section
/-! DEFINITION. The first 16 characters of the event names (R303). -/

namespace Sys2Proof.Machine

/-- Event names, part 1. -/
def evNames0 : List (Nat × List Char) :=
  [(0, ['C', 'L', 'K', '_', 'R', 'E', 'F', 'E', 'R', 'E', 'N', 'C', 'E']),
   (1, ['C', 'L', 'K', '_', 'L', 'O', 'C', 'K']),
   (2, ['C', 'L', 'K', '_', 'O', 'P', 'P', 'O', 'I', 'N', 'T']),
   (3, ['C', 'L', 'K', '_', 'O', 'S', 'C', '_', 'W', 'A', 'R', 'M']),
   (4, ['P', 'W', 'R', '_', 'S', 'T', 'A', 'T', 'E']),
   (5, ['S', 'U', 'P', '_', 'F', 'E', 'E', 'D']),
   (6, ['S', 'U', 'P', '_', 'R', 'I', 'D', 'E', '_', 'T', 'H', 'R', 'O', 'U', 'G', 'H']),
   (7, ['R', 'E', 'G', '_', 'C', 'R', 'O', 'S', 'S', '_', 'T', 'I', 'M', 'E', 'O', 'U']),
   (8, ['H', 'O', 'S', 'T', '_', 'P', 'A', 'T', 'H', '_', 'L', 'O', 'S', 'T']),
   (9, ['A', 'U', 'T', 'H', '_', 'F', 'A', 'I', 'L', 'U', 'R', 'E']),
   (10, ['C', 'F', 'G', '_', 'T', 'X', 'N', '_', 'E', 'X', 'P', 'I', 'R', 'E', 'D']),
   (11, ['E', 'V', 'T', '_', 'D', 'E', 'S', 'T', '_', 'L', 'O', 'S', 'T']),
   (12, ['S', 'E', 'A', 'L', '_', 'F', 'A', 'U', 'L', 'T']),
   (13, ['T', 'I', 'C', 'K', '_', 'R', 'E', 'A', 'L', 'I', 'G', 'N']),
   (14, ['C', 'O', 'L', 'L', 'E', 'C', 'T', 'O', 'R', '_', 'O', 'V', 'E', 'R', 'R', 'U']),
   (15, ['E', 'N', 'V', '_', 'L', 'I', 'M', 'I', 'T']),
   (16, ['T', 'I', 'M', '_', 'B', 'A', 'S', 'E', '_', 'S', 'T', 'A', 'T', 'E']),
   (17, ['T', 'I', 'M', '_', 'J', 'U', 'M', 'P', '_', 'R', 'E', 'F', 'U', 'S', 'E', 'D']),
   (18, ['T', 'I', 'M', '_', 'S', 'T', 'E', 'P']),
   (19, ['T', 'I', 'M', '_', 'E', 'C', 'L', 'I', 'P', 'S', 'E']),
   (20, ['T', 'I', 'M', '_', 'P', 'P', 'S', '_', 'I', 'N']),
   (21, ['T', 'I', 'M', '_', 'P', 'T', 'P', '_', 'P', 'O', 'R', 'T']),
   (22, ['T', 'I', 'M', '_', 'S', 'O', 'U', 'R', 'C', 'E', '_', 'S', 'W', 'I', 'T', 'C']),
   (23, ['T', 'I', 'M', '_', 'H', 'O', 'L', 'D', 'O', 'V', 'E', 'R', '_', 'L', 'I', 'M']),
   (24, ['G', 'N', 'S', '_', 'A', 'N', 'T', 'E', 'N', 'N', 'A']),
   (25, ['G', 'N', 'S', '_', 'F', 'I', 'X']),
   (26, ['G', 'N', 'S', '_', 'B', 'A', 'S', 'E', 'L', 'I', 'N', 'E']),
   (27, ['G', 'N', 'S', '_', 'S', 'T', 'A', 'R', 'T'])]

/-- Event names, part 2. -/
def evNames1 : List (Nat × List Char) :=
  [(28, ['G', 'N', 'S', '_', 'C', 'O', 'R', 'R', 'E', 'C', 'T', 'I', 'O', 'N', 'S']),
   (29, ['G', 'N', 'S', '_', 'R', 'A', 'I', 'M']),
   (30, ['G', 'N', 'S', '_', 'T', 'I', 'M', 'E']),
   (31, ['G', 'N', 'S', '_', 'S', 'I', 'G', 'N', 'A', 'L']),
   (32, ['F', 'U', 'S', '_', 'T', 'I', 'M', 'E', '_', 'S', 'U', 'S', 'P', 'E', 'C', 'T']),
   (33, ['F', 'U', 'S', '_', 'L', 'A', 'T', 'E', '_', 'D', 'I', 'S', 'C', 'A', 'R', 'D']),
   (34, ['F', 'U', 'S', '_', 'L', 'A', 'T', 'E', '_', 'D', 'E', 'F', 'E', 'R', 'R', 'E']),
   (35, ['F', 'U', 'S', '_', 'P', 'H', 'A', 'S', 'E', '_', 'O', 'V', 'E', 'R', 'R', 'U']),
   (36, ['F', 'U', 'S', '_', 'B', 'U', 'F', 'F', 'E', 'R', '_', 'F', 'U', 'L', 'L']),
   (37, ['F', 'U', 'S', '_', 'R', 'A', 'T', 'E', '_', 'E', 'X', 'C', 'E', 'S', 'S']),
   (38, ['F', 'U', 'S', '_', 'P', 'I', 'V', 'O', 'T', '_', 'C', 'L', 'A', 'M', 'P']),
   (39, ['F', 'U', 'S', '_', 'S', 'T', 'A', 'T', 'E', '_', 'S', 'A', 'T']),
   (40, ['F', 'U', 'S', '_', 'S', 'T', 'R', 'E', 'A', 'M', '_', 'S', 'T', 'A', 'T', 'E']),
   (41, ['F', 'U', 'S', '_', 'T', 'W', 'O', '_', 'D', 'I', 'S', 'A', 'G', 'R', 'E', 'E']),
   (42, ['F', 'U', 'S', '_', 'D', 'R', 'I', 'F', 'T']),
   (43, ['F', 'U', 'S', '_', 'C', 'L', 'A', 'S', 'S', '_', 'L', 'O', 'S', 'T']),
   (44, ['F', 'U', 'S', '_', 'C', 'A', 'L', '_', 'R', 'E', 'A', 'D', 'Y']),
   (45, ['F', 'U', 'S', '_', 'C', 'A', 'L', '_', 'B', 'O', 'U', 'N', 'D']),
   (48, ['C', 'T', 'L', '_', 'M', 'O', 'D', 'E', '_', 'C', 'H', 'A', 'N', 'G', 'E']),
   (49, ['C', 'T', 'L', '_', 'H', 'A', 'N', 'D', 'O', 'V', 'E', 'R', '_', 'F', 'O', 'R']),
   (50, ['C', 'T', 'L', '_', 'D', 'E', 'A', 'D', 'L', 'I', 'N', 'E', '_', 'M', 'I', 'S']),
   (51, ['C', 'T', 'L', '_', 'O', 'S', 'C', 'I', 'L', 'L', 'A', 'T', 'I', 'O', 'N']),
   (52, ['C', 'T', 'L', '_', 'J', 'O', 'Y', '_', 'T', 'I', 'M', 'E', 'O', 'U', 'T']),
   (53, ['C', 'T', 'L', '_', 'T', 'R', 'A', 'V', 'E', 'R', 'S', 'E', '_', 'D', 'O', 'N']),
   (54, ['C', 'T', 'L', '_', 'C', 'O', 'M', 'M', 'A', 'N', 'D']),
   (55, ['C', 'T', 'L', '_', 'W', 'I', 'N', 'D', '_', 'L', 'O', 'S', 'T']),
   (56, ['A', 'L', 'C', '_', 'A', 'N', 'Y', 'T', 'I', 'M', 'E']),
   (57, ['A', 'L', 'C', '_', 'N', 'U', 'M', 'E', 'R', 'I', 'C'])]

/-- Event names, part 3. -/
def evNames2 : List (Nat × List Char) :=
  [(58, ['A', 'L', 'C', '_', 'S', 'T', 'R', 'U', 'C', 'T', 'U', 'R', 'E']),
   (59, ['A', 'L', 'C', '_', 'T', 'H', 'R', 'U', 'S', 'T', 'E', 'R']),
   (60, ['A', 'L', 'C', '_', 'C', 'O', 'N', 'S', 'E', 'Q', 'U', 'E', 'N', 'C', 'E']),
   (61, ['A', 'L', 'C', '_', 'B', 'U', 'S', '_', 'L', 'O', 'S', 'T']),
   (62, ['A', 'L', 'C', '_', 'P', 'O', 'W', 'E', 'R', '_', 'S', 'O', 'U', 'R', 'C', 'E']),
   (63, ['A', 'L', 'C', '_', 'C', 'O', 'N', 'S', 'E', 'Q', '_', 'G', 'U', 'A', 'R', 'D']),
   (64, ['S', 'R', 'V', '_', 'V', 'A', 'L', 'I', 'D', 'A', 'T', 'I', 'O', 'N']),
   (65, ['S', 'R', 'V', '_', 'T', 'A', 'B', 'L', 'E', '_', 'L', 'O', 'A', 'D', 'E', 'D']),
   (66, ['S', 'R', 'V', '_', 'P', 'H', 'A', 'S', 'E', '_', 'O', 'V', 'E', 'R', 'R', 'U']),
   (67, ['S', 'R', 'V', '_', 'F', 'B', '_', 'H', 'O', 'L', 'D']),
   (72, ['F', 'L', 'D', '_', 'S', 'T', 'A', 'T', 'I', 'O', 'N', '_', 'S', 'T', 'A', 'T']),
   (73, ['F', 'L', 'D', '_', 'R', 'I', 'N', 'G']),
   (74, ['F', 'L', 'D', '_', 'V', 'I', 'O', 'L', 'A', 'T', 'I', 'O', 'N']),
   (75, ['F', 'L', 'D', '_', 'M', 'I', 'S', 'M', 'A', 'T', 'C', 'H']),
   (76, ['F', 'L', 'D', '_', 'P', 'O', 'R', 'T', '_', 'L', 'I', 'N', 'K']),
   (77, ['F', 'L', 'D', '_', 'F', 'O', 'R', 'E', 'I', 'G', 'N']),
   (78, ['F', 'L', 'D', '_', 'T', 'I', 'M', 'I', 'N', 'G']),
   (80, ['L', 'N', 'K', '_', 'S', 'E', 'R', '_', 'E', 'R', 'R', 'O', 'R']),
   (81, ['L', 'N', 'K', '_', 'S', 'E', 'R', '_', 'S', 'I', 'L', 'E', 'N', 'T']),
   (82, ['L', 'N', 'K', '_', 'C', 'A', 'N', '_', 'S', 'T', 'A', 'T', 'E']),
   (83, ['L', 'N', 'K', '_', 'C', 'A', 'N', '_', 'O', 'V', 'E', 'R', 'F', 'L', 'O', 'W']),
   (84, ['L', 'N', 'K', '_', 'N', '2', 'K', '_', 'A', 'D', 'D', 'R', 'E', 'S', 'S']),
   (85, ['L', 'N', 'K', '_', '4', '5', '0']),
   (86, ['L', 'N', 'K', '_', 'A', 'L', 'E', 'R', 'T', '_', 'C', 'M', 'D']),
   (87, ['C', 'R', 'C', '_', 'F', 'A', 'U', 'L', 'T']),
   (88, ['A', 'I', 'O', '_', 'I', 'N', 'P', 'U', 'T', '_', 'F', 'A', 'U', 'L', 'T']),
   (89, ['A', 'I', 'O', '_', 'O', 'U', 'T', 'P', 'U', 'T', '_', 'F', 'A', 'U', 'L', 'T']),
   (90, ['A', 'I', 'O', '_', 'G', 'R', 'O', 'U', 'P'])]

/-- Event names, part 4. -/
def evNames3 : List (Nat × List Char) :=
  [(91, ['A', 'I', 'O', '_', 'C', 'A', 'L', '_', 'D', 'O', 'N', 'E']),
   (92, ['L', 'G', 'C', '_', 'S', 'T', 'A', 'T', 'E']),
   (93, ['L', 'G', 'C', '_', 'O', 'V', 'E', 'R', 'R', 'U', 'N']),
   (94, ['L', 'G', 'C', '_', 'A', 'R', 'I', 'T', 'H']),
   (95, ['L', 'G', 'C', '_', 'L', 'O', 'A', 'D']),
   (96, ['L', 'G', 'C', '_', 'R', 'E', 'T', 'A', 'I', 'N']),
   (97, ['L', 'G', 'C', '_', 'G', 'U', 'A', 'R', 'D']),
   (100, ['S', 'A', 'F', '_', 'F', 'U', 'N', 'C', 'T', 'I', 'O', 'N']),
   (101, ['S', 'A', 'F', '_', 'I', 'N', 'P', 'U', 'T', '_', 'F', 'A', 'U', 'L', 'T']),
   (102, ['S', 'A', 'F', '_', 'O', 'U', 'T', 'P', 'U', 'T', '_', 'F', 'A', 'U', 'L', 'T']),
   (103, ['S', 'A', 'F', '_', 'I', 'N', 'T', 'E', 'R', 'N', 'A', 'L']),
   (104, ['S', 'A', 'F', '_', 'L', 'I', 'N', 'K']),
   (105, ['S', 'A', 'F', '_', 'L', 'O', 'G', 'I', 'N']),
   (106, ['S', 'A', 'F', '_', 'C', 'O', 'N', 'F', 'I', 'G']),
   (107, ['S', 'A', 'F', '_', 'R', 'E', 'S', 'E', 'T']),
   (108, ['R', 'E', 'D', '_', 'R', 'O', 'L', 'E']),
   (109, ['R', 'E', 'D', '_', 'T', 'A', 'K', 'E', 'O', 'V', 'E', 'R']),
   (110, ['R', 'E', 'D', '_', 'C', 'O', 'M', 'P', 'A', 'R', 'E']),
   (111, ['R', 'E', 'D', '_', 'U', 'N', 'R', 'E', 'S', 'O', 'L', 'V', 'E', 'D']),
   (112, ['R', 'E', 'D', '_', 'T', 'A', 'K', 'E', 'O', 'V', 'E', 'R', '_', 'F', 'A', 'I']),
   (113, ['R', 'E', 'D', '_', 'L', 'I', 'N', 'K']),
   (114, ['R', 'E', 'D', '_', 'I', 'N', 'P', 'U', 'T']),
   (115, ['R', 'E', 'D', '_', 'T', 'E', 'S', 'T']),
   (116, ['R', 'E', 'C', '_', 'O', 'V', 'E', 'R', 'F', 'L', 'O', 'W']),
   (117, ['R', 'E', 'C', '_', 'C', 'L', 'E', 'A', 'R', 'E', 'D']),
   (118, ['R', 'E', 'C', '_', 'T', 'A', 'I', 'L', '_', 'W', 'R', 'A', 'P']),
   (119, ['R', 'E', 'C', '_', 'N', 'V', 'M', '_', 'F', 'A', 'U', 'L', 'T']),
   (120, ['C', 'M', 'P', '_', 'F', 'R', 'A', 'M', 'E'])]

/-- Event names, part 5. -/
def evNames4 : List (Nat × List Char) :=
  [(121, ['C', 'M', 'P', '_', 'P', 'K', '_', 'A', 'L', 'A', 'R', 'M']),
   (122, ['C', 'M', 'P', '_', 'O', 'U', 'T', 'P', 'U', 'T', '_', 'L', 'A', 'T', 'E']),
   (123, ['C', 'M', 'P', '_', 'P', 'E', 'R', 'S', 'O', 'N', 'A', 'L', 'I', 'T', 'Y']),
   (124, ['S', 'V', 'C', '_', 'L', 'E', 'V', 'E', 'L']),
   (125, ['F', 'W', '_', 'U', 'P', 'D', 'A', 'T', 'E']),
   (126, ['F', 'W', '_', 'R', 'O', 'L', 'L', 'B', 'A', 'C', 'K']),
   (127, ['F', 'W', '_', 'M', 'I', 'S', 'M', 'A', 'T', 'C', 'H'])]

/-- ASCII characters as bytes. -/
def ascii (cs : List Char) : List Byte := cs.map (fun c => byteOf c.toNat)

/-- The first 16 characters of an event's name. -/
def evName (n : Nat) : List Byte :=
  match (evNames0 ++ evNames1 ++ evNames2 ++ evNames3 ++ evNames4).find? (fun p => p.1 == n) with
  | some p => ascii p.2
  | none => []

end Sys2Proof.Machine
end

