-- ==== Sys2Proof/Machine/Sentence.lean ====
section
/-! DEFINITION. Serial ports, IEC 61162 sentences, alert sentences and IEC 61162-450 (chapter 12). -/

namespace Sys2Proof.Machine

/-! Configuration (Tables 12.1, 12.4, 12.9). Port `p` counts from 1. -/

/-- MODE of a port, a free one of Table 12.1 where the record names none (R321, log 126). -/
def serMode (cfg : Mem) (p : Nat) : Nat := cfgWithin 0x0400 (16 * (p - 1)) 0 3 (cfgU8 cfg 0x0400 (16 * (p - 1)))
def serAlertOut (cfg : Mem) (p : Nat) : Bool := bits (cfgU8 cfg 0x0400 (16 * (p - 1) + 6)) 0 1 == 1
def serSilentMs (cfg : Mem) (p : Nat) : Nat := 100 * cfgU16 cfg 0x0400 (16 * (p - 1) + 8)
def serUere (cfg : Mem) (p : Nat) : Nat := if p = 0 then cfgU32 cfg 0x0400 12 else cfgU32 cfg 0x0400 (16 * (p - 1) + 12)
def s450In (cfg : Mem) : Nat := beNat (cfgBytes cfg 0x0402 0 4)
def s450InPort (cfg : Mem) : Nat := cfgU16 cfg 0x0402 4
def s450Ports (cfg : Mem) : Nat := cfgU8 cfg 0x0402 6
def s450Out (cfg : Mem) : Nat := beNat (cfgBytes cfg 0x0402 8 4)
def s450OutPort (cfg : Mem) : Nat := cfgU16 cfg 0x0402 12

def utcOffset (cfg : Mem) : Int := cfgS16 cfg 0x0100 22

/-- The enabled streams of a LINK. -/
def linkStreams (cfg : Mem) (link : Nat) : List Nat :=
  (List.range 256).filter (fun n => cfgU8 cfg 0x0800 (64 * n + 1) == link && bits (cfgU8 cfg 0x0800 (64 * n + 9)) 0 1 == 1)

def selByte (cfg : Mem) (n k : Nat) : Nat := cfgU8 cfg 0x0800 (64 * n + 4 + k)
def streamSrc (cfg : Mem) (n : Nat) : Nat := bits (cfgU8 cfg 0x0800 (64 * n + 9)) 2 2

/-! Text. -/

def hexVal (b : Byte) : Option Nat :=
  let n := b.toNat
  if 48 ≤ n ∧ n ≤ 57 then some (n - 48) else if 65 ≤ n ∧ n ≤ 70 then some (n - 55) else if 97 ≤ n ∧ n ≤ 102 then some (n - 87) else none

def hexDigit (n : Nat) : Byte := byteOf (if n < 10 then 48 + n else 55 + n)
def hex2 (n : Nat) : List Byte := [hexDigit (n / 16 % 16), hexDigit (n % 16)]

/-- Decimal digits of a number, at most `k` of them. -/
def decGo : Nat → Nat → List Byte → List Byte
  | 0, _, acc => acc
  | k + 1, n, acc => let acc := byteOf (48 + n % 10) :: acc; if n < 10 then acc else decGo k (n / 10) acc

def decimal (n : Nat) : List Byte := decGo 20 n []

/-- Exactly `k` decimal digits. -/
def decFix (k n : Nat) : List Byte := (List.range k).map (fun i => byteOf (48 + n / 10 ^ (k - 1 - i) % 10))

def xorAll (bs : List Byte) : Nat := bs.foldl (fun a b => a ^^^ b.toNat) 0

/-- The pieces between separators. -/
def splitAt (sep : Nat) : List Byte → List Byte → List (List Byte)
  | [], acc => [acc.reverse]
  | b :: bs, acc => if b.toNat = sep then acc.reverse :: splitAt sep bs [] else splitAt sep bs (b :: acc)

/-- A decimal number with or without sign and fraction: mantissa and the number of fraction digits. -/
def parseGo : List Byte → Int → Nat → Nat → Bool → Option (Int × Nat)
  | [], v, d, n, _ => if n = 0 then none else some (v, d)
  | b :: bs, v, d, n, pt =>
    let c := b.toNat
    if 48 ≤ c ∧ c ≤ 57 then parseGo bs (v * 10 + ((c - 48 : Nat) : Int)) (if pt then d + 1 else d) (n + 1) pt
    else if c = 46 ∧ !pt then parseGo bs v d n true
    else none

def parseNum (bs : List Byte) : Option (Int × Nat) :=
  match bs with
  | b :: r => if b.toNat = 45 then (parseGo r 0 0 0 false).map (fun p => (-p.1, p.2)) else parseGo bs 0 0 0 false
  | [] => none

/-- A number rounded to nearest with `fr` fraction bits. -/
def numFix (p : Int × Nat) (fr : Nat) : Int := divNearAway (p.1 * ((2 ^ fr : Nat) : Int)) (10 ^ p.2)

/-- A time of day hhmmss.sss as ns, the fraction exact to 9 digits (R298). -/
def parseTod (bs : List Byte) : Option Nat :=
  match parseGo (bs.take 6) 0 0 0 false with
  | none => none
  | some (v, d) =>
    if bs.length < 6 ∨ d ≠ 0 then none else
    let n := v.toNat
    let whole := (n / 10000 * 3600 + n / 100 % 100 * 60 + n % 100) * 1000000000
    match bs.drop 6 with
    | [] => some whole
    | p :: r =>
      if p.toNat ≠ 46 then none else
      if r.isEmpty then some whole else
      (parseGo (r.take 9) 0 0 0 false).bind (fun q =>
        if q.2 ≠ 0 ∨ r.any (fun b => decide (b.toNat < 48 ∨ 57 < b.toNat)) then none
        else some (whole + q.1.toNat * 10 ^ (9 - (r.take 9).length)))

/-- Degrees and minutes as a fraction of degrees: `w` digits of degrees, two of minutes below 60, then any fraction (IEC 61162-1, log 127). -/
def parseDegMin (w : Nat) (bs : List Byte) : Option (Int × Nat) :=
  match parseGo bs 0 0 0 false with
  | none => none
  | some (v, d) =>
    let n := v.toNat
    let unit := 10 ^ d
    let deg := n / (100 * unit)
    let min_ := n % (100 * unit)
    if (bs.takeWhile (fun b => b.toNat != 46)).length = w + 2 ∧ min_ < 60 * unit then some (((deg * 60 * unit + min_ : Nat) : Int), 60 * unit) else none

/-- Days from 1970-01-01 of a calendar date. -/
def civilDays (y m d : Nat) : Nat :=
  let y' := if m ≤ 2 then y - 1 else y
  let m' := if m ≤ 2 then m + 9 else m - 3
  365 * y' + y' / 4 - y' / 100 + y' / 400 + (153 * m' + 2) / 5 + d - 1 - 719468

/-! A sentence's checks and use (R296 to R300). -/

/-- What a sentence without its line end is: its address field and the fields after it, and whether check 3 passes. -/
structure Sent where
  addr : List Byte
  fields : List (List Byte)
  sumOk : Bool
  deriving DecidableEq, Repr

def takeUntil (c : Nat) : List Byte → List Byte × List Byte
  | [] => ([], [])
  | b :: bs => if b.toNat = c then ([], b :: bs) else let (x, y) := takeUntil c bs; (b :: x, y)

/-- Parsing of the characters between '$' and carriage return. -/
def parseSent (body : List Byte) : Sent :=
  let (txt, tail) := takeUntil 42 body
  let ok : Bool := match tail with
    | [_, a, b] => (match hexVal a, hexVal b with
      | some x, some y => xorAll txt == 16 * x + y
      | _, _ => false)
    | _ => false
  let fs := splitAt 44 txt []
  ⟨fs.headD [], fs.drop 1, ok⟩

def Sent.field (s : Sent) (k : Nat) : List Byte := s.fields.getD (k - 1) []

/-- The formatter of a five-character address field; an address that begins with P is proprietary and has none (R296). -/
def Sent.formatter (s : Sent) : List Byte := if s.addr.length = 5 ∧ s.addr.head? ≠ some 80#8 then s.addr.drop 2 else []

def isF (s : Sent) (cs : List Char) : Bool := s.formatter == ascii cs

def fieldIs (s : Sent) (k : Nat) (c : Char) : Bool := s.field k == ascii [c]

/-- What a check of Table 12.2 finds: passed with samples' bodies by formatter code, or the order of the failing check. -/
inductive SentUse where
  | fail (check : Nat)
  | gga (tod : Nat) (vals : List Byte)
  | hdg (code : Nat) (v0 : Nat)
  | wnd (v0 v1 : Nat)
  | rot (rate : Int)
  | gst (tod f6 f7 : Nat)
  | date (days : Nat)
  | acn
  | none_
  deriving DecidableEq, Repr

/-- √(a² + b²) of lengths in 10^-9 m, as u16.16 m rounded to nearest. -/
def hyp16 (a b : Nat) : Nat := satN 32 ((isqrt (4 * (a * a + b * b) * 2 ^ 32 / 10 ^ 18) + 1) / 2)

/-- V3 of a GGA (R299). -/
def ggaSigma (p : SerPort) (t tod uere : Nat) (hdop : Option (Int × Nat)) : Nat :=
  match p.gst.find? (fun g => g.tod == tod) with
  | some g => hyp16 g.f6 g.f7
  | none => match p.gst.head? with
    | some g => if t ≤ g.at_ + 2000000000 then hyp16 g.f6 g.f7 else hdopSigma
    | none => hdopSigma
where
  hdopSigma : Nat := match hdop with
    | some h => satN 32 (divNearAway (h.1 * (uere : Int)) (10 ^ h.2)).toNat
    | none => 0xFFFFFFFF

/-- Checks 3 to 5 of a sentence and what it says. -/
def sentUse (p : SerPort) (t uere : Nat) (alertOut : Bool) (s : Sent) : SentUse :=
  let num := fun (k : Nat) => parseNum (s.field k)
  if !s.sumOk then .fail 3
  else if isF s ['G', 'G', 'A'] then
    let lat := parseDegMin 2 (s.field 2)
    let lon := parseDegMin 3 (s.field 4)
    let ns := fieldIs s 3 'N' || fieldIs s 3 'S'
    let ew := fieldIs s 5 'E' || fieldIs s 5 'W'
    let hd := if (s.field 8).isEmpty then some none else (num 8).map some
    let age := if (s.field 13).isEmpty then some (0, 0) else num 13
    match parseTod (s.field 1), lat, lon, num 6, num 7, num 9, num 11, hd, age with
    | some tod, some la, some lo, some q, some n, some h, some g, some hd, some ag =>
      if !ns || !ew || q.1 == 0 || q.2 != 0 || n.2 != 0 then .fail 5 else
      let la' := if fieldIs s 3 'S' then -la.1 else la.1
      let lo' := if fieldIs s 5 'W' then -lo.1 else lo.1
      let hgt := divNearAway ((h.1 * ((10 ^ g.2 : Nat) : Int) + g.1 * ((10 ^ h.2 : Nat) : Int)) * 65536) (10 ^ (h.2 + g.2))
      .gga tod (s32 (degToBam la' la.2) ++ s32 (degToBam lo' lo.2) ++ s32 (satS 32 hgt) ++ u32 (ggaSigma p t tod uere hd) ++
        u8 q.1.toNat ++ u8 (min n.1.toNat 255) ++ zeros 2 ++ u32 (satU 32 (numFix ag 16)).toNat)
    | _, _, _, _, _, _, _, _, _ => .fail 5
  else if isF s ['H', 'D', 'T'] then
    (match fieldIs s 2 'T', num 1 with
     | true, some h => .hdg 2 (bamOf (degToBam h.1 (10 ^ h.2)))
     | _, _ => .fail 5)
  else if isF s ['T', 'H', 'S'] then
    (match fieldIs s 2 'A', num 1 with
     | true, some h => .hdg 3 (bamOf (degToBam h.1 (10 ^ h.2)))
     | _, _ => .fail 5)
  else if isF s ['M', 'W', 'V'] then
    let unit : Option (Nat × Nat) :=
      if fieldIs s 4 'K' then some (10, 36) else if fieldIs s 4 'M' then some (1, 1) else if fieldIs s 4 'N' then some (514444, 1000000) else none
    (match fieldIs s 2 'R' && fieldIs s 5 'A', unit, num 1, num 3 with
     | true, some (a, b), some w, some v =>
       .wnd (bamOf (degToBam w.1 (10 ^ w.2))) (satU 32 (divNearAway (v.1 * ((a * 65536 : Nat) : Int)) (10 ^ v.2 * b))).toNat
     | _, _, _, _ => .fail 5)
  else if isF s ['R', 'O', 'T'] then
    (match fieldIs s 2 'A', num 1 with
     | true, some r => .rot (satS 32 (divNearAway (r.1 * ((2 ^ 32 : Nat) : Int)) (10 ^ r.2 * 21600)))
     | _, _ => .fail 5)
  else if isF s ['G', 'S', 'T'] then
    (match num 6, num 7, parseTod (s.field 1) with
     | some a, some b, some tod =>
       .gst tod (divNearAway (a.1 * 1000000000) (10 ^ a.2)).toNat (divNearAway (b.1 * 1000000000) (10 ^ b.2)).toNat
     | _, _, _ => .fail 5)
  else if isF s ['R', 'M', 'C'] then
    (match fieldIs s 2 'A', num 9 with
     | true, some d =>
       if (s.field 9).length ≠ 6 ∨ d.2 ≠ 0 then .fail 5 else
       let n := d.1.toNat
       .date (civilDays (2000 + n % 100) (n / 100 % 100) (n / 10000))
     | _, _ => .fail 5)
  else if isF s ['Z', 'D', 'A'] then
    (match num 2, num 3, num 4 with
     | some d, some m, some y => if d.2 + m.2 + y.2 ≠ 0 then .fail 5 else .date (civilDays y.1.toNat m.1.toNat d.1.toNat)
     | _, _, _ => .fail 5)
  else if isF s ['V', 'T', 'G'] then (if fieldIs s 9 'A' || fieldIs s 9 'D' then .none_ else .fail 5)
  else if isF s ['A', 'C', 'N'] && alertOut then .acn
  else .fail 4

/-- t_own of a GGA (R298): the instant of its time of day nearest to VESSEL less UTC_OFFSET, or on the known date while VESSEL is UNSET. -/
def ggaOwn (cfg : Mem) (vessel : Option Int) (date : Option Nat) (tod : Nat) : Option Nat :=
  let day : Int := 86400000000000
  let off := utcOffset cfg * 1000000000
  match vessel, date with
  | some v, _ => some (divNearAway (v - off - tod) day.toNat * day + tod + off).toNat
  | none, some d => some ((d : Int) * day + tod + off).toNat
  | none, none => none

/-- Whether a stream's selector takes a sentence of a formatter code from a talker (Table 12.9). -/
def selTakes (cfg : Mem) (n code : Nat) (talker : List Byte) : Bool :=
  selByte cfg n 0 == code && ((selByte cfg n 2 == 0 && selByte cfg n 3 == 0) || talker == [byteOf (selByte cfg n 2), byteOf (selByte cfg n 3)])

/-- The samples of body values `vals` for the streams of a link that take the sentence; `own` is t_own for TIMESRC 1. -/
def sentSamples (cfg : Mem) (link code t : Nat) (talker : List Byte) (own : Nat) (vals : Nat → List Byte) : List RawSample :=
  ((linkStreams cfg link).filter (fun n => selTakes cfg n code talker)).map (fun n =>
    { stream := n, stamp := t, body := u64 (if streamSrc cfg n = 1 then own else 0) ++ vals n, chain := none, seqFix := none })

/-- The outcome of a sentence on a port record: the record, its samples, and the order of the failing check, 0 where every check passed; an ACN's
fields. -/
structure SentOut where
  port : SerPort
  samples : List RawSample
  check : Nat
  acn : Option Sent
  deriving DecidableEq, Repr

/-- A sentence, '$' to the last character before carriage return, at its arrival stamp (R296 to R300). -/
def sentence (cfg : Mem) (link t uere : Nat) (alertOut : Bool) (vessel : Option Int) (body : List Byte) (p : SerPort) : SentOut :=
  let s := parseSent body
  let talker := s.addr.take 2
  let pass := fun (p : SerPort) (xs : List RawSample) => (⟨{ p with lastPass := t }, xs, 0, none⟩ : SentOut)
  match sentUse p t uere alertOut s with
  | .fail k => ⟨p, [], k, none⟩
  | .acn => { pass p [] with acn := some s }
  | .none_ => pass p []
  | .date d => pass { p with date := some d } []
  | .gst tod a b => pass { p with gst := ⟨tod, t, a, b⟩ :: p.gst.filter (fun g => g.tod != tod) } []
  | .rot r => pass { p with rot := some (t, r) } []
  | .wnd a v => pass p (sentSamples cfg link 4 t talker 0 (fun _ => u32 a ++ u32 v ++ zeros 16))
  | .hdg code h =>
    let rate : Int := match p.rot with
      | some (at_, r) => if t ≤ at_ + 1000000000 then r else 0
      | none => 0
    pass p (sentSamples cfg link code t talker 0 (fun n => u32 h ++ s32 (if bits (selByte cfg n 1) 0 1 = 1 then rate else 0) ++ zeros 16))
  | .gga tod vals =>
    let own := ggaOwn cfg vessel p.date tod
    let needs := (linkStreams cfg link).any (fun n => selTakes cfg n 1 talker && streamSrc cfg n == 1)
    if needs && own.isNone then ⟨p, [], 6, none⟩ else pass p (sentSamples cfg link 1 t talker (own.getD 0) (fun _ => vals))

/-! Serial reception (R295, R296, R301). -/

def serCnt (p k : Nat) : Nat := 0x100 + 0x20 * (p - 1) + 4 * k + (Reg.serStatus)
def cnt450 (k : Nat) : Nat := 0x200 + 4 * k + Reg.serStatus

/-- The counter of Table 12.12 for a failing check on a port. -/
def checkCnt (check : Nat) : Nat := check

/-- Effects of a failing check on a port: event 80 only where none failed since the last ACK_EVENT. -/
def serFailFx (p check : Nat) (raised : Bool) : List Fx :=
  [.count (serCnt p (checkCnt check)) 1, .flag Reg.serStatus (p - 1)] ++ if raised then [] else [.event 80 (u8 p ++ u8 check)]

/-- A byte on a MODE 1 port: a sentence is assembled from '$' to the next line feed; at the 83rd character it is dropped, by check 1 where a framing error
fell within it and by check 2 otherwise. -/
def serByte (port : Nat) (b : Byte) (framing : Bool) (p : SerPort) : SerPort × List Fx :=
  if !p.inSentence || p.dropping || p.buf.getLast? == some 10#8 then
    (if b.toNat = 36 then { p with buf := [b], inSentence := true, framing := framing, dropping := false } else p, [])
  else if 82 ≤ p.buf.length then
    ({ p with buf := [], inSentence := false, dropping := true, errRaised := true }, serFailFx port (if p.framing || framing then 1 else 2) p.errRaised)
  else ({ p with buf := p.buf ++ [b], framing := p.framing || framing }, [])

/-- The end of a sentence on a MODE 1 port: nothing without an assembled line feed. -/
def serEnd (cfg : Mem) (port t : Nat) (vessel : Option Int) (p : SerPort) : SerPort × List RawSample × Option Sent × List Fx :=
  if p.buf.getLast? ≠ some 10#8 then (p, [], none, []) else
  let p0 := { p with buf := [], inSentence := false, framing := false }
  let n := p.buf.length
  if p.framing || p.buf.getD (n - 2) 0 != 13#8 then ({ p0 with errRaised := true }, [], none, serFailFx port 1 p.errRaised) else
  let o := sentence cfg port t (serUere cfg port) (serAlertOut cfg port) vessel ((p.buf.drop 1).take (n - 3)) p0
  if o.check ≠ 0 then ({ o.port with errRaised := true }, [], none, serFailFx port o.check p.errRaised)
  else ({ o.port with silent := false }, o.samples, o.acn,
    .count (serCnt port 0) 1 :: if p.silent then [.ended 81 port (u8 port ++ u8 0)] else [])

/-- Silence of the MODE 1 ports that feed an enabled stream (R301). -/
def serSilence (cfg : Mem) (t : Nat) (ps : List SerPort) : List SerPort × List Fx :=
  let r := ps.zipIdx.map (fun q =>
    let port := q.2 + 1
    let due := serMode cfg port == 1 && !(linkStreams cfg port).isEmpty && !q.1.silent && decide (q.1.lastPass + serSilentMs cfg port * 1000000 ≤ t)
    if due then ({ q.1 with silent := true }, [Fx.start 81 port (u8 port ++ u8 1)]) else (q.1, []))
  (r.map Prod.fst, r.flatMap Prod.snd)

/-! Sending (R302). -/

def txFree (p : SerPort) : Nat := 2048 - (p.txq.foldl (fun a u => a + u.length) 0)

/-- A unit joins a queue where there is room. -/
def txPush (u : List Byte) (p : SerPort) : SerPort := if u.length ≤ txFree p then { p with txq := p.txq ++ [u] } else p

/-- The first unit has been sent. -/
def txDone (port : Nat) (p : SerPort) : SerPort × List Byte × List Fx :=
  match p.txq with
  | u :: r => ({ p with txq := r }, u, [.count (serCnt port 7) u.length])
  | [] => (p, [], [])

/-! Alerts (R303). -/

def alertByte (cfg : Mem) (n : Nat) : Nat := cfgU8 cfg 0x0401 n
def alertPrio (cfg : Mem) (n : Nat) : Nat := bits (alertByte cfg n) 0 2

def comma (fs : List (List Byte)) : List Byte := match fs with
  | [] => []
  | f :: r => r.foldl (fun a x => a ++ [44#8] ++ x) f

/-- A sentence from its address and fields. -/
def mkSentence (addr : List Char) (fs : List (List Byte)) : List Byte :=
  let b := comma (ascii addr :: fs)
  [36#8] ++ b ++ [42#8] ++ hex2 (xorAll b) ++ [13#8, 10#8]

/-- hhmmss.ss of a VESSEL time as UTC. -/
def utcText (cfg : Mem) (vessel : Int) : List Byte :=
  let tod := ((vessel - utcOffset cfg * 1000000000) % 86400000000000).toNat
  let s := tod / 1000000000
  decFix 2 (s / 3600) ++ decFix 2 (s / 60 % 60) ++ decFix 2 (s % 60) ++ [46#8] ++ decFix 2 (tod / 10000000 % 100)

def alertLetter (s : AlertState) : Char := match s with
  | .v => 'V'
  | .a => 'A'
  | .n => 'N'

/-- The ALF of an alert, with the time of its change. -/
def alfText (cfg : Mem) (a : Alert) : List Byte :=
  let cat := bits (alertByte cfg a.ev) 2 2
  let pri := alertPrio cfg a.ev
  mkSentence ['D', 'P', 'A', 'L', 'F']
    [decimal 1, decimal 1, [], utcText cfg a.changed, ascii [if cat = 0 then 'A' else if cat = 1 then 'B' else 'C'],
     ascii [if pri = 1 then 'C' else if pri = 2 then 'W' else 'A'], ascii [alertLetter a.state], ascii ['W', 'S', 'V'], decimal (10000 + a.ev), decimal 1,
     decimal a.rev, decimal 0, evName a.ev]

/-- The revision counter of an event's next change. -/
def nextRev (revs : List (Nat × Nat)) (ev : Nat) : Nat := match revs.find? (fun p => p.1 == ev) with
  | some p => if p.2 = 99 then 1 else p.2 + 1
  | none => 1

/-- The alert state an event should have: none where it has no priority or its bit is 0. -/
def alertWanted (cfg : Mem) (active : Nat) (acked : List Nat) (n : Nat) : Option AlertState :=
  if alertPrio cfg n = 0 ∨ bits active n 1 = 0 then none else if acked.contains n then some .a else some .v

/-- The alerts brought up to EVT_ACTIVE and the acknowledgements; the ALFs of the changes. -/
def alertScan (cfg : Mem) (t : Nat) (vessel : Int) (active : Nat) (q : Ser) : Ser × List (List Byte) :=
  let acked := q.acked.filter (fun n => bits active n 1 == 1)
  (List.range 128).foldl (fun (r : Ser × List (List Byte)) n =>
    let want := alertWanted cfg active acked n
    let have_ := r.1.alerts.find? (fun a => a.ev == n)
    let rev := nextRev r.1.revs n
    let put := fun (a : Alert) (keep : Bool) =>
      let rest := r.1.alerts.filter (fun b => b.ev != n)
      (({ r.1 with alerts := if keep then insBefore a rest else rest, revs := (n, rev) :: r.1.revs.filter (fun p => p.1 != n) } : Ser),
       r.2 ++ [alfText cfg a])
    match want, have_ with
    | some w, none => put ⟨n, w, rev, t, vessel⟩ true
    | some w, some a => if a.state = w then r else put ⟨n, w, rev, t, vessel⟩ true
    | none, some _ => put ⟨n, .n, rev, t, vessel⟩ false
    | none, none => r) ({ q with acked := acked }, [])
where
  /-- The list kept in ascending event number. -/
  insBefore (a : Alert) : List Alert → List Alert
    | [] => [a]
    | b :: r => if a.ev < b.ev then a :: b :: r else b :: insBefore a r

/-- The ALFs whose minute has passed. -/
def alertRepeat (cfg : Mem) (t : Nat) (q : Ser) : Ser × List (List Byte) :=
  let due := fun (a : Alert) => decide (a.lastAlf + 60000000000 ≤ t)
  ({ q with alerts := q.alerts.map (fun a => if due a then { a with lastAlf := t } else a) }, (q.alerts.filter due).map (alfText cfg))

/-- Groups of at most four. -/
def fours {α : Type} : Nat → List α → List (List α)
  | 0, _ => []
  | k + 1, xs => if xs.isEmpty then [] else xs.take 4 :: fours k (xs.drop 4)

/-- The ALC sentences of the list. -/
def alcText (q : Ser) : List (List Byte) :=
  let gs := if q.alerts.isEmpty then [[]] else fours 128 q.alerts
  gs.zipIdx.map (fun g => mkSentence ['D', 'P', 'A', 'L', 'C']
    ([decimal gs.length, decimal (g.2 + 1), [], decimal g.1.length] ++
      g.1.flatMap (fun a => [ascii ['W', 'S', 'V'], decimal (10000 + a.ev), decimal 1, decimal a.rev])))

/-- The ALC of every 30 s. -/
def alertList (t : Nat) (q : Ser) : Ser × List (List Byte) :=
  if q.lastAlc + 30000000000 ≤ t then ({ q with lastAlc := t }, alcText q) else (q, [])

/-- The ARC that answers an ACN, and event 86. -/
def arcText (s : Sent) : List Byte := mkSentence ['D', 'P', 'A', 'R', 'C'] [s.field 1, s.field 2, s.field 3, s.field 4, s.field 5]

def acnFx (link : Nat) (s : Sent) : List Fx :=
  let n : Nat := match parseNum (s.field 3) with
    | some (v, 0) => if 10000 ≤ v ∧ v < 10128 then (v - 10000).toNat else 0
    | _ => 0
  [.event 86 (u8 link ++ u8 n ++ ((s.field 5).headD 0) :: [])]

/-- Whether a port sends alerts (R303): ALERT_OUT is set, and the port is neither off nor a PK-20 host port. -/
def serAlerts (cfg : Mem) (p : Nat) : Bool := serAlertOut cfg p && (serMode cfg p == 1 || serMode cfg p == 2)

/-- An alert sentence on every ALERT_OUT port. -/
def alertSend (cfg : Mem) (txt : List (List Byte)) (ps : List SerPort) : List SerPort :=
  ps.zipIdx.map (fun q => if serAlerts cfg (q.2 + 1) then txt.foldl (fun p u => txPush u p) q.1 else q.1)

/-- The header of IEC 61162-450. -/
def hdr450 : List Byte := ascii ['U', 'd', 'P', 'b', 'C'] ++ [0#8]

/-- An alert sentence as a datagram (R305). -/
def alertDatagram (cfg : Mem) (txt : List Byte) : List Byte :=
  let tag := ascii ['s', ':'] ++ cfgBytes cfg 0x0402 16 6
  hdr450 ++ [92#8] ++ tag ++ [42#8] ++ hex2 (xorAll tag) ++ [92#8] ++ txt

/-! IEC 61162-450 reception (R304). -/

/-- Effects of a failure on IEC 61162-450. -/
def fail450Fx (cnt : Option Nat) (ev : List Fx) : List Fx :=
  (match cnt with
   | some k => [.count (cnt450 k) 1]
   | none => []) ++ [.flag Reg.serStatus 16] ++ ev

/-- The counter of Table 12.12 for a failing check on 0x50. -/
def check450 (check : Nat) : Option Nat := match check with
  | 3 => some 4
  | 4 => some 5
  | 5 => some 6
  | _ => none

/-- The sentences of a datagram after its TAG block: pieces that end with a line feed. -/
def lines450 : List Byte → List Byte → List (List Byte)
  | [], acc => if acc.isEmpty then [] else [acc.reverse]
  | b :: bs, acc => if b.toNat = 10 then (b :: acc).reverse :: lines450 bs [] else lines450 bs (b :: acc)

/-- One sentence of a datagram. -/
def one450 (cfg : Mem) (t : Nat) (vessel : Option Int) (line : List Byte) (q : SerPort × List RawSample × List Fx) : SerPort × List RawSample × List Fx :=
  let (p, xs, fx) := q
  let n := line.length
  let okEnd := line.head? == some 36#8 && line.getD (n - 1) 0 == 10#8 && line.getD (n - 2) 0 == 13#8
  let bad := fun (p : SerPort) (c : Nat) =>
    ({ p with errRaised := true }, xs, fx ++ fail450Fx (check450 c) (if p.errRaised then [] else [Fx.event 80 (u8 0x50 ++ u8 c)]))
  if !okEnd then bad p 1 else if 82 < n then bad p 2 else
  let o := sentence cfg 0x50 t (serUere cfg 0) false vessel ((line.drop 1).take (n - 3)) p
  if o.check ≠ 0 then bad o.port o.check else (o.port, xs ++ o.samples, fx ++ [.count (cnt450 3) 1])

/-- A datagram to IN_GROUP and IN_PORT. -/
def datagram450 (cfg : Mem) (t src : Nat) (vessel : Option Int) (d : List Byte) (p : SerPort) : SerPort × List RawSample × List Fx :=
  let ev := fun (k : Nat) => [Fx.event 85 (u8 k ++ zeros 3 ++ u32 src)]
  let cnt := [Fx.count (cnt450 0) 1]
  if d.take 6 ≠ hdr450 then (p, [], cnt ++ fail450Fx (some 1) (ev 0)) else
  let r := d.drop 6
  let (okTag, rest) : Bool × List Byte :=
    if r.head? = some 92#8 then
      let (txt, tail) := takeUntil 92 (r.drop 1)
      let (body, sum) := takeUntil 42 txt
      let ok : Bool := match sum, tail with
        | [_, a, b], _ :: _ => (match hexVal a, hexVal b with
          | some x, some y => xorAll body == 16 * x + y
          | _, _ => false)
        | _, _ => false
      (ok, tail.drop 1)
    else (true, r)
  if !okTag then (p, [], cnt ++ fail450Fx (some 2) (ev 1)) else
  let (p1, xs, fx) := (lines450 rest []).foldl (fun q l => one450 cfg t vessel l q) (p, [], [])
  (p1, xs, cnt ++ fx)

/-! Views. -/

def serStatusView (ps : List SerPort) : Nat := 256 * bitmap 8 (fun i => (ps.getD i {}).silent)
def serPortStat (cfg : Mem) (ps : List SerPort) (p : Nat) : Nat := serMode cfg p % 4 + 65536 * txFree (ps.getD (p - 1) {})

end Sys2Proof.Machine
end

