-- ==== Sys2Proof/Machine/CanBus.lean ====
section
/-! DEFINITION. The CAN FD controllers and NMEA 2000 (R306 to R315). -/

namespace Sys2Proof.Machine

/-! Configuration (Tables 12.5 to 12.7); controller `c` is 0 or 1. -/

def canRec (cfg : Mem) (c off : Nat) : Nat := cfgU8 cfg 0x0300 (32 * c + off)
/-- MODE, a free one of Table 12.5 where the record names none (R321, log 126). -/
def canMode (cfg : Mem) (c : Nat) : Nat := cfgWithin 0x0300 (32 * c) 0 2 (canRec cfg c 0)
def canFlag (cfg : Mem) (c b : Nat) : Bool := bits (canRec cfg c 1) b 1 == 1
def canN2k (cfg : Mem) (c : Nat) : Bool := canFlag cfg c 1
def canAuto (cfg : Mem) (c : Nat) : Bool := canFlag cfg c 2
def canName (cfg : Mem) (c : Nat) : Nat := setBit (leNat (cfgBytes cfg 0x0300 (32 * c + 16) 8)) 63 true
def objId (cfg : Mem) (c m : Nat) : Nat := cfgU32 cfg 0x0301 (1024 * c + 8 * m)
def objFlags (cfg : Mem) (c m : Nat) : Nat := cfgU8 cfg 0x0301 (1024 * c + 8 * m + 4)
def objOn (cfg : Mem) (c m : Nat) : Bool := bits (objFlags cfg c m) 0 1 == 1
def objSend (cfg : Mem) (c m : Nat) : Bool := bits (objId cfg c m) 30 1 == 1
def filtMatch (cfg : Mem) (c f : Nat) : Nat := cfgU32 cfg 0x0302 (384 * c + 12 * f)
def filtMask (cfg : Mem) (c f : Nat) : Nat := cfgU32 cfg 0x0302 (384 * c + 12 * f + 4)
/-- ACTION, a free one of Table 12.7 where the record names none (R321, log 126). -/
def filtAction (cfg : Mem) (c f : Nat) : Nat := cfgWithin 0x0302 (384 * c + 12 * f + 8) 0 3 (cfgU8 cfg 0x0302 (384 * c + 12 * f + 8))

/-- Address of a register of controller `c`. -/
def canReg (c off : Nat) : Nat := (if c = 0 then Reg.can0Ctrl else Reg.can1Ctrl) + off
def canCnt (c k : Nat) : Nat := canReg c (0x10 + 4 * k)
def moStat (c m : Nat) : Nat := canReg c (0x1000 + 0x60 * m)

/-! Error states (R309). -/

def canCode (s : CanState) : Nat := match s with
  | .off => 0
  | .active => 1
  | .passive => 2
  | .busOff => 3

/-- A change of state; entry to bus-off cancels every pending request, and recovery begins at once with AUTO_RECOVER. -/
def canMove (cfg : Mem) (c : Nat) (new : CanState) (k : Can) : Can × List Fx :=
  if k.state = new then (k, []) else
  let pend := (k.objs.filter (fun o => o.pend)).length + k.sendQ.length
  let k1 := if new = .busOff then
      { k with state := new, objs := k.objs.map (fun o => { o with pend := false }), sendQ := [], recovering := canAuto cfg c, claimed := false }
    else { k with state := new }
  (k1, [.event 82 (u8 c ++ u8 (canCode k.state) ++ u8 (canCode new) ++ u8 (min k.txErr 255))] ++
    if new = .busOff then [.flag (canReg c 4) 10, .count (canCnt c 9) 1] ++ (if pend = 0 then [] else [.count (canCnt c 8) pend]) else [])

/-- The state the counts ask for. -/
def canByCounts (k : Can) : CanState :=
  if 255 < k.txErr then .busOff else if 127 < k.txErr ∨ 127 < k.rxErr then .passive else .active

/-- The controller takes part in traffic. -/
def canOnBus (k : Can) : Bool := (k.state == .active || k.state == .passive) && !k.integ

/-- An error on the bus. -/
def canError (cfg : Mem) (c : Nat) (e : CanErr) (k : Can) : Can × List Fx :=
  if !canOnBus k then (k, []) else
  let k1 := match e with
    | .tx => { k with txErr := k.txErr + 8 }
    | .rx => { k with rxErr := min (k.rxErr + 1) 255 }
    | .rxDominant => { k with rxErr := min (k.rxErr + 8) 255 }
  let (k2, fx) := canMove cfg c (canByCounts k1) k1
  (k2, .count (canCnt c 6) 1 :: fx)

/-- Writing RESTART starts bus-off recovery where it does not run by itself. -/
def canRestart (k : Can) : Can := if k.state = .busOff then { k with recovering := true } else k

/-! NMEA 2000 frames (R312, R313). -/

/-- A single frame of a PGN: priority 6. -/
def n2kFrame (pf ps sa : Nat) (data : List Byte) : CanFrame :=
  { id := 6 * 2 ^ 26 + pf * 2 ^ 16 + ps * 2 ^ 8 + sa, ide := true, fdf := false, brs := false, remote := false, data := data }

/-- The address claim; from 254 it is the cannot-claim message. -/
def claimFrame (cfg : Mem) (c sa : Nat) : CanFrame := n2kFrame 0xEE 255 sa (u64 (canName cfg c))

/-- The next address upward that has not been seen claimed, wrapping from 251 to 0; none where every address has been tried. -/
def nextAddr (seen : List Nat) (addr : Nat) : Option Nat :=
  ((List.range 251).map (fun i => (addr + 1 + i) % 252)).find? (fun a => !seen.contains a)

/-- An address is taken and its claim queued; the cannot-claim message is the last thing sent (R313). -/
def takeAddr (cfg : Mem) (c a : Nat) (k : Can) : Can × List Fx :=
  ({ k with addr := a, claimed := false, cannotClaim := decide (a = 254), sendQ := (if a = 254 then [] else k.sendQ) ++ [claimFrame cfg c a] },
   if a = k.addr then [] else [.event 84 (u8 c ++ u8 k.addr ++ u8 a)])

/-- Another node's address claim. -/
def heardClaim (cfg : Mem) (c sa name : Nat) (k : Can) : Can × List Fx :=
  let k1 := { k with seenAddr := if k.seenAddr.contains sa then k.seenAddr else sa :: k.seenAddr }
  if k.cannotClaim ∨ sa ≠ k.addr then (k1, [])
  else if name < canName cfg c then takeAddr cfg c ((nextAddr k1.seenAddr k.addr).getD 254) k1
  else ({ k1 with seenAddr := k.seenAddr, sendQ := k.sendQ ++ [claimFrame cfg c k.addr] }, [])

/-- An ISO Request. -/
def heardRequest (cfg : Mem) (c sa dest pgn : Nat) (k : Can) : Can :=
  if dest ≠ 255 ∧ dest ≠ k.addr then k
  else if pgn = 60928 then
    if k.cannotClaim then k else { k with sendQ := k.sendQ ++ [claimFrame cfg c k.addr] }
  else if dest = k.addr ∧ !k.cannotClaim then
    { k with sendQ := k.sendQ ++ [n2kFrame 0xE8 255 k.addr (u8 1 ++ [255#8, 255#8, 255#8] ++ u8 sa ++ u8 pgn ++ u8 (pgn / 256) ++ u8 (pgn / 65536))] }
  else k

/-- rad in units of 10^-4 as bam32 (R119). -/
def rad4ToBam (v : Int) : Nat := bamOf (radToBam (divNearAway (v * 268435456) 10000))

/-- rad/s in units of 3.125 × 10^-8 as bam32 per second. -/
def rateToBam (v : Int) : Int := satS 32 (radToBam (divNearAway (v * 268435456 * 3125) (10 ^ 11)))

/-- Samples of an NMEA 2000 code from a source. -/
def n2kSamples (cfg : Mem) (c code sa t : Nat) (vals : List Byte) : List RawSample :=
  ((linkStreams cfg (0x10 + c)).filter (fun n =>
    selByte cfg n 0 == 1 && (selByte cfg n 1 == 255 || selByte cfg n 1 == sa) && selByte cfg n 2 + 256 * selByte cfg n 3 == code)).map (fun n =>
      { stream := n, stamp := t, body := zeros 8 ++ vals, chain := none, seqFix := none })

/-- The decoder of R312: state, samples, effects. -/
def n2kDecode (cfg : Mem) (c t : Nat) (f : CanFrame) (k : Can) : Can × List RawSample × List Fx :=
  let sa := f.id % 256
  let ps := f.id / 256 % 256
  let pf := f.id / 65536 % 256
  let dp := f.id / 2 ^ 24 % 2
  let pgn := dp * 65536 + pf * 256 + if 240 ≤ pf then ps else 0
  let d := f.data
  let bad := (k, ([] : List RawSample), [Fx.count (canCnt c 11) 1])
  let short := decide (d.length < 8)
  let normal := canMode cfg c == 1
  if pgn = 127250 then
    if short then bad else
    let h := getU16 d 1
    if h = 0xFFFF ∨ bits (getU8 d 7) 0 2 ≠ 0 then bad else
    let rate : Int := match k.rates.find? (fun r => r.1 == sa) with
      | some (_, at_, r) => if t ≤ at_ + 1000000000 then r else 0
      | none => 0
    (k, n2kSamples cfg c 1 sa t (u32 (rad4ToBam h) ++ s32 rate ++ zeros 16), [])
  else if pgn = 127251 then
    if short then bad else
    if getU32 d 1 = 0x7FFFFFFF then bad else
    ({ k with rates := (sa, t, rateToBam (getS32 d 1)) :: k.rates.filter (fun r => r.1 != sa) }, [], [])
  else if pgn = 127257 then
    if short then bad else
    if getU16 d 3 = 0x7FFF ∨ getU16 d 5 = 0x7FFF then bad else
    (k, n2kSamples cfg c 2 sa t (u32 (rad4ToBam (getS16 d 5)) ++ u32 (rad4ToBam (getS16 d 3)) ++ zeros 16), [])
  else if pgn = 129025 then
    if short then bad else
    if getU32 d 0 = 0x7FFFFFFF ∨ getU32 d 4 = 0x7FFFFFFF then bad else
    (k, n2kSamples cfg c 3 sa t (s32 (degToBam (getS32 d 0) (10 ^ 7)) ++ s32 (degToBam (getS32 d 4) (10 ^ 7)) ++ zeros 16), [])
  else if pgn = 130306 then
    if short then bad else
    if getU16 d 1 = 0xFFFF ∨ getU16 d 3 = 0xFFFF ∨ bits (getU8 d 5) 0 3 ≠ 2 then bad else
    (k, n2kSamples cfg c 4 sa t (u32 (rad4ToBam (getU16 d 3)) ++ u32 (divNearAway ((getU16 d 1 * 65536 : Nat) : Int) 100).toNat ++ zeros 16), [])
  else if pgn = 60928 ∧ normal then
    if short then bad else
    let (k1, fx) := heardClaim cfg c sa (getU64 d 0) k
    (k1, [], fx)
  else if pgn = 59904 ∧ normal then
    if d.length < 3 then bad else (heardRequest cfg c sa ps (leNat (d.take 3)) k, [], [])
  else (k, [], [])

/-! Receive path (R310, R314). -/

/-- What the filters decide: 1 FIFO 0, 2 FIFO 1, 3 reject or no match. -/
def filterPick (cfg : Mem) (c : Nat) (f : CanFrame) : Nat :=
  let w := f.id + (if f.ide then 2 ^ 29 else 0)
  match (List.range 32).find? (fun i => filtAction cfg c i != 0 && ((w ^^^ filtMatch cfg c i) &&& filtMask cfg c i) == 0) with
  | some i => filtAction cfg c i
  | none => 3

/-- The lowest-numbered enabled receive object of a frame's identifier. -/
def objPick (cfg : Mem) (c : Nat) (f : CanFrame) : Option Nat :=
  (List.range 128).find? (fun m =>
    objOn cfg c m && !objSend cfg c m && bits (objId cfg c m) 0 29 == f.id && (bits (objId cfg c m) 29 1 == 1) == f.ide)

/-- The samples of a body frame in an object (R314), and how many streams discarded it. -/
def bodySamples (cfg : Mem) (c m t : Nat) (f : CanFrame) : List RawSample × Nat :=
  let ns := (linkStreams cfg (0x10 + c)).filter (fun n => selByte cfg n 0 == 2 && selByte cfg n 1 == m)
  let ok := fun (n : Nat) => decide (f.data.length = 32) && !(streamSrc cfg n == 1 && getU64 f.data 0 == 0)
  ((ns.filter ok).map (fun n => { stream := n, stamp := t, body := f.data, chain := none, seqFix := none }), (ns.filter (fun n => !ok n)).length)

/-- A frame received without error; `isNew m` tells MO_STAT_m.NEW of the object it goes to. -/
def canRx (cfg : Mem) (c t : Nat) (f : CanFrame) (isNew : Nat → Bool) (k0 : Can) : Can × List RawSample × List Fx :=
  if !canOnBus k0 then (k0, [], []) else
  let rec_ := if 127 < k0.rxErr then 119 + Config.freeNat 38 [(c : Int), (t : Int)] % 9 else k0.rxErr - 1
  let (k, fxS) := let k1 := { k0 with rxErr := rec_ }; canMove cfg c (canByCounts k1) k1
  if f.remote then (k, [], fxS ++ [.count (canCnt c 2) 1]) else
  let (k, xs, fx1) := if canN2k cfg c && f.ide then n2kDecode cfg c t f k else (k, [], [])
  let fx1 := fxS ++ .count (canCnt c 0) 1 :: fx1
  match objPick cfg c f with
  | some m =>
    let (ys, nbad) := bodySamples cfg c m t f
    ({ k with objs := modNth k.objs m (fun o => { o with stored := some ⟨f, t⟩ }) }, xs ++ ys,
     fx1 ++ (if isNew m then [.flag (moStat c m) 1, .flag (canReg c 4) 9, .count (canCnt c 3) 1] else []) ++ [.flag (moStat c m) 0] ++
     (if nbad = 0 then [] else [.count (canCnt c 10) nbad]))
  | none =>
    let put := fun (n : Nat) (q : List CanStored) (set : List CanStored → Can) =>
      if 64 ≤ q.length then (k, xs, fx1 ++ [Fx.count (canCnt c (4 + n)) 1, .flag (canReg c 4) 8, .event 83 (u8 c ++ u8 n)])
      else (set (q ++ [⟨f, t⟩]), xs, fx1)
    match filterPick cfg c f with
    | 1 => put 0 k.fifo0 (fun q => { k with fifo0 := q })
    | 2 => put 1 k.fifo1 (fun q => { k with fifo1 := q })
    | _ => (k, xs, fx1 ++ [.count (canCnt c 2) 1])

/-- POP of a FIFO. -/
def canPop (f : Nat) (k : Can) : Can := if f = 0 then { k with fifo0 := k.fifo0.drop 1 } else { k with fifo1 := k.fifo1.drop 1 }

/-! Sending (R311). -/

/-- The arbitration rank of a frame: lower wins. -/
def arbRank (f : CanFrame) : Nat :=
  if f.ide then (f.id / 2 ^ 18) * 2 ^ 19 + 2 ^ 18 + f.id % 2 ^ 18 else f.id * 2 ^ 19

/-- The pending objects with their frames; object 127 of an N2K controller stands for the NMEA 2000 queue. A controller that cannot claim has only its
cannot-claim message. -/
def canPending (cfg : Mem) (c : Nat) (k : Can) : List (Nat × CanFrame) :=
  let objs := (k.objs.zipIdx.filterMap (fun q => if q.1.pend then q.1.stored.map (fun s => (q.2, s.frame)) else none))
  let objs := if canN2k cfg c then objs.filter (fun p => p.1 != 127) else objs
  (if k.cannotClaim then [] else objs) ++ match k.sendQ with
    | f :: _ => [(127, f)]
    | [] => []

/-- The object the controller offers. -/
def canOffer (cfg : Mem) (c : Nat) (k : Can) : Option (Nat × CanFrame) :=
  (canPending cfg c k).foldl (fun (b : Option (Nat × CanFrame)) p => match b with
    | none => some p
    | some q => if arbRank p.2 < arbRank q.2 then some p else b) none

/-- The end of an attempt to send the object offered: state, the frame sent, effects. -/
def canTxDone (cfg : Mem) (c m : Nat) (r : CanTx) (k0 : Can) : Can × Option CanFrame × List Fx :=
  if !canOnBus k0 ∨ canMode cfg c ≠ 1 then (k0, none, []) else
  match canOffer cfg c k0 with
  | none => (k0, none, [])
  | some (obj, f) =>
    if obj ≠ m then (k0, none, []) else
    let queue := canN2k cfg c && obj == 127
    let clear := fun (k : Can) => if queue then { k with sendQ := k.sendQ.drop 1 } else { k with objs := modNth k.objs obj (fun o => { o with pend := false }) }
    match r with
    | .sent =>
      let k1 := clear { k0 with txErr := k0.txErr - 1 }
      let k1 := if queue && f == claimFrame cfg c k1.addr && k1.addr != 254 then { k1 with claimed := true } else k1
      let (k2, fx) := canMove cfg c (canByCounts k1) k1
      (k2, some f, .count (canCnt c 1) 1 :: fx)
    | .lost => (if !queue && bits (objFlags cfg c obj) 1 1 == 1 then clear k0 else k0, none,
        if !queue && bits (objFlags cfg c obj) 1 1 == 1 then [.count (canCnt c 7) 1] else [])
    | .error =>
      let once := !queue && bits (objFlags cfg c obj) 1 1 == 1
      let k1 := if once then clear k0 else k0
      let (k2, fx) := canError cfg c .tx k1
      (k2, none, (if once then [.count (canCnt c 7) 1] else []) ++ fx)

/-! Joining the bus (R308, R309, R313). -/

/-- 11 consecutive recessive bits have been seen: integration, or the end of bus-off recovery. -/
def canIntegrate (cfg : Mem) (c : Nat) (k : Can) : Can × List Fx :=
  let join := fun (k : Can) =>
    if canN2k cfg c && canMode cfg c == 1 && !k.cannotClaim then takeAddr cfg c (if k.claimed ∨ k.state = .busOff then k.addr else canRec cfg c 13) k
    else (k, ([] : List Fx))
  if k.state = .busOff ∧ k.recovering then
    let k1 := { k with txErr := 0, rxErr := 0, recovering := false }
    let (k2, f1) := canMove cfg c .active k1
    let (k3, f2) := join { k2 with claimed := true }
    ({ k3 with claimed := false }, f1 ++ f2)
  else if k.integ then join { k with integ := false }
  else (k, [])

/-- A controller's record as a boundary changed it: it leaves the bus, cancels its requests and joins anew. -/
def canReconfig (new : Mem) (c : Nat) (k : Can) : Can × List Fx :=
  let pend := (k.objs.filter (fun o => o.pend)).length + k.sendQ.length
  let on := canMode new c ≠ 0
  let k1 := { k with objs := k.objs.map (fun o => { o with pend := false }), sendQ := [], integ := decide on, txErr := 0, rxErr := 0, recovering := false,
                     claimed := false, cannotClaim := false, seenAddr := [] }
  let (k2, fx) := canMove new c (if on then .active else .off) k1
  (k2, (if pend = 0 then [] else [.count (canCnt c 8) pend]) ++ fx)

/-- A controller at a start (R320). -/
def canStart (cfg : Mem) (c : Nat) : Can :=
  if canMode cfg c = 0 then {} else { state := .active, integ := true }

/-- Whether LNK_CAN_TX may load an object (R318): 0 yes, 1 WRONG_STATE, 2 BUSY. -/
def canLoadCheck (cfg : Mem) (c m len : Nat) (k : Can) : Nat :=
  if 1 < c ∨ canMode cfg c ≠ 1 ∨ 127 < m ∨ !objOn cfg c m ∨ !objSend cfg c m ∨ (m = 127 ∧ canN2k cfg c) ∨
     (8 < len ∧ bits (objFlags cfg c m) 2 1 = 0) then 1
  else if (k.objs.getD m {}).pend then 2 else 0

/-- LNK_CAN_TX: the object's frame is loaded and its request set. Without FD in force a controller sends classical frames only. -/
def canLoad (cfg : Mem) (c m t : Nat) (data : List Byte) (k : Can) : Can :=
  let fd := canFlag cfg c 0 && bits (objFlags cfg c m) 2 1 == 1
  let f : CanFrame := { id := bits (objId cfg c m) 0 29, ide := bits (objId cfg c m) 29 1 == 1, fdf := fd, brs := fd && bits (objFlags cfg c m) 3 1 == 1,
                        remote := false, data := data }
  { k with objs := modNth k.objs m (fun _ => { stored := some ⟨f, t⟩, pend := true }) }

/-! Views. -/

def canStatusView (k : Can) : Nat :=
  canCode k.state + 4 * b2n k.integ + 65536 * (if k.cannotClaim then 254 else k.addr) + 16777216 * b2n k.claimed

/-- The words of a stored frame: header, length, stamp, data from word 3 on. -/
def frameWord (s : Option CanStored) (w : Nat) : Nat := match s with
  | none => 0
  | some s => match w with
    | 0 => s.frame.id + 2 ^ 29 * b2n s.frame.ide + 2 ^ 30 * b2n s.frame.fdf + 2 ^ 31 * b2n s.frame.brs
    | 1 => s.frame.data.length
    | 2 => s.stamp % 2 ^ 32
    | i => leNat (slice s.frame.data (4 * (i - 3)) 4)

/-- The RO registers of a controller at an offset of its block. -/
def canView (k : Can) (off : Nat) : Option Nat :=
  if off = 4 then some (canStatusView k)
  else if off = 8 then some (k.txErr % 512 + 65536 * min k.rxErr 255)
  else if 0x100 ≤ off ∧ off < 0x200 then
    let q := if off < 0x180 then k.fifo0 else k.fifo1
    let r := (off - 0x100) % 0x80
    if r = 0 then some q.length else if r < 0x50 then some (frameWord q.head? (r / 4 - 1)) else none
  else if 0x1000 ≤ off ∧ off < 0x1000 + 0x60 * 128 then
    let o := k.objs.getD ((off - 0x1000) / 0x60) {}
    let r := (off - 0x1000) % 0x60
    if r = 0 then some (4 * b2n o.pend) else if r < 0x50 then some (frameWord o.stored (r / 4 - 1)) else none
  else none

end Sys2Proof.Machine
end

