-- ==== Sys2Proof/Machine/Chain.lean ====
section
/-! DEFINITION. The Chain field link: frames, datagram checks, station states, scans, forwarding (chapter 13). -/

namespace Sys2Proof.Machine

def fldTopology (cfg : Mem) : Nat := cfgWithin 0x0500 0 0 2 (cfgU8 cfg 0x0500 0)
def fldMissLimit (cfg : Mem) : Nat := cfgWithin 0x0500 1 1 100 (cfgU8 cfg 0x0500 1)
def fldScanPeriod (cfg : Mem) : Nat := cfgWithin 0x0500 2 10 10000 (cfgU16 cfg 0x0500 2)

/-- Offset of station `s`'s record in FLD_STATIONS. -/
def fldOfs (s : Nat) : Nat := 16 * (s - 1)
def fldEnable (cfg : Mem) (s : Nat) : Bool := cfgU8 cfg 0x0501 (fldOfs s) % 2 == 1
def fldIdCheck (cfg : Mem) (s : Nat) : Bool := bits (cfgU8 cfg 0x0501 (fldOfs s)) 1 1 == 1
def fldOutLen (cfg : Mem) (s : Nat) : Nat := cfgWithin 0x0501 (fldOfs s + 1) 0 64 (cfgU8 cfg 0x0501 (fldOfs s + 1))
def fldInLen (cfg : Mem) (s : Nat) : Nat := cfgWithin 0x0501 (fldOfs s + 2) 0 64 (cfgU8 cfg 0x0501 (fldOfs s + 2))
def fldVendor (cfg : Mem) (s : Nat) : Nat := cfgU16 cfg 0x0501 (fldOfs s + 4)
def fldProduct (cfg : Mem) (s : Nat) : Nat := cfgU16 cfg 0x0501 (fldOfs s + 6)
def fldSerial (cfg : Mem) (s : Nat) : Nat := cfgU32 cfg 0x0501 (fldOfs s + 8)

def allStations : List Nat := (List.range 64).map (· + 1)

/-- Station `s` of the controller. -/
def fldStn (f : ChainSt) (s : Nat) : Station := f.stations.getD (s - 1) {}

def fldMod (f : ChainSt) (s : Nat) (g : Station → Station) : ChainSt := { f with stations := modNth f.stations (s - 1) g }

/-- Stations withdrawn from allocation (R334). -/
def stnWithdrawn (x : Station) : Bool := x.state == 1 || x.state == 2 || x.state == 5 || x.state == 6

/-- MISSING for R200 and R238 (R334). -/
def stnMissing (x : Station) : Bool := x.state != 3

/-- A station's datagram length in the frame: header, both areas, padding to a multiple of 4 (Table 13.2). -/
def dgLen (o i : Nat) : Nat := 12 + (o + i + 3) / 4 * 4

/-! Sending (R324 to R327, R330). -/

/-- The layout of the cyclic frame. -/
def fldLayout (cfg : Mem) : List (Nat × Nat × Nat) :=
  (allStations.filter (fldEnable cfg)).map (fun s => (s, fldOutLen cfg s, fldInLen cfg s))

def chainHeader (kind origin flags cyc epoch count len : Nat) : List Byte :=
  [1, byteOf kind, byteOf origin, byteOf flags] ++ u32 cyc ++ u16 epoch ++ u16 count ++ u16 len ++ u16 0

/-- A datagram as the master sends it: `inhibit` forces an all-zero output area (R330). -/
def chainDatagram (s o i : Nat) (valid inhibit : Bool) (area : List Byte) : List Byte :=
  [byteOf s, byteOf (b2n valid + 2 * b2n inhibit), byteOf o, byteOf i, 0, 0, 0, 0, 0, 0, 0, 0] ++
  (if inhibit then zeros o else (area ++ zeros o).take o) ++ zeros (dgLen o i - 12 - o)

/-- The cyclic frame's payload. -/
def chainFrame (origin flags cyc epoch : Nat) (dgs : List (List Byte)) : List Byte :=
  let body := dgs.flatten
  chainHeader 0 origin flags cyc epoch dgs.length body.length ++ body

/-- A millisecond tick: CYCLE advances (R326), and in the Active role with Chain on, the frame goes out. `area` gives a station's output
area, `inhibit` whether a safety function inhibits it, `cmdValid` the token. The result lists (from port B, payload). -/
def chainTick (cfg : Mem) (t : Nat) (master cmdValid : Bool) (area : Nat → List Byte) (inhibit : Nat → Bool) (f : ChainSt) :
    ChainSt × List (Bool × List Byte) × List Fx :=
  let cyc := if f.running then (f.cyc + 1) % 2 ^ 32 else f.cyc
  let f1 := { f with cyc := cyc, tick := t, running := true }
  let top := fldTopology cfg
  if !master || top == 0 then (f1, [], []) else
  let lay := fldLayout cfg
  let dgs := lay.map (fun d => chainDatagram d.1 d.2.1 d.2.2 ((fldStn f1 d.1).state != 6) (inhibit d.1) (area d.1))
  let ring := top == 2
  let flags := b2n cmdValid + 2 * b2n ring
  let copies := (false, chainFrame 0 flags cyc f1.cmdEpoch dgs) :: (if ring then [(true, chainFrame 1 flags cyc f1.cmdEpoch dgs)] else [])
  let stns := (f1.stations.zipIdx).map (fun x =>
    match lay.find? (fun d => d.1 == x.2 + 1) with
    | some d => { x.1 with outs := if inhibit d.1 then zeros d.2.1 else (area d.1 ++ zeros d.2.1).take d.2.1 }
    | none => x.1)
  ({ f1 with stations := stns, sent := lay, outA := true, outB := ring, inFlight := true, gotA := [], gotB := [], dup := [], loopA := false, loopB := false },
   copies, [.count Reg.fldCntFrames copies.length])

/-! Returning copies (R325, R327 to R329, R338, R339). -/

/-- A violation: its counter, the station's counter, the flag, and the event the first time (R339). -/
def fldViolate (s code cntReg : Nat) (f : ChainSt) : ChainSt × List Fx :=
  let fx := [Fx.flag Reg.fldStatus 0, Fx.count cntReg 1] ++ (if s = 0 then [] else [Fx.count (Reg.fldStnViol + 16 * (s - 1)) 1])
  if f.seen.contains (s, code) then (f, fx)
  else ({ f with seen := (s, code) :: f.seen }, fx ++ [.event 74 ([byteOf s, byteOf code, 0, 0] ++ u32 f.cyc)])

/-- The last stations reached from each side. -/
def fldRingDetail (f : ChainSt) (isOpen : Bool) : List Byte := [byteOf (b2n isOpen), byteOf f.reachA, byteOf f.reachB]

/-- The ring judged (R338). -/
def fldRing (cfg : Mem) (f : ChainSt) : ChainSt × List Fx :=
  let isOpen := fldTopology cfg == 2 && (f.loopA || f.loopB || !f.linkA || !f.linkB)
  if isOpen = f.ringOpen then (f, [])
  else ({ f with ringOpen := isOpen }, [if isOpen then .start 73 0 (fldRingDetail f true) else .ended 73 0 (fldRingDetail f false)])

/-- The datagrams of a copy checked in order from byte offset `o` of its bytes. -/
def fldDatagrams (bytes : List Byte) (stamp : Nat) : List (Nat × Nat × Nat) → Nat → ChainSt → List Datagram → ChainSt × List Datagram × List Fx
  | [], _, f, acc => (f, acc.reverse, [])
  | (s, ol, il) :: rest, o, f, acc =>
    let d := bytes.drop o
    let claim := getU8 d 4
    let cyc := getU32 d 8
    let next := o + dgLen ol il
    let bad := fun (code cnt : Nat) (dup : Bool) =>
      let (f1, fx) := fldViolate s code cnt f
      let f2 := if dup then { f1 with dup := s :: f1.dup } else f1
      let (f3, ds, fx') := fldDatagrams bytes stamp rest next f2 acc
      (f3, ds, fx ++ fx')
    if getU8 d 0 ≠ s ∨ getU8 d 2 ≠ ol ∨ getU8 d 3 ≠ il then bad 2 Reg.fldCntLength false
    else if claim = 0 then fldDatagrams bytes stamp rest next f acc
    else if claim ≠ s then bad 4 Reg.fldCntDup true
    else if cyc ≠ f.cyc ∧ (cyc + 1) % 2 ^ 32 ≠ f.cyc then bad 3 Reg.fldCntSeq false
    else fldDatagrams bytes stamp rest next f
      (⟨s, getU8 d 5, cyc, slice d (12 + ol) il, stamp⟩ :: acc)

/-- A copy returns. -/
def chainReturn (cfg : Mem) (c : ChainCopy) (f0 : ChainSt) : ChainSt × List Fx :=
  let waiting := f0.inFlight && (if c.fromB then f0.outB else f0.outA)
  if !waiting then
    if c.fcsOk && getU32 c.bytes 4 != f0.cyc then fldViolate 0 3 Reg.fldCntSeq f0 else (f0, [])
  else
  let f1 := if c.fromB then { f0 with outB := false, loopB := c.onB } else { f0 with outA := false, loopA := !c.onB }
  let rtt10 := satN 16 (c.rtt / 10)
  let f1 := if c.fromB then f1 else { f1 with rttLast := rtt10 }
  let fxT := (if c.fromB then [] else [Fx.maxi Reg.fldRtt 16 16 rtt10]) ++ (if 450000 < c.rtt then [Fx.event 78 (u32 c.rtt)] else [])
  let len := (f1.sent.map (fun d => dgLen d.2.1 d.2.2)).sum
  let out := if !c.fcsOk then let (f2, fx) := fldViolate 0 1 Reg.fldCntFcs f1; (f2, none, fx)
    else if fldTopology cfg = 1 ∧ c.onB then let (f2, fx) := fldViolate 0 5 Reg.fldCntLength f1; (f2, none, fx)
    else if c.bytes.length ≠ 16 + getU16 c.bytes 12 ∨ getU16 c.bytes 10 ≠ f1.sent.length ∨ getU16 c.bytes 12 ≠ len then
      let (f2, fx) := fldViolate 0 2 Reg.fldCntLength f1; (f2, none, fx)
    else if getU32 c.bytes 4 ≠ f1.cyc then let (f2, fx) := fldViolate 0 3 Reg.fldCntSeq f1; (f2, none, fx)
    else let (f2, ds, fx) := fldDatagrams c.bytes c.sfd f1.sent 16 f1 []; (f2, some ds, fx)
  let (f2, ds, fxV) := out
  let byPos := fun (ds : List Datagram) => (ds.map (fun d => ((fldStn f2 d.addr).pos, d.addr)))
  let f3 := match ds with
    | none => f2
    | some ds =>
      if c.fromB then
        { f2 with gotB := ds, reachB := ((byPos ds).foldl (fun b p => if b.2 = 0 ∨ p.1 < b.1 then p else b) (0, 0)).2 }
      else { f2 with gotA := ds, reachA := ((byPos ds).foldl (fun b p => if b.2 = 0 ∨ b.1 ≤ p.1 then p else b) (0, 0)).2 }
  let (f4, fxR) := fldRing cfg f3
  (f4, fxT ++ fxV ++ fxR)

/-! Station states (R333). -/

/-- A change of state raises FLD_STATION_STATE. -/
def stnTo (s new : Nat) (x : Station) : Station × List Fx :=
  if new = x.state then (x, []) else
  ({ x with state := new }, [.event 72 [byteOf s, byteOf x.state, byteOf new, byteOf (satN 8 x.run)]])

/-- Into MISMATCH with a cause (R337, Table 13.6). -/
def stnMismatch (s cause : Nat) (x : Station) : Station × List Fx :=
  if x.state = 0 ∨ x.state = 6 then (x, []) else
  let (y, fx) := stnTo s 6 x
  ({ y with cause := cause }, fx ++ [.flag Reg.fldStatus 3, .event 75 [byteOf s, byteOf cause]])

/-- The evaluation of an enabled station after a Chain cycle: its clean datagram, if any, and whether a duplicate address showed. -/
def stnEval (limit s t : Nat) (dg : Option Datagram) (dup : Bool) (x : Station) : Station × List Fx :=
  let miss := [Fx.count (Reg.fldStnMiss + 16 * (s - 1)) 1]
  match dg with
  | none =>
    let y := { x with run := satN 8 (x.run + 1) }
    let (z, fx) := if dup then stnMismatch s 2 y else match x.state with
      | 2 => stnTo s x.came y
      | 3 => stnTo s 4 { y with run := 1 }
      | 4 => if limit ≤ y.run then stnTo s 5 y else (y, [])
      | _ => (y, [])
    (z, miss ++ fx)
  | some d =>
    let y := { x with run := 0, status := d.status, lastCyc := d.cyc, lastAt := t }
    if dup then stnMismatch s 2 y else
    match x.state with
    | 1 => stnTo s 2 { y with came := 1 }
    | 2 => stnTo s 3 y
    | 4 => if bits d.status 1 1 = 0 then stnTo s 3 y else stnTo s 2 { y with came := 4 }
    | 5 => stnTo s 2 { y with came := 5 }
    | _ => (y, [])

/-- DIV of R332 for a stream's RATE in 0.1 Hz. -/
def chainDiv (rate : Nat) : Nat := Nat.max 1 (if rate = 0 then 1 else 10000 / rate)

/-- The first full slot from an index on. -/
def colFull (slots : List (Option (List Byte))) (k : Nat) : Option Nat :=
  (slots.zipIdx.find? (fun x => decide (k ≤ x.2) && x.1.isSome)).map Prod.snd

/-- The slot that drains in the 20 ns interval under way: the next full one of the pass, else the first one of the next pass (R27). -/
def colNext (c : Collector) : Option Nat := match colFull c.slots c.pos with
  | some k => some k
  | none => colFull c.slots 0

/-- A slot drains: what it holds is read from then on, the pass goes on behind it in the next interval. -/
def colTake (k : Nat) (c : Collector) : Collector :=
  { c with slots := c.slots.set k none, out := c.out.set k ((c.slots.getD k none).getD (c.out.getD k [])), pos := k + 1, at_ := c.at_ + 20 }

def colSettleGo : Nat → Nat → Collector → Collector
  | 0, _, c => c
  | n + 1, t, c => if c.at_ + 20 ≤ t then (match colNext c with
    | some k => colSettleGo n t (colTake k c)
    | none => c) else c

/-- A collector at a MONO time: every 20 ns interval that has ended since has drained its slot (R27, R331). -/
def colSettle (t : Nat) (c : Collector) : Collector := colSettleGo c.slots.length t c

/-- A result enters a collector's slot at a MONO time: the collector, and whether the slot was full (R28). In the interval in which its slot drains, the drain takes the
old result first. -/
def colFill (t k : Nat) (b : List Byte) (c0 : Collector) : Collector × Bool :=
  let c := colSettle t c0
  if c.slots.all (·.isNone) then ({ c with slots := c.slots.set k (some b), at_ := Nat.max c.at_ t, pos := 0 }, false)
  else
    let cur := if c.at_ ≤ t then colNext c else none
    if cur = some k then
      let d := colTake k c
      ({ d with slots := d.slots.set k (some b) }, false)
    else
      ({ c with slots := c.slots.set k (some b), pos := if c.at_ < t then cur.getD c.pos else c.pos }, (c.slots.getD k none).isSome)

def colPassGo : Nat → Collector → Collector
  | 0, c => c
  | n + 1, c => match colFull c.slots c.pos with
    | some k => colPassGo n (colTake k c)
    | none => c

/-- A drain pass of a collector (R27): the one under way at a MONO time to its end, or a new one; indices in ascending order, one full slot every 20 ns. -/
def colDrain (t : Nat) (c0 : Collector) : Collector :=
  let c := colSettle t c0
  match colFull c.slots c.pos with
  | some _ => colPassGo c.slots.length c
  | none => colPassGo c.slots.length { c with pos := 0 }

/-- The evaluation of stations in ascending order: each clean datagram enters the Chain collector (R327), each station takes its state (R333). -/
def stationsEval (cfg : Mem) (t : Nat) (f : ChainSt) : List Nat → ChainSt × List (Nat × Datagram) × List Fx
  | [] => (f, [], [])
  | s :: rest =>
    let clean := match f.gotA.find? (fun d => d.addr == s) with
      | some d => some d
      | none => f.gotB.find? (fun d => d.addr == s)
    let (x, fx) := stnEval (fldMissLimit cfg) s (match clean with | some d => d.stamp | none => t) clean (f.dup.contains s) (fldStn f s)
    let f1 := fldMod f s (fun _ => x)
    let fill := match clean with
      | some d =>
        let (col, full) := colFill t (s - 1) d.input f1.col
        ({ f1 with col := col },
          if full then
            [if s ≤ 32 then Fx.flag Reg.fldColovr0 (s - 1) else Fx.flag Reg.fldColovr1 (s - 33)] else [])
      | none => (f1, [])
    let (f3, ds, fx') := stationsEval cfg t fill.1 rest
    (f3, (match clean with | some d => [(s, d)] | none => []) ++ ds, fx ++ fill.2 ++ fx')

/-- The Chain cycle completes: the state, the clean datagrams of stations OPERATIONAL after the evaluation, whether a collector slot overran,
effects. -/
def chainComplete (cfg : Mem) (t : Nat) (f0 : ChainSt) : ChainSt × List (Nat × Datagram) × List Fx :=
  if !f0.inFlight then (f0, [], []) else
  let lost := b2n f0.outA + b2n f0.outB
  let fxL := if lost = 0 then [] else [Fx.count Reg.fldCntLost lost, Fx.flag Reg.fldStatus 2]
  let f := { f0 with outA := false, outB := false, inFlight := false, lastCyc := f0.cyc }
  let (f1, ds, fx) := stationsEval cfg t f (f.sent.map (·.1))
  ({ f1 with gotA := [], gotB := [], dup := [] }, ds.filter (fun d => (fldStn f1 d.1).state == 3), fxL ++ fx)

/-- Whether an effect is a collector overrun of Chain. -/
def isColovr : Fx → Bool
  | .flag a _ => a == Reg.fldColovr0 || a == Reg.fldColovr1
  | _ => false

/-- Chain cycles of a gap, all missed (R346). -/
def chainGap (cfg : Mem) (t : Nat) (f : ChainSt) : Nat → ChainSt × List Fx
  | 0 => (f, [])
  | k + 1 =>
    let (f1, _, fx) := stationsEval cfg t { f with gotA := [], gotB := [], dup := [] } (allStations.filter (fldEnable cfg))
    let (f2, fx') := chainGap cfg t f1 k
    (f2, fx ++ fx')

/-! Scans (R336, R337, R343). -/

/-- Whether a scan is due with the cyclic frame of this Chain cycle. -/
def scanDue (cfg : Mem) (f : ChainSt) (t : Nat) : Bool := fldTopology cfg != 0 && (f.series.isSome || decide (f.nextScan ≤ t))

/-- A scan is sent, 600 µs after the tick: (from port B, payload). -/
def scanSend (cfg : Mem) (t : Nat) (master : Bool) (f : ChainSt) : ChainSt × List (Bool × List Byte) × List Fx :=
  if !master || !scanDue cfg f t then (f, [], []) else
  let ring := fldTopology cfg == 2
  let one := fun (o : Nat) => chainHeader 1 o (2 * b2n ring) f.cyc f.cmdEpoch 64 1536 ++ zeros 1536
  let next := if f.nextScan ≤ t then t + fldScanPeriod cfg * 1000000 else f.nextScan
  let copies := (false, one 0) :: (if ring then [(true, one 1)] else [])
  ({ f with scanOut := true, nextScan := next }, copies, [.count Reg.fldCntFrames copies.length])

/-- The slots to check for duplicates: each copy's, and both together where the frame was looped back on the way. -/
def scanDup (a b : List ScanEntry) (s : Nat) : Bool :=
  let n := fun (l : List ScanEntry) => (l.filter (fun e => e.addr == s)).length
  let looped := (a ++ b).any (fun e => bits e.ports 2 1 == 1)
  decide (1 < n a) || decide (1 < n b) || (looped && decide (1 < n (a ++ b)))

/-- The check of an enabled station against its slot (R337): a cause, or 0. -/
def scanCheck (cfg : Mem) (s : Nat) (dup : Bool) (e : ScanEntry) : Nat :=
  if dup then 2
  else if fldIdCheck cfg s ∧ (e.vendor ≠ fldVendor cfg s ∨ e.product ≠ fldProduct cfg s ∨ (fldSerial cfg s ≠ 0 ∧ e.serial ≠ fldSerial cfg s)) then 1
  else if e.outMax < fldOutLen cfg s ∨ e.inMax < fldInLen cfg s then 3
  else 0

def scanEval (cfg : Mem) (a b : List ScanEntry) (f : ChainSt) : List Nat → ChainSt × List Fx
  | [] => (f, [])
  | s :: rest =>
    let x := fldStn f s
    let pos := match a.findIdx? (fun e => e.addr == s) with
      | some i => i + 1
      | none => 0
    let ent := (a ++ b).find? (fun e => e.addr == s)
    let x1 := { x with pos := pos, ent := match ent with | some e => some e | none => x.ent }
    let (y, fx) := match ent with
      | none => (x1, [])
      | some e =>
        if !fldEnable cfg s then (x1, [])
        else match scanCheck cfg s (scanDup a b s) e with
        | 0 => if x.state = 6 then let (z, fx) := stnTo s 5 x1; ({ z with cause := 0 }, fx) else (x1, [])
        | c => if x.state = 6 then ({ x1 with cause := c }, []) else stnMismatch s c x1
    let (f2, fx') := scanEval cfg a b (fldMod f s (fun _ => y)) rest
    (f2, fx ++ fx')

/-- The final reply of FLD_SCAN (Table 13.9). -/
def scanReply (cfg : Mem) (ser : ScanSeries) (a b : List ScanEntry) : List Byte :=
  let la := a.map (·.addr)
  let lb := b.map (·.addr)
  let found := (la ++ lb).eraseDups
  let looped := (a ++ b).any (fun e => bits e.ports 2 1 == 1)
  let res := if ser.differed then 4 else if found.isEmpty then 0 else if fldTopology cfg = 1 then 1 else if looped then 3 else 2
  let pad := fun (l : List Nat) => (l.map byteOf ++ zeros 64).take 64
  [byteOf res, byteOf found.length, 0, 0] ++ pad la ++ pad lb

/-- A scan completes, or at 950 µs is lost: slots of the copy sent on A and of that sent on B, none for a copy that did not return. The result
gives the final reply of a series that ends (open request, payload). -/
def scanComplete (cfg : Mem) (a b : Option (List ScanEntry)) (f0 : ChainSt) : ChainSt × Option (Nat × List Byte) × List Fx :=
  if !f0.scanOut then (f0, none, []) else
  let ring := fldTopology cfg == 2
  let lost := b2n a.isNone + (if ring then b2n b.isNone else 0)
  let la := a.getD []
  let lb := if ring then b.getD [] else []
  let f := { f0 with scanOut := false, scanned := f0.scanned || a.isSome || b.isSome }
  let (f1, fx) := if a.isNone ∧ b.isNone then (f, []) else scanEval cfg la lb f allStations
  let fxC := (if lost = 0 then [Fx.count Reg.fldCntScans 1] else [Fx.count Reg.fldCntLost lost])
  match f1.series with
  | none => (f1, none, fxC ++ fx)
  | some ser =>
    let sig := (la.map (·.addr), lb.map (·.addr))
    let ser1 := { ser with left := ser.left - 1, last := some sig, differed := ser.differed || (match ser.last with | some x => x != sig | none => false) }
    if ser1.left = 0 then ({ f1 with series := none }, some (ser.id, scanReply cfg ser1 la lb), fxC ++ fx)
    else ({ f1 with series := some ser1 }, none, fxC ++ fx)

/-! Other happenings. -/

/-- A field port's link changes (R323). -/
def fldLink (cfg : Mem) (portB up : Bool) (f : ChainSt) : ChainSt × List Fx :=
  let old := if portB then f.linkB else f.linkA
  if up = old then (f, []) else
  let f1 := if portB then { f with linkB := up } else { f with linkA := up }
  let d := [byteOf (b2n portB), byteOf (b2n up)]
  let (f2, fx) := fldRing cfg f1
  (f2, (if up then Fx.ended 76 (b2n portB) d else Fx.start 76 (b2n portB) d) :: fx)

/-- A frame this module did not send (Table 13.6 code 6). Event 77 gives the MAC address with its first octet first (DESIGN CHOICE, log 123). -/
def fldForeign (mac : Nat) (f : ChainSt) : ChainSt × List Fx :=
  let (f1, fx) := fldViolate 0 6 Reg.fldCntForeign f
  (f1, fx ++ [.flag Reg.fldStatus 1, .event 77 (beBytes 6 mac)])

/-- Datagrams of a forwarded copy with CLAIM equal to ADDR (R341). -/
def fwdDatagrams (t : Nat) (bytes : List Byte) : Nat → Nat → List Datagram
  | 0, _ => []
  | k + 1, o =>
    if bytes.length < o + 12 then [] else
    let d := bytes.drop o
    let ol := getU8 d 2
    let il := getU8 d 3
    let rest := fwdDatagrams t bytes k (o + dgLen ol il)
    if getU8 d 4 = getU8 d 0 then ⟨getU8 d 0, getU8 d 5, getU32 d 8, slice d (12 + ol) il, t⟩ :: rest else rest

/-- A forwarding module passes a frame on (R341); a station's datagram is read from the first copy of the cycle that carries it claimed. -/
def chainForward (t : Nat) (bytes : List Byte) (f : ChainSt) : ChainSt :=
  if getU8 bytes 1 ≠ 0 then f else
  let cyc := getU32 bytes 4
  let old := if f.fwdCyc = cyc then f.fwd else []
  let new := (fwdDatagrams t bytes (getU16 bytes 10) 16).filter (fun d => !(old.any (fun e => e.addr == d.addr)))
  { f with fwdCyc := cyc, fwd := old ++ new, fwdEpoch := getU16 bytes 8 }

/-- Stations whose record changed, or that become enabled or disabled, at a boundary (R342). -/
def fldApply (old new : Mem) (f : ChainSt) : ChainSt × List Fx :=
  allStations.foldl (fun acc s =>
    if cfgBytes old 0x0501 (fldOfs s) 16 = cfgBytes new 0x0501 (fldOfs s) 16 then acc else
    let (x, fx) := stnTo s (if fldEnable new s then 1 else 0) (fldStn acc.1 s)
    (fldMod acc.1 s (fun _ => { x with run := 0, cause := 0, came := 1 }), acc.2 ++ fx)) (f, [])

/-! Views. -/

def stnStat (x : Station) : Nat :=
  x.state + x.cause * 16 + satN 8 x.run * 256 + x.pos * 65536 + x.status * 0x1000000

def fldStatusView (f : ChainSt) (master : Bool) : Nat :=
  b2n master * 256 + b2n f.linkA * 512 + b2n f.linkB * 1024 + b2n f.ringOpen * 2048 + b2n f.series.isSome * 4096

/-- FLD_GET_STATION's reply (Table 13.9); the two counters come from the register file. -/
def stnBytes (s misses viols : Nat) (x : Station) : List Byte :=
  let e := x.ent.getD ⟨0, 0, 0, 0, 0, 0, 0, 0, 0, 0⟩
  [byteOf s, byteOf x.state, byteOf x.cause, byteOf x.pos] ++ u16 e.vendor ++ u16 e.product ++ u32 e.serial ++ u16 e.profile ++ u16 e.revision ++
  [byteOf e.outMax, byteOf e.inMax, byteOf x.status, byteOf x.run] ++ u32 misses ++ u32 viols ++ u32 x.lastCyc ++ u32 0 ++ u64 x.lastAt

end Sys2Proof.Machine
end

