-- ==== Sys2Proof/Machine/Solver.lean ====
section
/-! DEFINITION. The active-set method of R188 to R194, shared by SL0 and the scenario lanes. -/

namespace Sys2Proof.Machine

/-- Fraction bits in which the solver computes. H and its factor are cut to the formats of Table 7.6; c, g, λ, H⁻¹·a and the factor of M keep all
fraction bits within that table's ranges, since the tolerance of R184 and R188 and the steps of Table 7.14 do not survive a cut to 16 (DEDUCED,
log 34). -/
def qpF : Nat := 56

/-- A value of `qpF` fraction bits reduced to a format of `f` (R186). -/
def qpCut (f : Nat) (x : Int) : Int := asrRound x (qpF - f) * 2 ^ (qpF - f)

/-- A row a·u ≤ b: coefficients by variable (s2.30), bound (s8.24). -/
structure QpRow where
  a : List (Nat × Int)
  b : Int
  deriving DecidableEq, Repr

/-- A programme: dimension, H, c, rows, objective J(u) in u32.32. -/
structure Qp where
  n : Nat
  h : List (List Int)
  c : List Int
  rows : List QpRow
  obj : List Int → Int

def dot (a b : List Int) : Int := (List.zipWith (· * ·) a b).foldl (· + ·) 0

/-- a·v for a row, with 30 more fraction bits than v. -/
def rowDot (a : List (Nat × Int)) (v : List Int) : Int := a.foldl (fun acc p => acc + p.2 * v.getD p.1 0) 0

def rowDense (n : Nat) (a : List (Nat × Int)) : List Int := (List.range n).map (fun i => a.foldl (fun acc p => if p.1 = i then acc + p.2 else acc) 0)

/-- Quotient of two values of one format in a format of `f` fraction bits, rounded to nearest (R122), held with `qpF`. -/
def qpQuot (f : Nat) (a b : Int) : Int :=
  (if b < 0 then divNearAway (-a * 2 ^ f) b.natAbs else if b = 0 then 0 else divNearAway (a * 2 ^ f) b.natAbs) * 2 ^ (qpF - f)

def qpDiv (a b : Int) : Int := qpQuot qpF a b

/-- An LDLᵀ factor: the rows of L below the diagonal, and D. -/
structure Ldl where
  l : List (List Int) := []
  d : List Int := []
  deriving DecidableEq, Repr

/-- y = L⁻¹·v by forward substitution. -/
def ldlForward (l : List (List Int)) (v : List Int) : List Int :=
  (l.zip v).foldl (fun ys p => ys ++ [p.2 - asrRound (dot p.1 ys) qpF]) []

/-- x = L⁻ᵀ·y by back substitution over columns of L, from the last. -/
def ldlBackward (l : List (List Int)) (y : List Int) : List Int :=
  let n := y.length
  (List.range n).foldl (fun xs k =>
    let j := n - 1 - k
    let s := (List.range k).foldl (fun acc m => acc + (l.getD (j + 1 + m) []).getD j 0 * xs.getD m 0) 0
    (y.getD j 0 - asrRound s qpF) :: xs) []

/-- The solution of L·D·Lᵀ·x = v. -/
def ldlSolve (f : Ldl) (v : List Int) : List Int :=
  ldlBackward f.l (List.zipWith qpDiv (ldlForward f.l v) f.d)

/-- The new row of L and the new pivot when a row `v` with diagonal `m` is appended, L with `lF` fraction bits and D with `dF`. -/
def ldlAppendRow (lF dF : Nat) (f : Ldl) (v : List Int) (m : Int) : List Int × Int :=
  let y := ldlForward f.l v
  let l := List.zipWith (qpQuot lF) y f.d
  (l, qpCut dF (m - asrRound (dot l y) qpF))

/-- The factor of H, given by its rows: L as s8.24, D as u16.16 (Table 7.6). -/
def ldlFactor (h : List (List Int)) : Ldl :=
  (h.zipIdx).foldl (fun f p =>
    let (l, d) := ldlAppendRow 24 16 f (p.1.take p.2) (p.1.getD p.2 0)
    { l := f.l ++ [l], d := f.d ++ [d] }) {}

/-- Rank-one step of a downdate over the trailing rows: α, the column w and the block are carried along. -/
def ldlRankOne : Nat → Int → List Int → List (List Int) → List Int → List (List Int) × List Int
  | 0, _, _, _, _ => ([], [])
  | k + 1, al, w, l, d =>
    match w, l, d with
    | p :: ws, _ :: ls, dj :: ds =>
      let dn := dj + asrRound (al * asrRound (p * p) qpF) qpF
      let be := qpDiv (asrRound (al * p) qpF) dn
      let al' := qpDiv (asrRound (al * dj) qpF) dn
      let col := ls.map (fun r => r.headD 0)
      let w' := List.zipWith (fun wi lij => wi - asrRound (p * lij) qpF) ws col
      let col' := List.zipWith (fun lij wi => lij + asrRound (be * wi) qpF) col w'
      let rest := ldlRankOne k al' w' (ls.map List.tail) ds
      ([] :: List.zipWith (fun c r => c :: r) col' rest.1, dn :: rest.2)
    | _, _, _ => ([], [])

/-- The factor with row and column `k` removed (R189's downdate). -/
def ldlDrop (f : Ldl) (k : Nat) : Ldl :=
  let top := f.l.take k
  let low := f.l.drop (k + 1)
  let left := low.map (List.take k)
  let w := low.map (fun r => r.getD k 0)
  let tri := low.map (fun r => r.drop (k + 1))
  let (tri', d') := ldlRankOne w.length (f.d.getD k 0) w tri (f.d.drop (k + 1))
  { l := top ++ List.zipWith (fun a b => a ++ b) left tri', d := f.d.take k ++ d' }

/-- What a solve counts (R190 to R192), newest last: (code of event 57, row). -/
abbrev QpNote := Nat × Nat

/-- A running solve. `hinv` holds H⁻¹·a of each working row, in the order of `work`. -/
structure QpRun where
  u : List Int
  work : List Nat
  hinv : List (List Int)
  m : Ldl
  best : List Int
  jBest : Int
  iters : Nat
  notes : List QpNote
  reason : Option Nat
  deriving DecidableEq, Repr

def inLRange (x : Int) : Bool := decide (-(128 * 2 ^ qpF) ≤ x) && decide (x < 128 * 2 ^ qpF)
def inDRange (x : Int) : Bool := decide (0 ≤ x) && decide (x < 65536 * 2 ^ qpF)
def inGRange (x : Int) : Bool := decide (-(32768 * 2 ^ qpF) ≤ x) && decide (x < 32768 * 2 ^ qpF)
def inURange (x : Int) : Bool := decide (-(2 ^ 31) ≤ x) && decide (x < 2 ^ 31)

/-- Whether H and its factor lie in their formats (R186, R191). -/
def ldlFits (h : List (List Int)) (f : Ldl) : Bool :=
  h.all (fun r => r.all inGRange) && f.l.all (fun r => r.all inLRange) && f.d.all inDRange

/-- The reference of the pivot rule (R190). -/
def pivotRef (f : Ldl) : Int := if f.d.isEmpty then 2 ^ qpF else f.d.foldl (fun a b => if a < b then b else a) 0

/-- Whether a pivot is refused: exactly zero, or below 2^-20 of the reference (R190). -/
def pivotSmall (ref d : Int) : Bool := decide (d = 0) || decide (d * 2 ^ 20 < ref)

/-- Event 57's code of a refused pivot (Table 7.17): 0 zero, 1 small. -/
def pivotCode (d : Int) : Nat := if d = 0 then 0 else 1

/-- Try to add row j to the working set (R189 to R191). -/
def qpAdd (q : Qp) (hf : Ldl) (r : QpRun) (j : Nat) : QpRun × Bool :=
  match q.rows[j]? with
  | none => (r, false)
  | some row =>
    let ha := ldlSolve hf ((rowDense q.n row.a).map (fun x => x * 2 ^ (qpF - 30)))
    let v := r.work.map (fun i => match q.rows[i]? with
      | some ri => asrRound (rowDot ri.a ha) 30
      | none => 0)
    let (l, d) := ldlAppendRow qpF qpF r.m v (asrRound (rowDot row.a ha) 30)
    if pivotSmall (pivotRef r.m) d then ({ r with notes := r.notes ++ [(pivotCode d, j)] }, false)
    else if !(l.all inLRange && inDRange d && ha.all inGRange) then ({ r with notes := r.notes ++ [(2, j)] }, false)
    else ({ r with work := r.work ++ [j], hinv := r.hinv ++ [ha], m := { l := r.m.l ++ [l], d := r.m.d ++ [d] } }, true)

/-- Try to drop the working row at position k. The pivot rule judges the diagonal elements that the downdate produces, those from k on (R190). -/
def qpDrop (r : QpRun) (k : Nat) : QpRun × Bool :=
  let j := r.work.getD k 0
  let f := ldlDrop r.m k
  let ref := pivotRef r.m
  match (f.d.drop k).find? (pivotSmall ref) with
  | some d => ({ r with notes := r.notes ++ [(pivotCode d, j)] }, false)
  | none =>
    if !(f.l.all (fun row => row.all inLRange) && f.d.all inDRange) then ({ r with notes := r.notes ++ [(2, j)] }, false)
    else ({ r with work := r.work.eraseIdx k, hinv := r.hinv.eraseIdx k, m := f }, true)

/-- Candidates tried in turn until one succeeds (R189). -/
def qpTry (f : QpRun → Nat → QpRun × Bool) : List Nat → QpRun → QpRun × Bool
  | [], r => (r, false)
  | j :: js, r => let (r', ok) := f r j; if ok then (r', true) else qpTry f js r'

/-- Step length and blocking rows (R188): α in u1.31, rows in ascending number. -/
def qpBlock (q : Qp) (work : List Nat) (u p : List Int) : Nat × List Nat :=
  (q.rows.zipIdx).foldl (fun acc rj =>
    if work.contains rj.2 then acc else
    let ap := rowDot rj.1.a p
    if ap ≤ 0 then acc else
    let num := rj.1.b * 2 ^ 30 - rowDot rj.1.a u
    let r := if num ≤ 0 then 0 else (num.toNat * 2 ^ 31) / ap.toNat
    if r < acc.1 then (r, [rj.2]) else if r = acc.1 ∧ r < 2 ^ 31 then (acc.1, acc.2 ++ [rj.2]) else acc) (2 ^ 31, [])

/-- Positions sorted by ascending multiplier, ties by row number (R189), of those below −2^-20. -/
def dropOrder (work : List Nat) (lam : List Int) : List Nat :=
  let c := ((lam.zip work).zipIdx).filter (fun x => decide (x.1.1 * 2 ^ 20 < -(2 ^ qpF)))
  (sortBy (fun (a b : (Int × Nat) × Nat) => decide (a.1.1 < b.1.1) || (a.1.1 == b.1.1 && decide (a.1.2 < b.1.2))) c).map (·.2)

/-- The direction of an iteration, the multipliers of the working rows, and whether gradient and multipliers lie in their range (R188). -/
def qpDirection (q : Qp) (hf : Ldl) (r : QpRun) : List Int × List Int × Bool :=
  let g := List.zipWith (fun row c => asrRound (dot row r.u) 24 + c) q.h q.c
  let hg := ldlSolve hf g
  let ahg := r.work.map (fun i => match q.rows[i]? with
    | some ri => asrRound (rowDot ri.a hg) 30
    | none => 0)
  let lam := (ldlSolve r.m ahg).map (fun x => -x)
  let corr := (lam.zip r.hinv).foldl (fun acc lh => List.zipWith (fun a h => a + asrRound (lh.1 * h) qpF) acc lh.2) hg
  (corr.map (fun x => asrRound (-x) (qpF - 24)), lam, g.all inGRange && lam.all inGRange)

/-- No direction is left: the solve ends, or a row is dropped (R189). -/
def qpRelease (r : QpRun) (lam : List Int) : QpRun :=
  if lam.all (fun x => decide (-(2 ^ qpF) ≤ x * 2 ^ 20)) then { r with reason := some 0 }
  else
    let x := qpTry qpDrop (dropOrder r.work lam) r
    if x.2 then x.1 else { x.1 with notes := x.1.notes ++ [(4, 0)], reason := some 3 }

/-- The best point so far. -/
def qpNoteBest (q : Qp) (r : QpRun) (u : List Int) : QpRun :=
  let j := q.obj u
  if j < r.jBest then { r with best := u, jBest := j } else r

/-- After a step of length `al` to `u`, with its blocking rows. -/
def qpLand (q : Qp) (hf : Ldl) (r : QpRun) (al : Nat) (blk : List Nat) (u : List Int) : QpRun :=
  let x := if al < 2 ^ 31 then qpTry (qpAdd q hf) blk { r with u := u } else ({ r with u := u }, false)
  let r3 := qpNoteBest q x.1 u
  if al = 2 ^ 31 ∧ r3.work.isEmpty then { r3 with reason := some 0 }
  else if al = 0 ∧ !x.2 then { r3 with notes := r3.notes ++ [(4, 0)], reason := some 3 }
  else r3

/-- A step along the direction `p`. -/
def qpMove (q : Qp) (hf : Ldl) (r : QpRun) (p : List Int) : QpRun :=
  let b := qpBlock q r.work r.u p
  let u := List.zipWith (fun a x => a + asrRound ((b.1 : Int) * x) 31) r.u p
  if !(u.all inURange && p.all inURange) then { r with notes := r.notes ++ [(3, b.2.headD 0)], reason := some 4 } else qpLand q hf r b.1 b.2 u

/-- One iteration of R188. -/
def qpIter (q : Qp) (hf : Ldl) (r0 : QpRun) : QpRun :=
  let r := { r0 with iters := r0.iters + 1 }
  let d := qpDirection q hf r
  if !d.2.2 then { r with notes := r.notes ++ [(3, 0)], reason := some 4 }
  else if d.1.all (fun x => decide (x.natAbs < 16)) then qpRelease r d.2.1
  else qpMove q hf r d.1

/-- Iterations up to a count. -/
def qpLoop (q : Qp) (hf : Ldl) (limit : Nat) : Nat → QpRun → QpRun
  | 0, r => r
  | k + 1, r => if r.reason.isSome ∨ limit ≤ r.iters then r else qpLoop q hf limit k (qpIter q hf r)

/-- The rebuild of R198: rows in ascending number, each success one iteration. -/
def qpRebuild (q : Qp) (hf : Ldl) (limit : Nat) : List Nat → QpRun → QpRun
  | [], r => r
  | j :: js, r =>
    if limit ≤ r.iters then r else
    let (r', ok) := qpAdd q hf r j
    qpRebuild q hf limit js (if ok then { r' with iters := r'.iters + 1 } else r')

/-- A whole solve from a start point with the rows to rebuild, ended by `budget` (reason 1) or, where `guard` is smaller, by the wall clock
(reason 2) (R193, R194). Where the entry's factor does not fit its format the solve ends there, with reason OVERFLOW (R191; DEDUCED, log 34). -/
def qpSolve (q : Qp) (u0 : List Int) (rebuild : List Nat) (budget guard : Nat) : QpRun :=
  let hf := ldlFactor q.h
  let lim := if guard < budget then guard else budget
  let r0 : QpRun := { u := u0, work := [], hinv := [], m := {}, best := u0, jBest := q.obj u0, iters := 0, notes := [], reason := none }
  if !ldlFits q.h hf then { r0 with notes := [(2, 0)], reason := some 4 } else
  let r1 := qpRebuild q hf lim rebuild r0
  let r2 := qpLoop q hf lim lim r1
  match r2.reason with
  | some _ => r2
  | none => { r2 with reason := some (if guard < budget then 2 else 1) }

/-- The rows whose a·u lies within 2^-20 of b (R198). -/
def qpBinding (q : Qp) (u : List Int) : List Nat :=
  ((q.rows.zipIdx).filter (fun rj => decide ((rowDot rj.1.a u - rj.1.b * 2 ^ 30).natAbs ≤ 2 ^ 34))).map (·.2)

end Sys2Proof.Machine
end

