-- ==== Sys2Proof/Machine/Alloc.lean ====
section
/-! DEFINITION. Thrust allocation: thruster tables, rows, entry stage, results, plausibility checks (chapter 07); power rows and budgets (R207 to R209). -/

namespace Sys2Proof.Machine

/-! Thruster tables (Tables 7.2, 7.3, 7.10), thruster t from 1. -/

def thrOff (t : Nat) : Nat := 64 * (t - 1)
def thrType (cfg : Mem) (t : Nat) : Nat := cfgU8 cfg 0x0A00 (thrOff t)
def thrBus (cfg : Mem) (t : Nat) : Nat := cfgU8 cfg 0x0A00 (thrOff t + 1)
def thrFeedback (cfg : Mem) (t : Nat) : Nat := cfgU8 cfg 0x0A00 (thrOff t + 2)
def thrX (cfg : Mem) (t : Nat) : Int := cfgS32 cfg 0x0A00 (thrOff t + 4)
def thrY (cfg : Mem) (t : Nat) : Int := cfgS32 cfg 0x0A00 (thrOff t + 8)
def thrAxis (cfg : Mem) (t : Nat) : Nat := cfgU32 cfg 0x0A00 (thrOff t + 12)
def thrTmaxPos (cfg : Mem) (t : Nat) : Nat := cfgU32 cfg 0x0A00 (thrOff t + 16)
def thrTmaxNeg (cfg : Mem) (t : Nat) : Nat := cfgU32 cfg 0x0A00 (thrOff t + 20)
def thrRate (cfg : Mem) (t : Nat) : Nat := cfgU32 cfg 0x0A00 (thrOff t + 24)
def thrAzRate (cfg : Mem) (t : Nat) : Nat := cfgU32 cfg 0x0A00 (thrOff t + 28)
def thrW (cfg : Mem) (t : Nat) : Nat := cfgU32 cfg 0x0A00 (thrOff t + 32)
def thrRateW (cfg : Mem) (t : Nat) : Nat := cfgU32 cfg 0x0A00 (thrOff t + 36)
def thrConfigured (cfg : Mem) (t : Nat) : Bool := thrType cfg t == 1 || thrType cfg t == 2
def thrAzimuth (cfg : Mem) (t : Nat) : Bool := thrType cfg t == 2
def thrNums : List Nat := (List.range 24).map (· + 1)

/-- The forbidden sectors of a thruster with non-zero width: (START, WIDTH). -/
def thrSectors (cfg : Mem) (t : Nat) : List (Nat × Nat) :=
  ((List.range 4).map (fun k => (cfgU32 cfg 0x0A01 (32 * (t - 1) + 8 * k), cfgU32 cfg 0x0A01 (32 * (t - 1) + 8 * k + 4)))).filter (fun s => s.2 ≠ 0)

/-- The derating sectors: (START, WIDTH, FACTOR). -/
def thrDerates (cfg : Mem) (t : Nat) : List (Nat × Nat × Nat) :=
  ((List.range 2).map (fun k =>
    let o := 24 * (t - 1) + 12 * k
    (cfgU32 cfg 0x0A02 o, cfgU32 cfg 0x0A02 (o + 4), cfgU16 cfg 0x0A02 (o + 8)))).filter (fun s => s.2.1 ≠ 0)

/-- D at an angle (R181): the product of the FACTORs of the derating sectors that contain it, applied to a value. -/
def thrDerate (cfg : Mem) (t ang : Nat) (v : Int) : Int :=
  (thrDerates cfg t).foldl (fun a s => if (ang + 2 ^ 32 - s.1) % 2 ^ 32 ≤ s.2.1 then asrRound (a * (s.2.2 : Int)) 15 else a) v

def thrDerated (cfg : Mem) (t ang : Nat) : Bool :=
  (thrDerates cfg t).any (fun s => decide ((ang + 2 ^ 32 - s.1) % 2 ^ 32 ≤ s.2.1) && decide (s.2.2 < 2 ^ 15))

/-- kN (s16.16) to F_U (s8.24), and back. -/
def toFU (x : Int) : Int := asrRound x 2
def ofFU (x : Int) : Int := x * 4

/-- τ in internal units, s8.24 (F_U, F_U, F_U·L_U), and back. -/
def tauToU (v : V3) : V3 := ⟨asrRound v.x 2, asrRound v.y 2, asrRound v.n 6⟩
def tauOfU (v : V3) : V3 := ⟨satS 32 (v.x * 4), satS 32 (v.y * 4), satS 32 (v.n * 64)⟩

/-- Lengths (s16.16 m) in L_U as s2.30. -/
def toLU (x : Int) : Int := x * 64

/-- The number of force variables of a thruster. -/
def thrVars (cfg : Mem) (t : Nat) : Nat := if thrAzimuth cfg t then 2 else 1

/-- First variable of each listed thruster. -/
def varIndex (cfg : Mem) (ts : List Nat) (t : Nat) : Nat := ((ts.filter (· < t)).map (thrVars cfg)).foldl (· + ·) 0

/-- The columns of B of a thruster (Table 7.1), s2.30: surge, sway, yaw. -/
def thrCols (cfg : Mem) (t : Nat) : List (Int × Int × Int) :=
  let x := toLU (thrX cfg t); let y := toLU (thrY cfg t)
  if thrAzimuth cfg t then [(2 ^ 30, 0, -y), (0, 2 ^ 30, x)]
  else let c := cosBam (thrAxis cfg t); let s := sinBam (thrAxis cfg t); [(c, s, asrRound (x * s - y * c) 30)]

def bCols (cfg : Mem) (ts : List Nat) : List (Int × Int × Int) := ts.flatMap (thrCols cfg)

/-- B·u in internal units, s8.24. -/
def bTimes (cols : List (Int × Int × Int)) (u : List Int) : V3 :=
  let f := fun (g : Int × Int × Int → Int) => asrRound (dot (cols.map g) u) 30
  ⟨f (·.1), f (·.2.1), f (·.2.2)⟩

/-! Rows (R181 to R183). -/

def angDist (a b : Nat) : Nat := (bamDiff a b).natAbs

/-- The edge of a sector nearest an angle: (edge, whether it is START). -/
def sectorEdge (s : Nat × Nat) (al : Nat) : Nat × Bool :=
  let e := (s.1 + s.2) % 2 ^ 32
  if angDist s.1 al ≤ angDist e al then (s.1, true) else (e, false)

def inSector (s : Nat × Nat) (al : Nat) : Bool :=
  let d := (al + 2 ^ 32 - s.1) % 2 ^ 32
  decide (0 < d) && decide (d < s.2)

/-- The angle that stands for α_t in a thruster's rows (R182), and whether a sector's edge replaced it. -/
def thrAngle (cfg : Mem) (i : ThrIn) : Nat × Bool :=
  if !thrAzimuth cfg i.t then (i.al, false) else
  match (thrSectors cfg i.t).find? (fun s => inSector s i.al) with
  | some s => ((sectorEdge s i.al).1, true)
  | none => (i.al, false)

/-- Δ_t = min(AZ_RATE × P, 45°) as bam32. -/
def thrDelta (cfg : Mem) (t pms : Nat) : Nat :=
  let d := divNearAway ((thrAzRate cfg t : Int) * periodMs32 pms * 2 ^ 32) (360 * 2 ^ 48)
  if (0x20000000 : Int) ≤ d then 0x20000000 else d.toNat
where
  /-- The period in seconds as u0.32 (R154). -/
  periodMs32 (pms : Nat) : Int := divNearAway ((pms * 2 ^ 32 : Nat) : Int) 1000

/-- RATE × P in s16.16 kN. -/
def thrRateStep (cfg : Mem) (t pms : Nat) : Int := asrRound ((thrRate cfg t : Int) * thrDelta.periodMs32 pms) 32

/-- T_up in s16.16 kN (R181). -/
def thrTup (cfg : Mem) (pms : Nat) (i : ThrIn) : Int :=
  let cap := if thrAzimuth cfg i.t then thrDerate cfg i.t (thrAngle cfg i).1 (thrTmaxPos cfg i.t) else (thrTmaxPos cfg i.t : Int)
  min cap (max i.tt 0 + thrRateStep cfg i.t pms)

/-- T_lo in s16.16 kN. -/
def thrTlo (cfg : Mem) (pms : Nat) (i : ThrIn) : Int := max (-(thrTmaxNeg cfg i.t : Int)) (min i.tt 0 - thrRateStep cfg i.t pms)

/-- tan as the quotient of the table's sine and cosine, s2.30. -/
def tanBam (d : Nat) : Int := divNearAway (sinBam d * 2 ^ 30) (cosBam d).natAbs

/-- The half-plane of an edge away from the sector's bisector: the coefficients of a·u ≤ 0. -/
def halfPlane (edge : Nat) (isStart : Bool) : Int × Int :=
  if isStart then (-(sinBam edge), cosBam edge) else (sinBam edge, -(cosBam edge))

/-- What a row is, for ALC_THR_STAT. -/
inductive RowKind where
  | upper
  | lower
  | edge
  | sector
  | power
  | other
  deriving DecidableEq, Repr

/-- A row with its owner: thruster number, or section number for a power row. -/
structure AlcRow where
  kind : RowKind
  owner : Nat
  row : QpRow
  deriving DecidableEq, Repr

/-- The rows of a thruster in the order of Table 7.4, `v` being its first variable. -/
def thrRows (cfg : Mem) (pms v : Nat) (i : ThrIn) : List AlcRow :=
  let up := toFU (thrTup cfg pms i)
  if thrAzimuth cfg i.t then
    let al := (thrAngle cfg i).1
    let c := cosBam al; let s := sinBam al
    let d := thrDelta cfg i.t pms
    let tn := tanBam d
    let ct := asrRound (tn * c) 30; let st := asrRound (tn * s) 30
    [⟨.upper, i.t, ⟨[(v, c), (v + 1, s)], max 0 (asrRound (up * cosBam d) 30)⟩⟩,
     ⟨.edge, i.t, ⟨[(v, -s - ct), (v + 1, c - st)], 0⟩⟩,
     ⟨.edge, i.t, ⟨[(v, s - ct), (v + 1, -c - st)], 0⟩⟩] ++
    (thrSectors cfg i.t).map (fun sec =>
      let (e, isStart) := sectorEdge sec al
      let h := if 0x40000000 < angDist e al then (0, 0) else halfPlane e isStart
      ⟨.sector, i.t, ⟨[(v, h.1), (v + 1, h.2)], 0⟩⟩)
  else
    [⟨.upper, i.t, ⟨[(v, 2 ^ 30)], max 0 up⟩⟩, ⟨.lower, i.t, ⟨[(v, -(2 ^ 30))], max 0 (-(toFU (thrTlo cfg pms i)))⟩⟩]

/-! Power (R207 to R209). -/

/-- The points of a thruster's curve in use: (T, P), u16.16 each (R208). -/
def curvePoints (cfg : Mem) (t : Nat) : List (Nat × Nat) :=
  let pts := (List.range 8).map (fun k => (cfgU32 cfg 0x0A12 (64 * (t - 1) + 8 * k), cfgU32 cfg 0x0A12 (64 * (t - 1) + 8 * k + 4)))
  go pts
where
  /-- Up to the first point whose thrust is not greater than the previous one's. -/
  go : List (Nat × Nat) → List (Nat × Nat)
    | a :: b :: r => if a.1 < b.1 then a :: go (b :: r) else [a]
    | l => l

/-- P(T) in kW for a thrust in kN. -/
def curveAt (pts : List (Nat × Nat)) (T : Rat) : Rat :=
  let q := fun (n : Nat) => fixToRat (n : Int) 16
  match pts with
  | [] => 0
  | [_] => 0
  | a :: b :: r => go q a b r T
where
  /-- The segment from a to b, or a later one. -/
  go (q : Nat → Rat) (a b : Nat × Nat) (r : List (Nat × Nat)) (T : Rat) : Rat :=
    match r with
    | c :: r' => if q b.1 < T then go q b c r' T else q a.2 + (q b.2 - q a.2) * (T - q a.1) / (q b.1 - q a.1)
    | [] => q a.2 + (q b.2 - q a.2) * (T - q a.1) / (q b.1 - q a.1)

def curveSlope0 (pts : List (Nat × Nat)) : Rat :=
  match pts with
  | a :: b :: _ => fixToRat ((b.2 : Int) - a.2) 16 / fixToRat ((b.1 : Int) - a.1) 16
  | _ => 0

/-- RESERVE and DEFAULT_LIMIT of a section. -/
def busReserve (cfg : Mem) (s : Nat) : Int := (cfgU32 cfg 0x0A11 (16 * s + 12) : Nat)
def busDefault (cfg : Mem) (s : Nat) : Nat := cfgU32 cfg 0x0A11 (16 * s + 8)

/-- Whether a section holds a configured thruster. -/
def secHolds (cfg : Mem) (s : Nat) : Bool := thrNums.any (fun t => thrConfigured cfg t && thrBus cfg t == s)

/-- The smallest power of two, from 1 to 2^20, at least `x`. -/
def powerUnit (x : Rat) : Nat := (((List.range 21).map (fun k => (2 ^ k : Nat))).find? (fun (p : Nat) => decide (x ≤ (p : Rat)))).getD (2 ^ 20)

/-- The power row of a section and whether its bound was raised to 0 (R183, R209). -/
def powerRow (cfg : Mem) (pms : Nat) (ts : List Nat) (thr : List ThrIn) (s : Nat) (budget : Option Int) : AlcRow × Bool :=
  let mine := thr.filter (fun i => thrBus cfg i.t == s)
  let coefs : List (Nat × Rat) := mine.flatMap (fun i =>
    let pts := curvePoints cfg i.t
    let az := thrAzimuth cfg i.t
    let tc : Rat := if az || decide (0 ≤ i.tt) then fixToRat (thrTup cfg pms i) 16 else fixToRat (-(thrTlo cfg pms i)) 16
    let c := if tc = 0 then curveSlope0 pts else (curveAt pts tc - curveAt pts 0) / tc
    let v := varIndex cfg ts i.t
    if az then
      let al := (thrAngle cfg i).1
      let k := c / fixToRat (cosBam (thrDelta cfg i.t pms)) 30
      [(v, k * fixToRat (cosBam al) 30), (v + 1, k * fixToRat (sinBam al) 30)]
    else [(v, if i.tt < 0 then -c else c)])
  let big := coefs.foldl (fun a p => let x := if p.2 < 0 then -p.2 else p.2; if a < x then x else a) 0
  let pu := powerUnit (1024 * big)
  let a := coefs.map (fun p => (p.1, ratToFix (p.2 * 1024 / (pu : Rat)) 30))
  match budget with
  | none => (⟨.power, s, ⟨a, 4 * 2 ^ 24⟩⟩, false)
  | some b =>
    let p0 := mine.foldl (fun acc i => acc + curveAt (curvePoints cfg i.t) 0) 0
    let bs := fixToRat (b - busReserve cfg s) 16 - p0
    let x := ratToFix (bs / (pu : Rat)) 24
    if x < 0 then (⟨.power, s, ⟨a, 0⟩⟩, true) else (⟨.power, s, ⟨a, min x (4 * 2 ^ 24)⟩⟩, false)

/-- The rows of SL0's problem in order, and whether a power bound was floored. -/
def alcRows (cfg : Mem) (p : AlcProb) : List AlcRow × Bool :=
  let ts := p.thr.map (·.t)
  let a := p.thr.flatMap (fun i => thrRows cfg p.pms (varIndex cfg ts i.t) i)
  let secs := (List.range 8).filter (fun s => secHolds cfg s && bits p.inService s 1 == 1)
  let b := secs.map (fun s => powerRow cfg p.pms ts p.thr s (p.budgets.getD s none))
  (a ++ b.map (·.1), b.any (·.2))

/-! The programme (R178). -/

def slackW (cfg : Mem) (k : Nat) : Int := (cfgU32 cfg 0x0A03 (4 * k) : Nat)

/-- Forces by thruster as the vector of variables. -/
def flatForces (cfg : Mem) (ts : List Nat) (u : List ThrForce) : List Int :=
  ts.flatMap (fun t => match u.find? (fun f => f.t == t) with
    | some f => if thrAzimuth cfg t then [f.x, f.y] else [f.x]
    | none => if thrAzimuth cfg t then [0, 0] else [0])

def unflatForces (cfg : Mem) : List Nat → List Int → List ThrForce
  | [], _ => []
  | t :: ts, u =>
    if thrAzimuth cfg t then ⟨t, u.getD 0 0, u.getD 1 0⟩ :: unflatForces cfg ts (u.drop 2) else ⟨t, u.getD 0 0, 0⟩ :: unflatForces cfg ts (u.drop 1)

/-- H, c and J of R178 for the thrusters `ts`, τ in internal units, u_ref. -/
def alcQp (cfg : Mem) (ts : List Nat) (rows : List QpRow) (tau : V3) (uref : List Int) : Qp :=
  let cols := bCols cfg ts
  let w := ts.flatMap (fun t => List.replicate (thrVars cfg t) ((thrW cfg t : Nat) : Int))
  let rw_ := ts.flatMap (fun t => List.replicate (thrVars cfg t) ((thrRateW cfg t : Nat) : Int))
  let q := [slackW cfg 0, slackW cfg 1, slackW cfg 2]
  let cl := cols.map (fun c => [c.1, c.2.1, c.2.2])
  let n := cols.length
  let h := (List.range n).map (fun i => (List.range n).map (fun j =>
    let bqb := (List.range 3).foldl (fun a k => a + (cl.getD i []).getD k 0 * (cl.getD j []).getD k 0 * q.getD k 0) 0
    asrRound bqb 60 * 2 ^ (qpF - 16) + (if i = j then (w.getD i 0 + rw_.getD i 0) * 2 ^ (qpF - 24) else 0)))
  let tv := [tau.x, tau.y, tau.n]
  let c := (List.range n).map (fun i =>
    let bq := (List.range 3).foldl (fun a k => a + (cl.getD i []).getD k 0 * q.getD k 0 * tv.getD k 0) 0
    Int.neg (asrRoundZ (rw_.getD i 0 * uref.getD i 0) (48 - (qpF : Int))) - asrRoundZ bq (70 - (qpF : Int)))
  let obj := fun (u : List Int) =>
    let s := bTimes cols u
    let sv := [s.x - tau.x, s.y - tau.y, s.n - tau.n]
    let e1 := (List.zipWith (fun a b => a * b * b) w u).foldl (· + ·) 0
    let e2 := (List.zipWith (fun a b => a * b * b) rw_ (List.zipWith (· - ·) u uref)).foldl (· + ·) 0
    let e3 := (List.zipWith (fun a b => a * b * b) q sv).foldl (· + ·) 0
    satU 64 (asrRound (e1 + e2 + e3 * 256) 41)
  { n := n, h := h, c := c, rows := rows, obj := obj }

/-! The start (R195 to R198). -/

/-- CRC-32C of items 0x0A00 to 0x0A03 in force. -/
def alcTableCrc (cfg : Mem) : Nat :=
  crc32c (cfgBytes cfg 0x0A00 0 1536 ++ cfgBytes cfg 0x0A01 0 768 ++ cfgBytes cfg 0x0A02 0 576 ++ cfgBytes cfg 0x0A03 0 24)

def thrBitmap (ts : List Nat) : Nat := bitmap 24 (fun i => ts.contains (i + 1))

/-- The structure signature (R195). -/
def alcSignature (tab : Nat) (ts : List Nat) (rows secs : Nat) : Nat :=
  crc32c (u32 (thrBitmap ts) ++ u32 tab ++ u16 rows ++ [byteOf secs, 0#8])

/-- The start kind (Table 7.9): 0 WARM, 1 PARTIAL, 2 COLD. -/
def startKind (prev : Option Prev) (sig tab : Nat) (ts : List Nat) : Nat :=
  match prev with
  | none => 2
  | some p =>
    if p.sig = sig then 0 else
    let k := (ts.filter (fun t => p.avail.contains t)).length
    if p.tab = tab ∧ Nat.max p.avail.length ts.length ≤ 2 * k then 1 else 2

/-- The force that feedback implies, in internal units (R197). -/
def feedbackForce (cfg : Mem) (i : ThrIn) : ThrForce :=
  let f := toFU i.tt
  if thrAzimuth cfg i.t then ⟨i.t, asrRound (f * cosBam i.al) 30, asrRound (f * sinBam i.al) 30⟩ else ⟨i.t, f, 0⟩

/-- The start force of each thruster before projection: u_ref (R178, R197). -/
def startForces (cfg : Mem) (kind : Nat) (prev : Option Prev) (thr : List ThrIn) : List ThrForce :=
  thr.map (fun i =>
    let old := match prev with
      | some p => p.u.find? (fun f => f.t == i.t)
      | none => none
    match kind, old with
    | 0, some f => f
    | 1, some f => f
    | 1, none => feedbackForce cfg i
    | _, _ => ⟨i.t, 0, 0⟩)

/-- The largest factor in [0, 1] with factor·(a·u) ≤ b, truncated to u1.31. -/
def fitFactor (r : QpRow) (u : List Int) : Nat :=
  let au := rowDot r.a u
  if au ≤ r.b * 2 ^ 30 then 2 ^ 31 else ((r.b * 2 ^ 30).toNat * 2 ^ 31) / au.toNat

def scaleVars (vars : List Nat) (f : Nat) (u : List Int) : List Int :=
  if f = 2 ^ 31 then u else (u.zipIdx).map (fun p => if vars.contains p.2 then asrRound (p.1 * (f : Int)) 31 else p.1)

/-- The variables of some thrusters. -/
def varsOf (cfg : Mem) (ts mine : List Nat) : List Nat :=
  mine.flatMap (fun t => (List.range (thrVars cfg t)).map (fun k => varIndex cfg ts t + k))

/-- The projection of the start point (R197): each thruster onto its own rows, then each section onto its power row. -/
def project (cfg : Mem) (ts : List Nat) (rows : List AlcRow) (u : List Int) : List Int :=
  let u1 := ts.foldl (fun u t =>
    let f := ((rows.filter (fun r => r.owner == t && decide (r.kind ≠ .power))).map (fun r => fitFactor r.row u)).foldl Nat.min (2 ^ 31)
    scaleVars (varsOf cfg ts [t]) f u) u
  (rows.filter (fun r => decide (r.kind = .power))).foldl (fun u r =>
    scaleVars (varsOf cfg ts (ts.filter (fun t => thrBus cfg t == r.owner))) (fitFactor r.row u) u) u1

/-! A solve of SL0 and its result. -/

/-- Effects of a solve's notes and ending. -/
def qpEffects (notes : List QpNote) : List Fx :=
  notes.flatMap (fun n =>
    let ev := Fx.event 57 ([byteOf n.1, 0#8] ++ u16 n.2)
    match n.1 with
    | 0 => [.count Reg.alcCntDegen 1, .flag Reg.alcStatus 1, ev]
    | 1 => [.count Reg.alcCntDegen 1, .flag Reg.alcStatus 1, ev]
    | 4 => [.count Reg.alcCntStall 1, .flag Reg.alcStatus 3, ev]
    | _ => [.count Reg.alcCntOvf 1, .flag Reg.alcStatus 2, ev])

def satWord (x : Int) : Int := satS 32 x

/-- Set-points of a thruster (R199): (thrust s16.16 kN, azimuth bam32). -/
def thrSetpoint (cfg : Mem) (i : ThrIn) (f : ThrForce) : Int × Nat :=
  if thrAzimuth cfg i.t then
    let mag := satWord (ofFU ((isqrt ((f.x * f.x + f.y * f.y).toNat) : Nat) : Int))
    (mag, if mag < ((cfgU32 cfg 0x0A03 12 : Nat) : Int) then i.al else atan2 f.y f.x)
  else (satWord (ofFU f.x), i.al)

/-- The structure signature of a cycle's problem. -/
def alcSigOf (cfg : Mem) (p : AlcProb) : Nat :=
  alcSignature (alcTableCrc cfg) (p.thr.map (·.t)) (alcRows cfg p).1.length (bitmap 8 (fun s => secHolds cfg s && bits p.inService s 1 == 1))

/-- A thruster without a set-point: thrust 0, its azimuth held at feedback (R199). -/
def restThr (feed stats : List Nat) (t : Nat) : ThrRes := { stat := stats.getD (t - 1) 0, az := feed.getD (t - 1) 0, thrust := 0, tup := 0 }

/-- ALC_THR_STAT [23:12] of a thruster with rows: SECTESC, DERATED and FIRSTROW. -/
def rowStat (cfg : Mem) (rows : List AlcRow) (i : ThrIn) : Nat :=
  b2n (thrAngle cfg i).2 * 4096 + b2n (thrAzimuth cfg i.t && thrDerated cfg i.t (thrAngle cfg i).1) * 8192 +
    ((rows.findIdx? (fun r => r.owner == i.t && decide (r.kind ≠ .power))).getD 0 % 256) * 65536

/-- The result of a cycle without a solve (R201): reason IDLE or NOTHR, zero thrust, azimuths at feedback, with the rows formed at the tick (R181) and
the residual, norm and J of u = 0. -/
def alcRest (cfg : Mem) (num reason : Nat) (p : AlcProb) (feed stats : List Nat) : AlcRes :=
  let tu := tauToU p.tau
  let (rows, floored) := alcRows cfg p
  { num := num, reason := reason, pwrFloor := floored, sig := alcSigOf cfg p, tau := p.tau, s := tauOfU (V3.of (fun d => -(tu.get d))),
    norm := satN 32 (isqrt ((tu.x * tu.x + tu.y * tu.y + tu.n * tu.n).toNat)), j := ((alcQp cfg [] [] tu []).obj []).toNat,
    thr := thrNums.map (fun t =>
      match p.thr.find? (fun i => i.t == t) with
      | some i => { restThr feed stats t with stat := stats.getD (t - 1) 0 + rowStat cfg rows i, tup := thrTup cfg p.pms i }
      | none => restThr feed stats t) }

/-- SL0's result for a problem, ended by the iteration budget or at `guard` iterations, with the new previous solve. `feed` gives the feedback
angle held for every thruster, `stats` ALC_THR_STAT [6:0], `last` the kind of the previous solve. -/
def alcSolve (cfg : Mem) (num : Nat) (prev : Option Prev) (last : Option Nat) (p : AlcProb) (guard : Nat) (feed stats : List Nat) :
    AlcRes × Option Prev × List Fx :=
  let ts := p.thr.map (·.t)
  if ts.isEmpty then
    let r := alcRest cfg num 6 p feed stats
    (r, none, if r.pwrFloor then [.flag Reg.alcStatus 5] else [])
  else
  let (rows, floored) := alcRows cfg p
  let tab := alcTableCrc cfg
  let sig := alcSigOf cfg p
  let tau := tauToU p.tau
  let kind := startKind prev sig tab ts
  let start := startForces cfg kind prev p.thr
  let uref := flatForces cfg ts start
  let q := alcQp cfg ts (rows.map (·.row)) tau uref
  let u0 := project cfg ts rows uref
  let bind := qpBinding q u0
  let rebuild := match kind, prev with
    | 0, some pr => bind.filter (fun j => pr.work.contains j)
    | 1, _ => bind
    | _, _ => []
  let r := qpSolve q u0 rebuild p.budget guard
  let reason := r.reason.getD 1
  let u := r.best
  let forces := unflatForces cfg ts u
  let cols := bCols cfg ts
  let bu := bTimes cols u
  let sv := V3.of (fun d => bu.get d - tau.get d)
  let norm := satN 32 (isqrt ((sv.x * sv.x + sv.y * sv.y + sv.n * sv.n).toNat))
  let binding := qpBinding q u
  let isBinding := fun (t : Nat) (k : RowKind) => (rows.zipIdx).any (fun rj => rj.1.owner == t && decide (rj.1.kind = k) && binding.contains rj.2)
  let thr := thrNums.map (fun t =>
    match p.thr.find? (fun i => i.t == t), forces.find? (fun f => f.t == t) with
    | some i, some f =>
      let sp := thrSetpoint cfg i f
      let stat := 1 + b2n (isBinding t .upper) * 256 + b2n (isBinding t .lower) * 512 + b2n (isBinding t .edge) * 1024 +
        b2n (isBinding t .sector) * 2048 + rowStat cfg rows i
      { stat := stat, az := sp.2, thrust := sp.1, tup := thrTup cfg p.pms i : ThrRes }
    | _, _ => restThr feed stats t)
  let degen := r.notes.any (fun n => n.1 == 0 || n.1 == 1)
  let ovf := r.notes.any (fun n => n.1 == 2 || n.1 == 3)
  let anytime := decide (1 ≤ reason) && decide (reason ≤ 4)
  let k := (ts.filter (fun t => match prev with | some pr => pr.avail.contains t | none => false)).length
  let powerBind := bitmap 8 (fun s => (rows.zipIdx).any (fun rj => decide (rj.1.kind = .power) && rj.1.owner == s && binding.contains rj.2))
  let res : AlcRes := ⟨num, reason, degen, ovf, decide (reason = 2), kind, floored, r.iters, sig, p.tau, tauOfU bu, tauOfU sv, norm,
    (q.obj u).toNat, thr, forces, powerBind⟩
  let pv : Prev := { u := forces, work := r.work, sig := sig, tab := tab, avail := ts, kind := kind, mu := 0 }
  let fx := qpEffects r.notes ++
    (if anytime then [.flag Reg.alcStatus 0, .count Reg.alcCntAnytime 1, .event 56 ([byteOf reason, 0#8, 0#8, 0#8] ++ u32 r.iters ++ u32 norm)] else []) ++
    (if floored then [.flag Reg.alcStatus 5] else []) ++
    (if kind = 1 then [.count Reg.alcCntPartial 1] else if kind = 2 then [.count Reg.alcCntCold 1] else []) ++
    [.maxi Reg.alcIter 16 16 (satN 16 r.iters)] ++
    (match last with
     | some k0 => if k0 = kind then [] else [.event 58 (u32 sig ++ [byteOf kind, byteOf k, byteOf ts.length])]
     | none => [])
  (res, some pv, fx)

/-- ALC_RES. -/
def alcResWord (r : AlcRes) : Nat :=
  r.reason + b2n (decide (1 ≤ r.reason) && decide (r.reason ≤ 4)) * 8 + b2n r.degen * 16 + b2n r.ovf * 32 + b2n r.tlim * 64 +
  r.kind * 128 + b2n r.pwrFloor * 512 + satN 16 r.iters * 65536

/-- Table 7.11. -/
def alcResBytes (r : AlcRes) : List Byte :=
  u64 r.num ++ u32 (alcResWord r) ++ u32 r.sig ++ r.tau.bytes ++ r.bu.bytes ++ r.s.bytes ++ u32 r.norm ++ u64 r.j ++ zeros 8 ++
  r.thr.flatMap (fun t => u32 t.stat ++ u32 t.az ++ s32 t.thrust ++ s32 t.tup)

/-- τ_sat of R200: B·ũ of an output set with the withheld thrusters at zero, τ_cmd where within SAT_TOL × rated. -/
def alcTauSat (cfg : Mem) (rated : Nat → Int) (tau : V3) (u : List ThrForce) (withheld : Nat → Bool) : V3 :=
  let ts := u.map (·.t)
  let v := flatForces cfg ts (u.map (fun f => if withheld f.t then { f with x := 0, y := 0 } else f))
  let a := tauOfU (bTimes (bCols cfg ts) v)
  let tol : Int := (cfgU16 cfg 0x0A03 16 : Nat)
  V3.of (fun d =>
    let fr := if d = 2 then 12 else 16
    if (a.get d - tau.get d).natAbs * 2 ^ 16 ≤ (tol * rated d * 2 ^ fr).toNat then tau.get d else a.get d)

/-! Plausibility checks at commit (R185, Table 7.5): the first failing check's code with its thruster (0 where none) and item. -/

def alcRowCount (cfg : Mem) : Nat :=
  (thrNums.map (fun t => if thrType cfg t = 1 then 2 else if thrType cfg t = 2 then 3 + (thrSectors cfg t).length else 0)).foldl (· + ·) 0 +
  ((List.range 8).filter (secHolds cfg)).length

def sectorsOverlap (a b : Nat × Nat) : Bool :=
  decide ((b.1 + 2 ^ 32 - a.1) % 2 ^ 32 < a.2) || decide ((a.1 + 2 ^ 32 - b.1) % 2 ^ 32 < b.2)

def pairsAny {α : Type} (f : α → α → Bool) : List α → Bool
  | [] => false
  | x :: xs => xs.any (f x) || pairsAny f xs

/-- Thrusters in order with the check that fails. `thrStream` tells whether a stream is an enabled THR stream. -/
def alcPlausible (cfg : Mem) (thrStream : Nat → Bool) : Option (Nat × Nat × Nat) :=
  let conf := thrNums.filter (thrConfigured cfg)
  let first := fun (code item : Nat) (ts : List Nat) (bad : Nat → Bool) => (ts.find? bad).map (fun t => (code, t, item))
  let az := fun t => thrAzimuth cfg t
  let big := 4096 * 65536
  let checks : List (Option (Nat × Nat × Nat)) := [
    first 1 0x0A00 thrNums (fun t => decide (2 < thrType cfg t)),
    if conf.isEmpty then some (2, 0, 0x0A00) else none,
    first 3 0x0A00 conf (fun t => decide (255 * 65536 < (thrX cfg t).natAbs) || decide (255 * 65536 < (thrY cfg t).natAbs)),
    first 4 0x0A00 conf (fun t => decide (thrTmaxPos cfg t = 0) || decide (big < thrTmaxPos cfg t) || decide (big < thrTmaxNeg cfg t) || (az t && decide (thrTmaxNeg cfg t ≠ 0))),
    first 5 0x0A00 conf (fun t => decide (thrRate cfg t = 0) || decide (big < thrRate cfg t)),
    first 6 0x0A00 conf (fun t => az t && (decide (thrAzRate cfg t = 0) || decide (360 * 65536 < thrAzRate cfg t))),
    first 7 0x0A00 conf (fun t => decide (thrW cfg t < 65536) || decide (16 * 2 ^ 24 < thrW cfg t) || decide (16 * 2 ^ 24 < thrRateW cfg t)),
    first 8 0x0A00 conf (fun t => decide (7 < thrBus cfg t) && decide (thrBus cfg t ≠ 0xFF)),
    first 9 0x0A00 conf (fun t => !thrStream (thrFeedback cfg t) || conf.any (fun t' => decide (t' ≠ t) && thrFeedback cfg t' == thrFeedback cfg t)),
    first 10 0x0A01 conf (fun t => (!az t && !(thrSectors cfg t).isEmpty) || (thrSectors cfg t).any (fun s => decide (2 ^ 31 ≤ s.2)) || pairsAny sectorsOverlap (thrSectors cfg t)),
    first 11 0x0A02 conf (fun t => (!az t && !(thrDerates cfg t).isEmpty) || (thrDerates cfg t).any (fun s => decide (2 ^ 15 < s.2.2))),
    if 160 < alcRowCount cfg then some (12, 0, 0x0A00) else none,
    if (List.range 3).any (fun k => decide (slackW cfg k < 65536) || decide (4096 * 65536 < slackW cfg k)) then some (13, 0, 0x0A03) else none]
  (checks.find? Option.isSome).join

end Sys2Proof.Machine
end

