-- ==== Sys2Proof/Machine/Conseq.lean ====
section
/-! DEFINITION. Consequence analysis: budgets of sections, failure groups, scenario programme, margins and alarms (chapter 08). -/

namespace Sys2Proof.Machine

/-! Section budgets (R207). -/

/-- The sources and the budget of a section from the available power of its PWR streams (none where void or not named) and the host limit:
the section, and its effects. -/
def secBudget (cfg : Mem) (s : Nat) (a b : Option Int) (x : Section) : Section × List Fx :=
  let host : Option Int := x.hostLimit.map (fun (n : Nat) => (n : Int))
  let srcs := [a, b, host].filterMap id
  match srcs with
  | [] =>
    let dflt := busDefault cfg s
    let x' := { x with srcA := false, srcB := false, noSrc := true, budget := if dflt = 0xFFFFFFFF then none else some (dflt : Int) }
    (x', if x.noSrc then [] else [.flag Reg.alcStatus 20, .count Reg.alcCntNosrc 1, .start 62 s [byteOf s, 1#8]])
  | y :: ys =>
    let m := ys.foldl min y
    ({ x with srcA := a.isSome, srcB := b.isSome, noSrc := false, budget := some m }, if x.noSrc then [.ended 62 s [byteOf s, 0#8]] else [])

/-- ALC_BUS_BUDGET_s: s24.8 kW, saturating; 0x7FFFFFFF means no limit. -/
def budgetWord (b : Option Int) : Nat := match b with
  | none => 0x7FFFFFFF
  | some x => unsigned 32 (satS 32 (asrRound x 8))

/-- ALC_BUS_STAT_s. -/
def secStat (x : Section) (binding : Bool) : Nat :=
  b2n x.inService + b2n x.lostDi * 2 + b2n x.lostChain * 4 + b2n x.hostLimit.isSome * 8 + b2n x.srcA * 16 + b2n x.srcB * 32 + b2n x.noSrc * 64 +
  b2n binding * 128

/-! Loss and return of a section (R210, R212). -/

/-- Effects of a section's loss and return (R213). -/
def secLossFx (s src : Nat) : List Fx := [.count Reg.alcCntBuslost 1, .start 61 s [byteOf s, 1#8, byteOf src]]
def secReturnFx (s src : Nat) : List Fx := [.ended 61 s [byteOf s, 0#8, byteOf src]]

/-- The signals at a millisecond tick: `ms` is the tick's index in its cycle, `n` the ticks since the one before. -/
def secSignals (s n ms : Nat) (di chain : Bool) (x : Section) : Section × List Fx :=
  let lost := di || chain
  let x1 := { x with lostDi := di, lostChain := chain, clear := if lost || x.inService then 0 else x.clear + n }
  if lost && x.inService then
    let src := if di && chain then 2 else if chain then 1 else 0
    ({ x1 with inService := false, detect := some ms, lossSrc := src }, secLossFx s src)
  else ({ x1 with back := if !lost && (x.lostDi || x.lostChain) && !x.inService then some ms else x1.back }, [])

/-- RETURN_TIME in ms. -/
def secReturnTime (cfg : Mem) : Nat := cfgU16 cfg 0x0A13 12 * 100

/-- The return at a cycle tick (R212), reported with the source of the loss that ends (DEDUCED, log 64): `n` counts the millisecond ticks up to this one that the return
count does not hold yet; the first tick without a signal begins RETURN_TIME. -/
def secReturn (cfg : Mem) (s n : Nat) (x : Section) : Section × List Fx :=
  if !x.inService && !(x.lostDi || x.lostChain) && decide (secReturnTime cfg + 1 ≤ x.clear + n) then
    ({ x with inService := true }, secReturnFx s x.lossSrc)
  else (x, [])

/-! Failure groups (R214, Table 8.3). -/

def grpThr (cfg : Mem) (g : Nat) : Nat := cfgU32 cfg 0x0A10 (8 * g)
def grpSection (cfg : Mem) (g : Nat) : Nat := cfgU8 cfg 0x0A10 (8 * g + 4)
def grpEnabled (cfg : Mem) (g : Nat) : Bool := bits (cfgU8 cfg 0x0A10 (8 * g + 5)) 0 1 == 1
def grpPersistMs (cfg : Mem) (g : Nat) : Nat := cfgU16 cfg 0x0A10 (8 * g + 6) * 100
def cqW (cfg : Mem) : Int := (cfgU32 cfg 0x0A13 0 : Nat)
def cqMarginW (cfg : Mem) : Int := (cfgU32 cfg 0x0A13 4 : Nat)
def cqMinAxis (cfg : Mem) : Nat := cfgU16 cfg 0x0A13 8
def cqClearMs (cfg : Mem) : Nat := cfgU16 cfg 0x0A13 10 * 100

/-- The survivors of a group (R214). -/
def grpSurvivors (cfg : Mem) (g : Nat) (thr : List ThrIn) : List ThrIn :=
  thr.filter (fun i => bits (grpThr cfg g) (i.t - 1) 1 == 0 && !(grpSection cfg g != 0xFF && thrBus cfg i.t == grpSection cfg g))

/-- φ of a section for its survivors (R216), as a numerator over 2^16. -/
def powerShare (cfg : Mem) (s : Nat) (mine : List ThrIn) (budget : Option Int) : Nat :=
  match budget with
  | none => 65536
  | some b =>
    let room := fixToRat (b - busReserve cfg s) 16
    let need := fun (phi : Nat) => mine.foldl (fun acc i =>
      acc + curveAt (curvePoints cfg i.t) (fixToRat ((thrTmaxPos cfg i.t * phi : Nat) : Int) 32)) 0
    if need 65536 ≤ room then 65536 else if room ≤ need 0 then 0 else
    (List.range 16).foldl (fun lo k => let c := lo + 2 ^ (15 - k); if need c ≤ room then c else lo) 0

/-- The rows of a survivor (Table 8.1). -/
def cqRows (cfg : Mem) (v phi : Nat) (i : ThrIn) : List AlcRow :=
  let capP := asrRound ((thrTmaxPos cfg i.t * phi : Nat) : Int) 16
  let capN := asrRound ((thrTmaxNeg cfg i.t * phi : Nat) : Int) 16
  if thrAzimuth cfg i.t then
    (List.range 8).map (fun k =>
      let th := k * 0x20000000
      let b := asrRound (toFU (thrDerate cfg i.t th capP) * cosBam 0x10000000) 30
      ⟨.upper, i.t, ⟨[(v, cosBam th), (v + 1, sinBam th)], b⟩⟩) ++
    (thrSectors cfg i.t).map (fun sec =>
      let (e, isStart) := sectorEdge sec (thrAngle cfg i).1
      let h := halfPlane e isStart
      ⟨.sector, i.t, ⟨[(v, h.1), (v + 1, h.2)], 0⟩⟩)
  else [⟨.upper, i.t, ⟨[(v, 2 ^ 30)], toFU capP⟩⟩, ⟨.lower, i.t, ⟨[(v, -(2 ^ 30))], toFU capN⟩⟩]

/-- The columns of B̃ (R215), s8.24. -/
def cqCols (cfg : Mem) (rated : Nat → Int) (ts : List Nat) : List (Int × Int × Int) :=
  (bCols cfg ts).map (fun c =>
    (divNearAway (c.1 * 2 ^ 4) (rated 0).toNat, divNearAway (c.2.1 * 2 ^ 4) (rated 1).toNat, divNearAway (c.2.2 * 2 ^ 12) (rated 2).toNat))

/-- τ̃ (R215), s8.24. -/
def cqTau (rated : Nat → Int) (tau : V3) : V3 :=
  ⟨divNearAway (tau.x * 2 ^ 8) (rated 0).toNat, divNearAway (tau.y * 2 ^ 8) (rated 1).toNat, divNearAway (tau.n * 2 ^ 12) (rated 2).toNat⟩

/-- The scenario programme over the survivors' forces and μ, the last variable. -/
def cqQp (cfg : Mem) (cols : List (Int × Int × Int)) (tt : V3) (rows : List QpRow) : Qp :=
  let w := cqW cfg; let mw := cqMarginW cfg
  let ext := cols.map (fun c => [c.1, c.2.1, c.2.2]) ++ [[-tt.x, -tt.y, -tt.n]]
  let n := ext.length
  let h := (List.range n).map (fun i => (List.range n).map (fun j =>
    let s := (List.range 3).foldl (fun a k => a + (ext.getD i []).getD k 0 * (ext.getD j []).getD k 0 * w) 0
    let d : Int := if i ≠ j then 0 else if i + 1 = n then mw * 2 ^ (qpF - 16) else 2 ^ (qpF - 8)
    asrRound s 48 * 2 ^ (qpF - 16) + d))
  let c := (List.range n).map (fun i => if i + 1 = n then -(2 * mw * 2 ^ (qpF - 16)) else 0)
  let obj := fun (u : List Int) =>
    let mu := u.getD (n - 1) 0
    let e := (List.range 3).map (fun k => asrRound (dot (ext.map (fun r => r.getD k 0)) u) 24)
    let e1 := ((u.take (n - 1)).map (fun x => x * x)).foldl (· + ·) 0
    let e2 := (e.map (fun x => x * x)).foldl (· + ·) 0
    satU 64 (asrRound (e1 * 2 ^ 8 + w * e2 + mw * (mu - 2 ^ 25) * (mu - 2 ^ 25)) 33)
  { n := n, h := h, c := c, rows := rows, obj := obj }

/-- M_g of a scenario result (R220): margin u2.14, worst axis, whether the demand is low. -/
def cqMargin (cfg : Mem) (cols : List (Int × Int × Int)) (tt : V3) (u : List Int) : Nat × Nat × Bool :=
  let f := fun (g : Int × Int × Int → Int) => asrRound (dot (cols.map g) u) 24
  let bu : V3 := ⟨f (·.1), f (·.2.1), f (·.2.2)⟩
  let axes := (List.range 3).filter (fun k => decide (cqMinAxis cfg * 2 ^ 8 ≤ (tt.get k).natAbs) && decide (tt.get k ≠ 0))
  match axes with
  | [] => (2 * 16384, 0, true)
  | _ =>
    let q := fun k => (clampI 0 (2 * 16384) (if tt.get k < 0 then divNearAway (-(bu.get k) * 16384) (tt.get k).natAbs
                                             else divNearAway (bu.get k * 16384) (tt.get k).natAbs)).toNat
    let m := axes.foldl (fun a k => if q k < a.1 then (q k, k) else a) (q (axes.headD 0), axes.headD 0)
    (m.1, m.2, false)

/-- Timers and alarm of a group after its margin stands (R221). `released`: the previous cycle's outputs were released. -/
def cqTimers (pms : Nat) (released : Bool) (x : Group) : Group :=
  if !released then x
  else if x.margin < 16384 then { x with pers := satN 32 (x.pers + pms), clear := 0 }
  else { x with pers := 0, clear := satN 32 (x.clear + pms) }

def cqDetail (g : Nat) (start : Bool) (x : Group) : List Byte := [byteOf g, if start then 1#8 else 0#8] ++ u16 x.margin ++ [byteOf x.worst]

/-- Alarm start (R221). -/
def cqAlarmStart (cfg : Mem) (g : Nat) (x : Group) : Group × List Fx :=
  if !x.alarm && decide (grpPersistMs cfg g < x.pers) then
    ({ x with alarm := true }, [.count Reg.alcCntCqalarm 1, .start 60 g (cqDetail g true x)])
  else (x, [])

/-- Alarm end (R221). -/
def cqAlarmEnd (cfg : Mem) (g : Nat) (x : Group) : Group × List Fx :=
  if x.alarm && decide (x.margin ≥ 16384) && decide (cqClearMs cfg ≤ x.clear) then ({ x with alarm := false }, [.ended 60 g (cqDetail g false x)]) else (x, [])

def cqJudge (cfg : Mem) (g pms : Nat) (released : Bool) (x : Group) : Group × List Fx :=
  let x1 := cqTimers pms released x
  let (x2, f1) := cqAlarmStart cfg g x1
  let (x3, f2) := cqAlarmEnd cfg g x2
  (x3, f1 ++ f2)

/-- A group put to OFF or IDLE (R222): timers 0, an active alarm ends, and its next start is COLD (R196, R217). -/
def cqRest (g state : Nat) (x : Group) : Group × List Fx :=
  ({ x with state := state, pers := 0, clear := 0, alarm := false, prev := none, done := true }, if x.alarm then [.ended 60 g (cqDetail g false x)] else [])

/-- Solves forgotten with the entry to STANDBY: the next ones are COLD (R196, R204, R217). -/
def alcForget (a : Alc) : Alc := { a with prev := none, groups := a.groups.map (fun x => { x with prev := none }) }

/-- The scenario of a group (R215 to R217), ended by `limit` iterations or at `guard` iterations by the output deadline (reason GUARD). -/
def cqSolve (cfg : Mem) (rated : Nat → Int) (g : Nat) (p : AlcProb) (limit guard : Nat) (x : Group) : Group × List Fx :=
  let thr := grpSurvivors cfg g p.thr
  if thr.isEmpty then ({ x with margin := 0, state := 5, iters := 0, reason := 6, prev := none, done := true }, []) else
  let ts := thr.map (·.t)
  let tab := alcTableCrc cfg
  let phi := fun (t : Nat) =>
    let s := thrBus cfg t
    if 7 < s then 65536 else powerShare cfg s (thr.filter (fun i => thrBus cfg i.t == s)) (p.budgets.getD s none)
  let rows := thr.flatMap (fun i => cqRows cfg (varIndex cfg ts i.t) (phi i.t) i)
  let nv := (ts.map (thrVars cfg)).foldl (· + ·) 0
  let qrows := rows.map (·.row) ++ [⟨[(nv, 2 ^ 30)], 2 * 2 ^ 24⟩, ⟨[(nv, -(2 ^ 30))], 0⟩]
  let sig := alcSignature tab ts qrows.length 0
  let kind := startKind x.prev sig tab ts
  let start := flatForces cfg ts (startForces cfg kind x.prev thr)
  let mu0 := match kind, x.prev with
    | 2, _ => 0
    | _, some pr => min pr.mu (2 * 2 ^ 24)
    | _, none => 0
  let cols := cqCols cfg rated ts
  let tt := cqTau rated p.tau
  let q := cqQp cfg cols tt qrows
  let u0 := project cfg ts rows start ++ [mu0]
  let bind := qpBinding q u0
  let rebuild := match kind, x.prev with
    | 0, some pr => bind.filter (fun j => pr.work.contains j)
    | 1, _ => bind
    | _, _ => []
  let r := qpSolve q u0 rebuild limit guard
  let reason := r.reason.getD 1
  let (m, worst, low) := cqMargin cfg cols tt (r.best.take nv)
  let state := if low then 6 else if reason = 2 then 4 else if reason = 0 then 2 else 3
  let pv : Prev := { u := unflatForces cfg ts r.best, work := r.work, sig := sig, tab := tab, avail := ts, kind := kind, mu := r.best.getD nv 0 }
  ({ x with margin := m, state := state, worst := worst, reason := reason, iters := r.iters, prev := some pv, done := true }, qpEffects r.notes)

/-- The groups of a lane (R218): group g on lane 1 + g mod 3. -/
def laneGroups (cfg : Mem) (lane : Nat) : List Nat := (List.range 16).filter (fun g => 1 + g % 3 == lane && grpEnabled cfg g)

/-- The iteration limit of each group of a lane (R218). -/
def laneLimit (cfg : Mem) (p : AlcProb) (lane : Nat) : Nat :=
  let n := (laneGroups cfg lane).length
  if n = 0 then 0 else p.laneBudget / n

/-- The worst group of Table 8.7: lowest M_g among groups with a margin, lower number on ties; 0xFF none. -/
def worstGroup (gs : List Group) : Nat :=
  let c := (gs.zipIdx).filter (fun x => decide (2 ≤ x.1.state))
  match c with
  | [] => 0xFF
  | y :: ys => (ys.foldl (fun a x => if x.1.margin < a.1.margin then x else a) y).2

def cqAlarmMask (gs : List Group) : Nat := bitmap 16 (fun g => (gs.getD g {}).alarm)

/-- ALC_CQ_STAT_g. -/
def cqStat (x : Group) : Nat := x.margin + x.state * 2 ^ 16 + b2n x.alarm * 2 ^ 19 + x.worst * 2 ^ 20 + x.reason * 2 ^ 22

/-- Table 8.7. -/
def cqBytes (num : Nat) (a : Alc) : List Byte :=
  u64 num ++ u16 (cqAlarmMask a.groups) ++ [byteOf (worstGroup a.groups)] ++ zeros 5 ++
  a.groups.flatMap (fun x => u16 x.margin ++ [byteOf x.state, byteOf (b2n x.alarm + 2 * x.worst)] ++ u16 (satN 16 x.iters) ++ [byteOf x.reason, 0#8] ++
    u32 x.pers ++ u32 x.clear) ++
  (a.secs.zipIdx).flatMap (fun p => u16 (secStat p.1 (bits a.res.powerBind p.2 1 == 1)) ++ u16 0 ++ u32 (budgetWord p.1.budget))

end Sys2Proof.Machine
end

