-- ==== Sys2Proof/Machine/Control.lean ====
section
/-! DEFINITION. The control law (chapter 06): errors, law, wind feed-forward, joystick, Traverse, transfers, oscillation detector. -/

namespace Sys2Proof.Machine

/-- What the control law reads from the rest of the module in a cycle: tick (MONO ns), period in ms, the fused solution at the tick with its
velocities, DR and INIT flags, τ_sat of the output set in force, whether the previous cycle's outputs were released, the voted wind (angle,
speed) and draught (fore, aft) where their held values are not void. -/
structure LawIn where
  tick : Nat
  pms : Nat
  n : Int
  e : Int
  psi : Int
  u : Int
  v : Int
  r : Int
  init : Bool
  drPos : Bool
  drHdg : Bool
  tauSat : V3
  released : Bool
  wind : Option (Int × Int)
  draught : Option (Int × Int)
  deriving DecidableEq, Repr

/-- Kind of an axis in a mode (Table 6.1). -/
inductive AxisKind where
  | off
  | manual
  | auto
  deriving DecidableEq, Repr

def axisKind (mode d : Nat) : AxisKind :=
  match mode with
  | 0 => .off
  | 1 => .manual
  | 2 => if d = 2 then .auto else .manual
  | _ => .auto

/-- The period in seconds as u0.32 (R154). -/
def periodU32 (pms : Nat) : Int := divNearAway ((pms * 2 ^ 32 : Nat) : Int) 1000

/-- Fraction bits of τ on an axis: s16.16 kN, s20.12 kN·m (R154). -/
def tauFr (d : Nat) : Nat := if d = 2 then 12 else 16

def ctlRated (cfg : Mem) (d : Nat) : Int := (cfgU32 cfg 0x0900 (4 * d) : Nat)
def ctlGain (cfg : Mem) (gs d k : Nat) : Int := (cfgU32 cfg 0x0901 (48 * gs + 16 * d + 4 * k) : Nat)
def ctlIntLimit (cfg : Mem) : Int := (cfgU16 cfg 0x0902 0 : Nat)
def ctlCmdLimit (cfg : Mem) : Int := (cfgU16 cfg 0x0902 2 : Nat)
def ctlTransferLimit (cfg : Mem) : Int := (cfgU16 cfg 0x0902 4 : Nat)
def ctlHandoverMs (cfg : Mem) : Nat := cfgU16 cfg 0x0902 6
def ctlJoyTimeoutMs (cfg : Mem) : Nat := cfgU16 cfg 0x0902 8
def ctlFfEnable (cfg : Mem) : Bool := bits (cfgU16 cfg 0x0902 10) 0 1 == 1
def ctlJoyFf (cfg : Mem) : Bool := bits (cfgU16 cfg 0x0902 10) 1 1 == 1
def ctlOscStep (cfg : Mem) : Bool := bits (cfgU16 cfg 0x0902 10) 2 1 == 1

/-- `x` of the vessel frame at heading `psi` from north and east, both with 32 fraction bits, to s16.16 (R153). -/
def toVesselX (psi dn de : Int) : Int := satS 32 (asrRound (cosBam (bamOf psi) * dn + sinBam (bamOf psi) * de) 46)
def toVesselY (psi dn de : Int) : Int := satS 32 (asrRound (cosBam (bamOf psi) * de - sinBam (bamOf psi) * dn) 46)

/-! The Traverse (R160 to R163). -/

/-- Σ of the profile's jerk switches: the switch times in 2^−32 s with their signs. -/
def travSwitches (p : Trav) : List (Int × Nat) :=
  let a := p.tj; let b := p.tc; let c := p.tv
  [(1, 0), (-1, a), (-1, a + b), (1, 2 * a + b), (-1, 2 * a + b + c), (1, 3 * a + b + c), (1, 3 * a + 2 * b + c), (-1, 4 * a + 2 * b + c)]

/-- T of R161 in 2^−32 s. -/
def travT (p : Trav) : Nat := 4 * p.tj + 2 * p.tc + p.tv

/-- Tj·(Tj + Tc)·(2·Tj + Tc + Tv) in 2^−96 s³: 1 / j' of R161. -/
def travD (p : Trav) : Nat := p.tj * (p.tj + p.tc) * (2 * p.tj + p.tc + p.tv)

def travSum (p : Trav) (k : Nat) : Int :=
  (travSwitches p).foldl (fun acc s => acc + s.1 * (((p.el - s.2) ^ k : Nat) : Int) * (if s.2 ≤ p.el then 1 else 0)) 0

/-- s of a profile at its elapsed time, s2.30; exactly 1 from T on (R161). -/
def travS (p : Trav) : Int := if travT p ≤ p.el then 2 ^ 30 else divNearAway (travSum p 3 * 2 ^ 30) (6 * travD p)

/-- ṡ in 1/s, s2.30. -/
def travS1 (p : Trav) : Int := if travT p ≤ p.el then 0 else divNearAway (travSum p 2 * 2 ^ 62) (2 * travD p)

/-- s̈ in 1/s², s2.30. -/
def travS2 (p : Trav) : Int := if travT p ≤ p.el then 0 else divNearAway (travSum p 1 * 2 ^ 94) (travD p)

def travDone (p : Trav) : Bool := travT p ≤ p.el

/-- The target at the profiles' present times: the move's start point plus every displacement scaled by its own s (R163). -/
def ctlTarget (c : Ctl) : Int × Int × Int :=
  if c.trav.isEmpty then (c.n, c.e, c.psi) else
  let f := fun (g : Trav → Int) => c.trav.foldl (fun acc p => acc + asrRound (g p * travS p) 30) 0
  (satS 64 (c.travN + f (·.dn)), satS 64 (c.travE + f (·.de)), (unsigned 32 (c.travPsi + f (·.dpsi)) : Nat))

/-- The final target of the running profiles (R163). -/
def ctlFinal (c : Ctl) : Int × Int × Int :=
  if c.trav.isEmpty then (c.n, c.e, c.psi) else
  let f := fun (g : Trav → Int) => c.trav.foldl (fun acc p => acc + g p) 0
  (satS 64 (c.travN + f (·.dn)), satS 64 (c.travE + f (·.de)), (unsigned 32 (c.travPsi + f (·.dpsi)) : Nat))

/-- The reference velocities u_ref, v_ref (s8.24) and r_ref (s4.28): the profile velocities rotated at ψ_tick (R153). -/
def ctlRef (c : Ctl) (psi : Int) : V3 :=
  let f := fun (g : Trav → Int) => c.trav.foldl (fun acc p => acc + g p * travS1 p) 0
  let vn := f (·.dn); let ve := f (·.de)
  let cs := cosBam (bamOf psi); let sn := sinBam (bamOf psi)
  ⟨satS 32 (asrRound (cs * vn + sn * ve) 68), satS 32 (asrRound (cs * ve - sn * vn) 68), satS 32 (asrRound (f (·.dpsi) * kRad) 62)⟩

/-- A configured limit of CTL_TRAVERSE: axis 0 to 2, quantity 0 V, 1 A, 2 J. -/
def travLimit (cfg : Mem) (d q : Nat) : Rat := fixToRat ((cfgU32 cfg 0x0904 (12 * d + 4 * q) : Nat) : Int) 16

/-- |Δ| of a profile on an axis: m, m, degrees (R160). -/
def travMag (p : Trav) (d : Nat) : Rat :=
  match d with
  | 0 => fixToRat (p.dx.natAbs : Nat) 16
  | 1 => fixToRat (p.dy.natAbs : Nat) 16
  | _ => fixToRat ((p.dpsi.natAbs * 360 : Nat) : Int) 32

/-- The largest magnitude of ṡ, s̈ or jerk (q = 0, 1, 2) that a profile still reaches after its elapsed time (R163). -/
def travPeak (p : Trav) (q : Nat) : Rat :=
  if travDone p then 0 else
  let d : Rat := (travD p : Nat)
  match q with
  | 0 => if p.el ≤ 2 * p.tj + p.tc + p.tv then (((2 ^ 32 * (p.tj * (p.tj + p.tc))) : Nat) : Rat) / d else fixToRat (travS1 p).natAbs 30
  | 1 => if p.el ≤ 3 * p.tj + 2 * p.tc + p.tv then ((2 ^ 64 * p.tj : Nat) : Rat) / d else fixToRat (travS2 p).natAbs 30
  | _ => ((2 ^ 96 : Nat) : Rat) / d

/-- The limit of a new profile on an axis: the configured limit less what running profiles still reach, floored at 10 % (R163). -/
def travRoom (cfg : Mem) (run : List Trav) (d q : Nat) : Rat × Bool :=
  let lim := travLimit cfg d q
  let left := lim - run.foldl (fun acc p => acc + travMag p d * travPeak p q) 0
  if left < lim / 10 then (lim / 10, true) else (left, false)

def ratMin (xs : List Rat) : Rat := match xs with
  | [] => 0
  | x :: xs => xs.foldl (fun a b => if b < a then b else a) x

/-- P·ceil(x / P) for a duration in seconds, in 2^−32 s, P being the period of R154 as u0.32. -/
def ceilP (pms : Nat) (q : Rat) : Nat := (periodU32 pms).toNat * ((q * ((2 ^ 32 : Nat) : Rat) / (((periodU32 pms).toNat : Nat) : Rat)).ceil.toNat)

/-- Durations of a profile (R161) from the normalised limits: Tj, Tc, Tv in 2^−32 s. -/
def travTimes (pms : Nat) (v a j : Rat) : Nat × Nat × Nat :=
  let step1 : Rat × Rat := if a * a ≤ v * j then (a / j, v / a - a / j) else (ratSqrt (v / j), 0)
  let r : Rat × Rat × Rat :=
    if 1 < v * (2 * step1.1 + step1.2) then
      let v' := (ratSqrt (a * a * a * a / (j * j) + 4 * a) - a * a / j) / 2
      if a * a ≤ v' * j then (a / j, v' / a - a / j, v')
      else let tj := ratCbrt (1 / (2 * j)); (tj, 0, j * tj * tj)
    else (step1.1, step1.2, v)
  let tv := 1 / r.2.2 - (2 * r.1 + r.2.1)
  (Nat.max (periodU32 pms).toNat (ceilP pms r.1), ceilP pms r.2.1, if tv < 0 then 0 else ceilP pms tv)

/-- A duration of R161 in ms. -/
def travMs (x : Nat) : Nat := (divNearAway ((x * 1000 : Nat) : Int) (2 ^ 32)).toNat

/-- Start a profile toward a target (R160, R161, R163): the new state and T in ms; no profile where nothing moves. -/
def travStart (cfg : Mem) (pms tick : Nat) (c : Ctl) (n1 e1 psi1 : Int) : Ctl × Nat × List Fx :=
  let (n0, e0, _) := ctlFinal c
  let psiF := (ctlFinal c).2.2
  let psi0 := (ctlTarget c).2.2
  let dn := n1 - n0; let de := e1 - e0; let dpsi := bamDiff psi1 psiF
  let p0 : Trav := ⟨n0, e0, psi0, dn, de, dpsi, toVesselX psi0 dn de, toVesselY psi0 dn de, 0, 0, 0, 0, true⟩
  let axes := (List.range 3).filter (fun d => 0 < travMag p0 d)
  if axes.isEmpty then (c, 0, []) else
  let room := fun q => ratMin (axes.map (fun d => (travRoom cfg c.trav d q).1 / travMag p0 d))
  let floored := c.trav.any (fun p => !travDone p) && axes.any (fun d => (List.range 3).any (fun q => (travRoom cfg c.trav d q).2))
  let zeroLim := axes.any (fun d => (List.range 3).any (fun q => travLimit cfg d q = 0))
  let times := if zeroLim then
      let f := fun k => (periodU32 pms).toNat * (1 + Config.freeNat 30 [k, dn, de, dpsi]); (f 0, f 1, f 2)
    else travTimes pms (room 0) (room 1) (room 2)
  let p := { p0 with tj := times.1, tc := times.2.1, tv := times.2.2 }
  let c := if c.trav.isEmpty then { c with travN := n0, travE := e0, travPsi := psi0, travStart := tick } else c
  ({ c with trav := c.trav ++ [p], mode := 4 }, travMs (travT p), if floored then [.flag Reg.ctlStatus 5] else [])

/-! The law (R153 to R155). -/

/-- e_x, e_y (s16.16 m) and e_ψ (s4.28 rad) against a target. -/
def ctlErr (i : LawIn) (tn te tpsi : Int) : V3 :=
  ⟨toVesselX i.psi (tn - i.n) (te - i.e), toVesselY i.psi (tn - i.n) (te - i.e), bamToRad (bamDiff tpsi i.psi) 28⟩

/-- ė_x, ė_y, ė_ψ against reference velocities. -/
def ctlErrDot (i : LawIn) (ref : V3) : V3 := ⟨satS 32 (ref.x - i.u), satS 32 (ref.y - i.v), satS 32 (ref.n - i.r)⟩

/-- Whether an axis's integrator is frozen (R155). -/
def ctlFrozen (i : LawIn) (d : Nat) : Bool := !i.released || (if d = 2 then i.drHdg else i.drPos)

/-- ±INT_LIMIT × rated in the integrator's format (s16.48, s20.44). -/
def intBound (cfg : Mem) (d : Nat) : Int := ctlIntLimit cfg * ctlRated cfg d * 2 ^ (tauFr d + 16)

/-- ±CMD_LIMIT × rated in τ's format. -/
def cmdBound (cfg : Mem) (d : Nat) : Int := toFrac 15 (tauFr d) (ctlCmdLimit cfg * ctlRated cfg d)

/-- i_k of an axis and whether it was clamped or saturated (R154). -/
def ctlInteg (cfg : Mem) (i : LawIn) (gs d : Nat) (i0 e tauLaw tauSat : Int) : Int × Bool :=
  if ctlFrozen i d then (i0, false) else
  let ki := ctlGain cfg gs d 2 * e
  let kt := ctlGain cfg gs d 3 * satS 32 (tauSat - tauLaw)
  let sum := if d = 2 then ki + kt else ki * 256 + kt
  let i1 := i0 + asrRound (periodU32 i.pms * sum) 24
  let b := intBound cfg d
  let i2 := clampI (-b) b (satS 64 i1)
  (i2, i2 ≠ i1)

/-- kp·e + kd·ė + i + τ_ff + h, summed in that order, each sum saturating (R154). -/
def ctlSum (cfg : Mem) (gs d : Nat) (e ed integ ff h : Int) : Int × Bool :=
  let p := asrRound (ctlGain cfg gs d 0 * e) (if d = 2 then 24 else 16)
  let v := asrRound (ctlGain cfg gs d 1 * ed) 24
  let terms := [p, v, asrRound integ 32, ff, h]
  terms.foldl (fun acc t => let s := acc.1 + t; (satS 32 s, acc.2 || decide (satS 32 s ≠ s))) (0, false)

/-- The joystick fraction left by the ramp of R152, as a rational. -/
def joyScale (cfg : Mem) (c : Ctl) (tick : Nat) : Rat :=
  match c.ramp with
  | none => 1
  | some t0 =>
    let el := tick - t0; let full := ctlHandoverMs cfg * 1000000
    if full ≤ el then 0 else ((full - el : Nat) : Rat) / ((full : Nat) : Rat)

/-- The force of a manual axis (R151): fraction × rated, scaled by a running ramp, with τ_ff where JOY_FF is 1. -/
def joyForce (cfg : Mem) (c : Ctl) (tick d : Nat) (ff : Int) : Int :=
  let f := ratToFix (fixToRat (c.joy.get d * ctlRated cfg d) 15 * joyScale cfg c tick) (tauFr d)
  satS 32 (f + (if ctlJoyFf cfg then ff else 0))

/-- h of an axis `n` cycles on (R166): toward zero by at most its step in each. -/
def Resid.after (n : Nat) (r : Resid) : Resid :=
  let left := r.h.natAbs - n * r.step
  { r with h := if r.h < 0 then -(left : Int) else (left : Int) }

def residGet (c : Ctl) (d : Nat) : Int := (c.res.getD d {}).h

/-- The step of a residual (R166): `size` × P / HANDOVER_TIME, P as u0.32 s (R154), the quotient rounded as R122 states, at least one step of the
format, since a residual ends (DEDUCED, log 74). HANDOVER_TIME 0 is no ramp. -/
def residStep (cfg : Mem) (pms size : Nat) : Nat :=
  if ctlHandoverMs cfg = 0 then 2 ^ 32 else
    Nat.max 1 (divNearAway ((size : Int) * periodU32 pms * 1000) (ctlHandoverMs cfg * 2 ^ 32)).toNat

/-! Wind feed-forward (R157, R158). -/

/-- C of an axis at an angle (R157): axis 0 x, 1 y, 2 n; s4.28. -/
def windCoef (cfg : Mem) (d ang : Nat) : Int :=
  let g := ang * 36
  let k := g / 2 ^ 32
  let f : Int := (g % 2 ^ 32 : Nat)
  let at_ := fun k => cfgS32 cfg 0x0903 (32 + 144 * d + 4 * (k % 36))
  at_ k + asrRound ((at_ (k + 1) - at_ k) * f) 32

/-- F_w from the filtered wind and the draught. -/
def windForce (cfg : Mem) (fx fy : Int) (draught : Option (Int × Int)) : V3 :=
  let w := fun k => ((cfgU32 cfg 0x0903 (4 * k) : Nat) : Int)
  let vbar : Int := (isqrt ((fx * fx + fy * fy).toNat) : Nat)
  let ang := atan2 fy fx
  let t := match draught with
    | none => w 6
    | some (f, a) => asrRound (f + a) 1
  let ax := w 2 - asrRound (w 5 * (t - w 6)) 16
  let ay := w 3 - asrRound (w 4 * (t - w 6)) 16
  let q := w 1 * vbar * vbar
  ⟨satS 32 (divNearAway (q * ax * windCoef cfg 0 ang) (2000 * 2 ^ 76)), satS 32 (divNearAway (q * ay * windCoef cfg 1 ang) (2000 * 2 ^ 76)),
   satS 32 (divNearAway (q * ay * w 4 * windCoef cfg 2 ang) (2000 * 2 ^ 96))⟩

/-- The first-order filter's step on a component. -/
def windFilter (cfg : Mem) (pms : Nat) (f w : Int) : Int :=
  let tc := cfgU32 cfg 0x0903 28
  if tc = 0 then satS 32 (Config.freeInt 31 [f, w]) else satS 32 (f + divNearAway ((w - f) * periodU32 pms) (tc * 2 ^ 16))

/-- −FF_GAIN × F_w where FF_ENABLE is 1. -/
def windFf (cfg : Mem) (fw : V3) : V3 :=
  if ctlFfEnable cfg then V3.of (fun d => satS 32 (-(asrRound (((cfgU32 cfg 0x0903 0 : Nat) : Int) * fw.get d) 16))) else {}

/-- The wind force while the source is lost (R158): held for 10 s from the first cycle without it, then down to zero over 10 s. -/
def windFade (c : Ctl) (tick : Nat) : V3 :=
  match c.windAt with
  | none => {}
  | some t0 =>
    let el := tick - t0
    if el ≤ 10000000000 then c.fwHold
    else if 20000000000 ≤ el then {}
    else V3.of (fun d => divNearAway (c.fwHold.get d * ((20000000000 - el : Nat) : Int)) 10000000000)

/-- The wind feed-forward of a cycle (R157, R158). A lost source leaves the filter its last inputs. -/
def windStep (cfg : Mem) (i : LawIn) (c : Ctl) : Ctl × List Fx :=
  let inp : Int × Int := match i.wind with
    | some (ang, spd) => (asrRound (spd * cosBam (bamOf ang)) 30, asrRound (spd * sinBam (bamOf ang)) 30)
    | none => (c.wx, c.wy)
  let fx := windFilter cfg i.pms c.fx inp.1
  let fy := windFilter cfg i.pms c.fy inp.2
  let now := windForce cfg fx fy i.draught
  let c1 : Ctl := { c with wx := inp.1, wy := inp.2, fx := fx, fy := fy }
  if i.wind.isSome then
    ({ c1 with fw := now, fwHold := now, windAt := none, windLost := false, tauFf := windFf cfg now }, if c.windLost then [.ended 55 0 [0#8]] else [])
  else
    let t0 := c.windAt.getD i.tick
    let c2 : Ctl := { c1 with windAt := some t0, fwHold := if i.tick - t0 ≤ 10000000000 then now else c.fwHold }
    let fw := windFade c2 i.tick
    ({ c2 with fw := fw, windLost := true, tauFf := windFf cfg fw }, if c.windLost then [] else [.start 55 0 [1#8]])

/-! Transfers (R164 to R166). -/

/-- Seen with the target of a mode: the entry to STATION or JOY_HEADING takes the fused position and heading (R149); a change from TRAVERSE
freezes the target and ends every profile. -/
def ctlEnter (i : LawIn) (c : Ctl) (mode : Nat) : Ctl :=
  let (tn, te, tp) := ctlTarget c
  let c1 := { c with n := tn, e := te, psi := tp, trav := [] }
  if (mode = 2 ∨ mode = 3) ∧ c.mode ≠ 3 ∧ c.mode ≠ 4 then { c1 with mode := mode, n := i.n, e := i.e, psi := i.psi } else { c1 with mode := mode }

/-- The law of an axis in a mode and gain set from the state `c` (whose target, profiles, joystick and integrators stand), with residual h:
(i_k, τ_law, ISAT, saturation). The integrator of an axis that became automatic in this cycle is i_k itself, without an update (R164). -/
def ctlAxis (cfg : Mem) (i : LawIn) (c : Ctl) (mode gs d : Nat) (integ h : Int) : Int × Int × Bool × Bool :=
  match axisKind mode d with
  | .off => (0, 0, false, false)
  | .manual =>
    (0, satS 32 (joyForce cfg c i.tick d (c.tauFf.get d) + h), false, false)
  | .auto =>
    let (tn, te, tp) := ctlTarget c
    let e := (ctlErr i tn te tp).get d
    let ed := (ctlErrDot i (if mode = 4 then ctlRef c i.psi else {})).get d
    let (ik, isat) := if bits c.newAuto d 1 = 1 then (integ, false) else ctlInteg cfg i gs d integ e (c.tauLaw.get d) (i.tauSat.get d)
    let (t, sat) := ctlSum cfg gs d e ed ik (c.tauFf.get d) h
    (ik, t, isat, sat)

/-- The result of evaluating a transfer: the state entered, Δ per axis, whether some |Δ| is above the limit. -/
def ctlEvaluate (cfg : Mem) (i : LawIn) (c : Ctl) (mode gs : Nat) : Ctl × V3 × Bool :=
  let c1 := if mode = c.mode then c else ctlEnter i c mode
  let carry := fun d => if axisKind c.mode d = .auto ∧ axisKind mode d = .auto then c.integ.get d else 0
  let auto := fun d => decide (axisKind mode d = .auto) && (decide (axisKind c.mode d ≠ .auto) || bits c.newAuto d 1 == 1)
  let c2 := { c1 with gainSet := gs, integ := V3.of carry, newAuto := bitmap 3 auto }
  let delta := V3.of (fun d => c.tauCmd.get d - (ctlAxis cfg i c2 mode gs d (c2.integ.get d) 0).2.1)
  let exceeds := (List.range 3).any (fun d => toFrac 16 (tauFr d) (ctlTransferLimit cfg * ctlRated cfg d) < (delta.get d).natAbs)
  (c2, delta, exceeds)

/-- i + Δ of an automatic axis, before its bound (R166). -/
def bumped (c : Ctl) (delta : V3) (d : Nat) : Int := c.integ.get d + delta.get d * 2 ^ 32

/-- Whether a transfer clamps some integrator (R166), which sets ISAT (R154). -/
def ctlBumpClamps (cfg : Mem) (c : Ctl) (delta : V3) : Bool :=
  (List.range 3).any (fun d => axisKind c.mode d = .auto && decide (intBound cfg d < (bumped c delta d).natAbs))

/-- Bumpless entry (R166): the integrators of automatic axes take Δ up to their bound, h the rest; `limited` steps h at the limit's rate. -/
def ctlBumpless (cfg : Mem) (i : LawIn) (c : Ctl) (delta : V3) (limited : Bool) : Ctl :=
  let integ := V3.of (fun d =>
    if axisKind c.mode d = .auto then clampI (-(intBound cfg d)) (intBound cfg d) (bumped c delta d)
    else 0)
  let res := (List.range 3).map (fun d =>
    let h := if axisKind c.mode d = .auto then delta.get d - asrRound (integ.get d - c.integ.get d) 32 else delta.get d
    let size := if limited then (toFrac 16 (tauFr d) (ctlTransferLimit cfg * ctlRated cfg d)).toNat else h.natAbs
    { h := h, step := residStep cfg i.pms size : Resid })
  { c with integ := integ, res := res, moved := true }

/-- A cleared oscillation window (R167). -/
def oscClear (o : OscAxis) : OscAxis := { o with sign := 1, peakPos := 0, peakNeg := 0, seen := false, win := [] }

def oscClearAll (c : Ctl) : Ctl := { c with osc := c.osc.map oscClear }

/-- Since which tick some axis has been manual (R152). Without a manual axis no ramp runs, so the timeout of the next one is new. -/
def ctlManual (tick : Nat) (c : Ctl) : Ctl :=
  if (List.range 3).any (fun d => axisKind c.mode d = .manual) then
    (match c.manualSince with
     | some _ => c
     | none => { c with manualSince := some tick })
  else { c with manualSince := none, ramp := none }

def modeEvent (old new gs cause : Nat) : Fx := .event 48 [byteOf old, byteOf new, byteOf gs, byteOf cause]

/-- DP_SET_MODE at its effective tick (R148, R164 to R166): state, whether executed, Δ, effects. `gs` 0xFF keeps the set. -/
def ctlSetMode (cfg : Mem) (i : LawIn) (c : Ctl) (mode0 gs0 : Nat) (force : Bool) : Ctl × Bool × V3 × List Fx :=
  let mode := if 4 < mode0 then Config.freeNat 32 [mode0] % 5 else mode0
  let gs := if gs0 = 0xFF then c.gainSet else if 3 < gs0 then Config.freeNat 33 [gs0] % 4 else gs0
  if mode = 4 then (c, false, {}, []) else
  if mode = 0 then
    let c1 := { ctlEnter i c 0 with gainSet := gs, integ := {}, res := [{}, {}, {}] }
    let fx := if c.mode = 0 ∧ gs = c.gainSet then [] else [modeEvent c.mode 0 gs 0]
    ((if c.mode = 0 then c1 else oscClearAll c1) |> ctlManual i.tick, true, {}, fx)
  else if mode = c.mode ∧ gs = c.gainSet then (c, true, {}, [])
  else if (mode = 2 ∨ mode = 3) ∧ mode ≠ c.mode ∧ i.init then (c, false, {}, [])
  else
    let (c2, delta, exceeds) := ctlEvaluate cfg i c mode gs
    if mode ≠ c.mode ∧ exceeds ∧ !force then (c, false, delta, [.count Reg.ctlCntRefused 1])
    else
      let forced := mode ≠ c.mode && exceeds
      let c3 := ctlBumpless cfg i c2 delta exceeds
      let c4 := if mode = c.mode then c3 else oscClearAll c3
      let fx := (if ctlBumpClamps cfg c2 delta then [Fx.flag Reg.ctlStatus 1] else []) ++
        (if forced then [.flag Reg.ctlStatus 3, .count Reg.ctlCntForced 1, .event 49 delta.bytes] else [])
      (ctlManual i.tick c4, true, delta, fx ++ [modeEvent c.mode mode gs 0])

/-- DP_SET_TARGET (R150): refused where the mode or the step forbids it. -/
def ctlSetTarget (cfg : Mem) (c : Ctl) (n e psi : Int) (mask : Nat) : Ctl × Bool :=
  if c.mode ≠ 2 ∧ c.mode ≠ 3 then (c, false) else
  let pos := bits mask 0 1 == 1 && c.mode == 3
  let hdg := bits mask 1 1 == 1
  let dn := n - c.n; let de := e - c.e
  let lim : Int := ((cfgU32 cfg 0x0902 12 : Nat) : Int) * 2 ^ 16
  let farPos := pos && decide (lim * lim < dn * dn + de * de)
  let farHdg := hdg && decide ((cfgU32 cfg 0x0902 16 * 2 ^ 16 : Nat) < 360 * (bamDiff psi c.psi).natAbs)
  if farPos || farHdg then (c, false) else
  ({ c with n := if pos then n else c.n, e := if pos then e else c.e, psi := if hdg then ((bamOf psi : Nat) : Int) else c.psi }, true)

/-- DP_TRAVERSE (R160 to R163). -/
def ctlTraverse (cfg : Mem) (i : LawIn) (c : Ctl) (n e psi : Int) : Ctl × Bool × Nat × List Fx :=
  if (c.mode ≠ 3 ∧ c.mode ≠ 4) ∨ 4 ≤ (c.trav.filter (fun p => !travDone p)).length then (c, false, 0, []) else
  let (c1, t, fx) := travStart cfg i.pms i.tick c n e psi
  let c2 := if c1.mode = c.mode then c1 else oscClearAll c1
  (c2, true, t, fx ++ (if c1.mode = c.mode then [] else [modeEvent c.mode c1.mode c.gainSet 0]))

/-- DP_JOYSTICK (R151, R152). -/
def ctlJoystick (tick : Nat) (c : Ctl) (x y n : Int) : Ctl × Bool :=
  if c.mode = 0 then (c, false) else ({ c with joy := ⟨x, y, n⟩, joyAt := some tick, ramp := none }, true)

/-- Take or release of command (R146): a null result is a refusal. `twoHand` is R147's condition. -/
def ctlTake (c : Ctl) (idx : Nat) (who : Ident) (force twoHand : Bool) : Ctl × Bool × List Fx :=
  if !twoHand then (c, false, []) else
  match c.holder with
  | none => ({ c with holder := some (idx, who) }, true, [.event 54 [0xFF#8, byteOf idx, 0#8]])
  | some (j, w) =>
    if w = who then (c, true, [])
    else if force then ({ c with holder := some (idx, who) }, true, [.event 54 [byteOf j, byteOf idx, 1#8]])
    else (c, false, [])

def ctlRelease (c : Ctl) (who : Ident) : Ctl × Bool × List Fx :=
  match c.holder with
  | some (j, w) => if w = who then ({ c with holder := none }, true, [.event 54 [byteOf j, 0xFF#8, 0#8]]) else (c, false, [])
  | none => (c, false, [])

/-! The steps of R170 after the host actions. -/

/-- The joystick timeout (R152). -/
def joyTimeoutStep (cfg : Mem) (tick : Nat) (c : Ctl) : Ctl × List Fx :=
  match c.manualSince, c.ramp with
  | some m, none =>
    let from_ := match c.joyAt with
      | some j => Nat.max j m
      | none => m
    if ctlJoyTimeoutMs cfg * 1000000 ≤ tick - from_ then
      ({ c with ramp := some tick }, [.flag Reg.ctlStatus 4, .event 52 (u32 ((tick - (c.joyAt.getD m)) / 1000000))])
    else (c, [])
  | _, _ => (c, [])

/-- Profile advance (R162): profile time moves on by the period in a cycle whose previous outputs were released. A profile is at time 0 at the tick at
which it starts (DEDUCED, log 62). -/
def travAdvance (i : LawIn) (c : Ctl) : Ctl :=
  { c with trav := c.trav.map (fun p =>
      if p.fresh then { p with fresh := false } else if i.released then { p with el := Nat.min (p.el + (periodU32 i.pms).toNat) (travT p) } else p) }

/-- Traverse completion (R162): every profile at s = 1. -/
def travFinish (tick : Nat) (c : Ctl) : Ctl × List Fx :=
  if c.mode = 4 ∧ c.trav.all travDone ∧ ¬ c.trav.isEmpty then
    let (tn, te, tp) := ctlFinal c
    (oscClearAll { c with n := tn, e := te, psi := tp, trav := [], mode := 3 },
     [modeEvent 4 3 c.gainSet 1, .event 53 (u32 (satN 32 ((tick - c.travStart) / 1000000)))])
  else (c, [])

/-- Residuals `n` cycles on (R166). -/
def Ctl.stepResid (n : Nat) (c : Ctl) : Ctl := { c with res := c.res.map (Resid.after n) }

/-- The law of the cycle (R154): every axis with its residual, whole in the cycle of its transfer and a step on in each following one (R166). A manual
axis has no clamp. -/
def lawStep (cfg : Mem) (i : LawIn) (c0 : Ctl) : Ctl × List Fx :=
  let c := if c0.moved then c0 else c0.stepResid 1
  let go := fun d => ctlAxis cfg i c c.mode c.gainSet d (c.integ.get d) (residGet c d)
  let law := V3.of (fun d => (go d).2.1)
  let cmd := V3.of (fun d => if axisKind c.mode d = .auto then clampI (-(cmdBound cfg d)) (cmdBound cfg d) (law.get d) else law.get d)
  let (tn, te, tp) := ctlTarget c
  let isat := (List.range 3).any (fun d => (go d).2.2.1)
  let csat := (List.range 3).any (fun d => (go d).2.2.2 || decide (cmd.get d ≠ law.get d))
  let frozen := (List.range 3).any (fun d => axisKind c.mode d = .auto && ctlFrozen i d)
  let c1 := { c with integ := V3.of (fun d => (go d).1), tauLaw := law, tauCmd := cmd, satUsed := i.tauSat, err := ctlErr i tn te tp }
  ({ c1 with frozen := frozen, newAuto := 0 },
   (if isat then [.flag Reg.ctlStatus 1] else []) ++ (if csat then [.flag Reg.ctlStatus 2] else []))

/-! The oscillation detector (R167). -/

def oscN (cfg : Mem) : Nat := Nat.min 16 (cfgU32 cfg 0x0905 24)

/-- BAND and AMP of an axis in the error's unit: s16.16 m, or bam32. -/
def oscBand (cfg : Mem) (d : Nat) : Int := if d = 2 then degToBam (cfgU32 cfg 0x0905 4 : Nat) 65536 else (cfgU32 cfg 0x0905 0 : Nat)
def oscAmp (cfg : Mem) (d : Nat) : Int := if d = 2 then degToBam (cfgU32 cfg 0x0905 12 : Nat) 65536 else (cfgU32 cfg 0x0905 8 : Nat)

/-- Whether the newest OSC_N pairs show an oscillation. -/
def oscJudge (cfg : Mem) (d : Nat) (win : List (Nat × Int)) : Bool :=
  let n := oscN cfg
  let w := win.take n
  let sum : Nat := w.foldl (fun a p => a + p.1) 0
  let lo := cfgU32 cfg 0x0905 16 * 1000000000; let hi := cfgU32 cfg 0x0905 20 * 1000000000
  n ≠ 0 && w.length == n && w.all (fun p => lo ≤ p.1 * 65536 && p.1 * 65536 ≤ hi && (4 * (((n * p.1 : Nat) : Int) - (sum : Int)).natAbs ≤ sum) && oscAmp cfg d ≤ p.2)

/-- CTL_OSC_d: mean period in 0.1 s, mean amplitude in 0.01 m or 0.01°. -/
def oscReg (d : Nat) (o : OscAxis) : Nat :=
  let n := o.win.length
  if n = 0 then b2n o.active * 2 ^ 31 else
  let per := (o.win.foldl (fun a p => a + p.1) 0) / n / 100000000
  let sum := o.win.foldl (fun a p => a + p.2.toNat) 0
  let amp := if d = 2 then sum * 36000 / n / 2 ^ 32 else sum * 100 / n / 65536
  satN 16 per + (satN 15 amp) * 2 ^ 16 + b2n o.active * 2 ^ 31

/-- The detector's end by time (R167): no down-crossing for PMAX. -/
def oscTimeout (cfg : Mem) (tick d : Nat) (o : OscAxis) : OscAxis × List Fx :=
  match o.active, o.lastDown with
  | true, some t0 =>
    if cfgU32 cfg 0x0905 20 * 1000000000 < (tick - t0) * 65536 then
      let o' := { o with active := false }
      (o', [.ended 51 d ([byteOf d, 0#8, 0#8, 0#8] ++ u32 (oscReg d o'))])
    else (o, [])
  | _, _ => (o, [])

/-- One tick of an axis: the new axis, its effects, whether the condition started. -/
def oscAxisStep (cfg : Mem) (tick d : Nat) (auto : Bool) (e : Int) (o : OscAxis) : OscAxis × List Fx × Bool :=
  if !auto then let (o1, fx) := oscTimeout cfg tick d (oscClear o); (o1, fx, false) else
  let band := oscBand cfg d
  let down := o.sign == 1 && decide (e < -band)
  let sign : Int := if down then -1 else if o.sign = -1 ∧ band < e then 1 else o.sign
  let pp := if sign = 1 then max o.peakPos e else o.peakPos
  let pn := if sign = -1 then max o.peakNeg (-e) else o.peakNeg
  let o1 := { o with sign := sign, peakPos := pp, peakNeg := pn }
  if down then
    if o.seen then
      let per := tick - o.lastDown.getD tick
      let amp := divTrunc (pp + pn) 2
      let o2 := { o1 with lastDown := some tick, win := pushMax (oscN cfg) (per, amp) o.win, peakPos := 0, peakNeg := 0 }
      if o.active then
        if 2 * amp < oscAmp cfg d then
          let o3 := { o2 with active := false }
          (o3, [.ended 51 d ([byteOf d, 0#8, 0#8, 0#8] ++ u32 (oscReg d o3))], false)
        else (o2, [], false)
      else if oscJudge cfg d o2.win then
        let o3 := { o2 with active := true }
        (o3, [.count Reg.ctlCntOsc 1, .start 51 d ([byteOf d, 0#8, 0#8, 0#8] ++ u32 (oscReg d o3))], true)
      else (o2, [], false)
    else ({ o1 with lastDown := some tick, seen := true }, [], false)
  else let (o2, fx) := oscTimeout cfg tick d o1; (o2, fx, false)

/-- The detector over the axes, with the step-down of R167. -/
def oscStep (cfg : Mem) (i : LawIn) (c : Ctl) : Ctl × List Fx :=
  let tp := (ctlTarget c).2.2
  let err := fun d => if d = 2 then bamDiff tp i.psi else c.err.get d
  let rs := (List.range 3).map (fun d => oscAxisStep cfg i.tick d (axisKind c.mode d = .auto) (err d) (c.osc.getD d {}))
  let c1 := { c with osc := rs.map (·.1) }
  let fx := rs.flatMap (fun r => r.2.1)
  let started := rs.any (fun r => r.2.2)
  if started && ctlOscStep cfg then
    if c.moved then (oscClearAll c1, fx)
    else if c.gainSet = 1 ∨ c.gainSet = 2 then
      let gs := c.gainSet - 1
      let (c2, delta, exceeds) := ctlEvaluate cfg i c1 c.mode gs
      let sat := if ctlBumpClamps cfg c2 delta then [Fx.flag Reg.ctlStatus 1] else []
      (oscClearAll (ctlBumpless cfg i c2 delta exceeds), fx ++ sat ++ [modeEvent c.mode c.mode gs 2])
    else (c1, fx)
  else (c1, fx)

/-- Steps 3 to 6 of R170. -/
def ctlRun (cfg : Mem) (i : LawIn) (c : Ctl) : Ctl × List Fx :=
  let (c1, f1) := joyTimeoutStep cfg i.tick c
  let c2 := travAdvance i c1
  let (c3, f2) := travFinish i.tick c2
  let (c4, f3) := lawStep cfg i c3
  let (c5, f4) := oscStep cfg i c4
  ({ c5 with moved := false }, f1 ++ f2 ++ f3 ++ f4)

/-- R157's first step for a cycle: the wind feed-forward, before the host actions. -/
def ctlBegin (cfg : Mem) (i : LawIn) (c : Ctl) : Ctl × List Fx := windStep cfg i { c with moved := false }

/-! Views: CTL_STATUS bits, CTL_MODE (R173), the DP_GET_STATE reply (Table 6.5). -/

def ctlResid (c : Ctl) : V3 := V3.of (residGet c)
def ctlHandover (c : Ctl) : Bool := (List.range 3).any (fun d => residGet c d ≠ 0)

def ctlStatusView (c : Ctl) : Nat :=
  b2n (ctlHandover c) * 256 + b2n (c.osc.any (·.active)) * 512 + b2n c.windLost * 1024 + b2n c.frozen * 2048

def ctlProfiles (c : Ctl) : Nat := (c.trav.filter (fun p => !travDone p)).length

def ctlHolderIdx (c : Ctl) (none_ : Nat) : Nat := match c.holder with
  | some (j, _) => j
  | none => none_

def ctlModeView (c : Ctl) : Nat := c.mode + c.gainSet * 16 + ctlProfiles c * 256 + ctlHolderIdx c 0xF * 65536

/-- The integrators reduced to s16.16, s20.12. -/
def ctlIntegReduced (c : Ctl) : V3 := V3.of (fun d => satS 32 (asrRound (c.integ.get d) 32))

/-- Table 6.5; `status` is CTL_STATUS. -/
def dpStateBytes (num status : Nat) (c : Ctl) : List Byte :=
  let (tn, te, tp) := ctlTarget c
  let s := match c.trav.getLast? with
    | some p => travS p
    | none => 0
  let left := travMs (c.trav.foldl (fun a p => Nat.max a (travT p - p.el)) 0)
  u64 num ++ [byteOf c.mode, byteOf c.gainSet, byteOf (ctlHolderIdx c 0xFF), 0#8] ++ u32 status ++ c.tauCmd.bytes ++ c.tauFf.bytes ++
  (ctlIntegReduced c).bytes ++ (ctlResid c).bytes ++ c.err.bytes ++ s64 tn ++ s64 te ++ u32 (bamOf tp) ++ s32 s ++ u32 left ++
  c.satUsed.bytes ++ zeros 4

end Sys2Proof.Machine
end

