-- ==== Sys2Proof/Machine/CrcUnit.lean ====
section
/-! DEFINITION. The polynomials of the CRC units and their arithmetic (R316, R317, Table 12.10). -/

namespace Sys2Proof.Machine

/-- A polynomial of Table 12.10. -/
structure CrcPoly where
  w : Nat
  poly : Nat
  init : Nat
  refl : Bool
  xor : Nat
  deriving DecidableEq, Repr

/-- POLY codes; the table defines none from 5 to 7. -/
def crcPoly (code : Nat) : Option CrcPoly := match code with
  | 0 => some ⟨32, 0x1EDC6F41, 0xFFFFFFFF, true, 0xFFFFFFFF⟩
  | 1 => some ⟨32, 0x04C11DB7, 0xFFFFFFFF, true, 0xFFFFFFFF⟩
  | 2 => some ⟨16, 0x1021, 0xFFFF, false, 0⟩
  | 3 => some ⟨16, 0x8005, 0, true, 0⟩
  | 4 => some ⟨8, 0x07, 0, false, 0⟩
  | _ => none

/-- The low `w` bits of a number in reverse order. -/
def reflBits : Nat → Nat → Nat
  | 0, _ => 0
  | w + 1, n => (n % 2) * 2 ^ w + reflBits w (n / 2)

def reflByte (b : Byte) : Byte := byteOf (reflBits 8 b.toNat)

/-- Bytes fed into the shift register, which is held before output reflection (R317). What an undefined POLY computes is a free value (log 43). -/
def crcFeed (code value : Nat) (bs : List Byte) : Nat := match crcPoly code with
  | some p => crcNorm p.w p.poly (value % 2 ^ p.w) (if p.refl then bs.map reflByte else bs)
  | none => Config.freeNat 43 ([(code : Int), (value : Int)] ++ bs.map (fun b => (b.toNat : Int))) % 2 ^ 32

/-- The initial value. -/
def crcInit (code : Nat) : Nat := match crcPoly code with
  | some p => p.init
  | none => Config.freeNat 43 [(code : Int)] % 2 ^ 32

/-- The finished value: output reflection, then final XOR. -/
def crcResult (code value : Nat) : Nat := match crcPoly code with
  | some p => (if p.refl then reflBits p.w value else value % 2 ^ p.w) ^^^ p.xor
  | none => Config.freeNat 43 [(code : Int), (value : Int), -1] % 2 ^ 32

end Sys2Proof.Machine
end

