-- ==== Sys2Proof/Machine/Gnss.lean ====
section
/-! DEFINITION. The GNSS baseband: antenna supplies, acquisition, channels, solutions, corrections, Baseline, start kinds (chapter 11). The spec gives the
correlators', the loops' and the least squares' arithmetic no format: what they yield is measured data of the commands (log 84). -/

namespace Sys2Proof.Machine

def gnsSupplyOn (cfg : Mem) (a : Nat) : Bool := bits (cfgU8 cfg 0x0700 0) a 1 == 1
def gnsPosRate (cfg : Mem) : Nat := cfgU8 cfg 0x0700 1
def gnsHdgRate (cfg : Mem) : Nat := cfgU8 cfg 0x0700 2
/-- NCOH, held to 1 to 20 by a free value (R293, log 124). -/
def gnsNcoh (cfg : Mem) : Nat :=
  let n := cfgU8 cfg 0x0700 5
  if 1 ≤ n ∧ n ≤ 20 then n else 1 + Config.freeNat 124 [0, (n : Int)] % 20
def gnsCorrSrc (cfg : Mem) : Nat := cfgU8 cfg 0x0700 3
def gnsMask (cfg : Mem) : Int := signed 8 (cfgU8 cfg 0x0700 4)
def gnsCn0Min (cfg : Mem) : Nat := cfgU8 cfg 0x0700 6
def gnsAcqRatio (cfg : Mem) : Nat := cfgU16 cfg 0x0700 8
def gnsDiffMaxAge (cfg : Mem) : Nat := cfgU16 cfg 0x0700 10
def gnsExclude (cfg : Mem) : Nat := cfgU32 cfg 0x0700 12
def gnsCmpPos (cfg : Mem) : Nat := cfgU32 cfg 0x0700 16
def gnsCmpHdg (cfg : Mem) : Nat := cfgU32 cfg 0x0700 20
/-- BASE_LEN, a free value outside 1 to 20 m (R293, log 124). -/
def gnsBaseLen (cfg : Mem) : Nat :=
  let v := cfgU32 cfg 0x0701 0
  if 65536 ≤ v ∧ v ≤ 20 * 65536 then v else Config.freeNat 124 [1, (v : Int)]
def gnsLenTol (cfg : Mem) : Nat := cfgU32 cfg 0x0701 4
def gnsBaseAz (cfg : Mem) : Nat := cfgU32 cfg 0x0701 8
def gnsRatio (cfg : Mem) : Nat := cfgU32 cfg 0x0701 12

/-! Channels and acquisition (R271 to R273). -/

def gnsInput (g : Gns) (a : Nat) : GnsInput := g.inputs.getD a {}
def gnsChans (g : Gns) (a : Nat) : List GnsChan := g.chans.getD a []
def gnsTracked (g : Gns) (a : Nat) : List Nat := ((gnsChans g a).filter (fun c => decide (c.state ≠ 0))).map (·.prn)

def allPrn : List Nat := (List.range 32).map (· + 1)

/-- Whether an ephemeris of a PRN is held and within its validity at a TAI time, where one is known (R287). -/
def gnsEphValid (d : GnsData) (now : Option Int) (prn : Nat) : Bool :=
  d.eph.any (fun e => e.1 == prn && (match now with | some x => decide (x ≤ (e.2 : Int)) | none => true))

/-- What a prediction of a satellite rests on: ephemeris or almanac, PRN, last position, time. -/
def gnsPredictArgs (d : GnsData) (now : Option Int) (prn : Nat) : List Int :=
  let p := d.pos.getD (0, 0, 0)
  [(b2n (gnsEphValid d now prn) : Int), (prn : Int), (p.1 : Int), (p.2.1 : Int), p.2.2, now.getD 0]

/-- The predicted elevation in degrees: the orbit computation is not in the spec (log 40). -/
def gnsElev (d : GnsData) (now : Option Int) (prn : Nat) : Int := Config.freeInt 40 (0 :: gnsPredictArgs d now prn)

/-- The predicted Doppler in Hz (R271): the almanac's or ephemeris's (log 40) plus the last receiver clock drift, at 1575.42 MHz. -/
def gnsDoppler (d : GnsData) (now : Option Int) (prn : Nat) : Int :=
  Config.freeInt 40 (1 :: gnsPredictArgs d now prn) + d.drift.getD 0 * 1575420000 / 1000000000000

/-- The search order of a start (R272): ascending in a cold start; otherwise the satellites predicted above the mask first, highest first. -/
def gnsOrder (cfg : Mem) (kind : Nat) (now : Option Int) (d : GnsData) : List (Nat × Int) :=
  if kind = 0 then allPrn.map (fun p => (p, 0)) else
  let seen := sortBy (fun (p q : Nat) => decide (gnsElev d now q < gnsElev d now p)) (allPrn.filter (fun p => decide (gnsMask cfg < gnsElev d now p)))
  (seen ++ allPrn.filter (fun p => !(seen.contains p))).map (fun p => (p, gnsDoppler d now p))

/-- The sum of a cell's magnitudes over NCOH blocks (R271). -/
def acqSum (cfg : Mem) (c : AcqCell) : Nat := (c.mags.take (gnsNcoh cfg)).sum

/-- The cell of the highest sum, the first of equals. -/
def acqBest (cfg : Mem) (cells : List AcqCell) : Option AcqCell :=
  cells.foldl (fun b c => match b with
    | none => some c
    | some x => if acqSum cfg x < acqSum cfg c then some c else some x) none

/-- Whether the highest sum exceeds ACQ_RATIO times the mean over all 49 × 4,096 cells; a cell that is not listed has sum 0 (R271). -/
def acqDetects (cfg : Mem) (cells : List AcqCell) : Option AcqCell :=
  match acqBest cfg cells with
  | some c => if gnsAcqRatio cfg * (cells.map (acqSum cfg)).sum < acqSum cfg c * 256 * (49 * 4096) then some c else none
  | none => none

/-- The PRN an input's engine searches next: the first of its order that is not tracked there (R272). -/
def gnsNext (g : Gns) (a : Nat) : Option (Nat × Int) := (gnsInput g a).search.find? (fun p => !((gnsTracked g a).contains p.1))

/-- A search of the next PRN completes (R271, R272). A detection goes to the lowest IDLE channel with its code phase and Doppler; a PRN not found is
searched again after all others; with every channel in use nothing is searched. -/
def gnsAcquire (cfg : Mem) (t a : Nat) (cells : List AcqCell) (g : Gns) : Gns × List Fx :=
  if g.asleep then (g, []) else
  match gnsNext g a, (gnsChans g a).findIdx? (fun c => c.state == 0) with
  | some (prn, dop), some k =>
    let rest := (gnsInput g a).search.filter (fun p => p.1 != prn)
    match acqDetects cfg cells with
    | some c =>
      let ch : GnsChan := { prn := prn, state := 1, dop := dop + ((c.bin : Int) - 24) * 250, code := c.code, since := t }
      ({ g with chans := modNth g.chans a (fun cs => cs.set k ch), inputs := modNth g.inputs a (fun i => { i with search := rest }) },
       [.count Reg.gnsCntAcq 1])
    | none => ({ g with inputs := modNth g.inputs a (fun i => { i with search := rest ++ [(prn, dop)] }) }, [])
  | _, _ => (g, [])

def gnsModChan (g : Gns) (a k : Nat) (f : GnsChan → GnsChan) : Gns := { g with chans := modNth g.chans a (fun cs => modNth cs k f) }

/-- Loss of lock or of pull-in (R273): back to IDLE, the PRN searched first at its last Doppler. -/
def gnsLose (a k : Nat) (g : Gns) : Gns :=
  match (gnsChans g a)[k]? with
  | none => g
  | some c =>
    if c.state = 0 then g else
    let g1 := gnsModChan g a k (fun _ => {})
    { g1 with inputs := modNth g1.inputs a (fun i => { i with search := (c.prn, c.dop) :: i.search.filter (fun p => p.1 != c.prn) }) }

/-- PULL_IN to TRACK (R273): the phase lock indicator has been at least 0.8 (`low`, 10^-3) for 100 ms of the state. -/
def gnsPulledIn (t a k low ns : Nat) (g : Gns) : Gns :=
  gnsModChan g a k (fun c => if c.state = 1 ∧ 800 ≤ low ∧ 100000000 ≤ ns ∧ ns ≤ t - c.since then { c with state := 2, since := t } else c)

/-- What a channel in TRACK or NAV has decoded (R273): the data is held, and a TRACK channel with bit synchronisation, two subframes and a valid ephemeris
goes to NAV. -/
def gnsDecoded (t a k : Nat) (now : Option Int) (n : NavData) (g : Gns) : Gns :=
  match (gnsChans g a)[k]? with
  | none => g
  | some c =>
    if c.state < 2 then g else
    let data := { g.data with
      almanac := g.data.almanac || n.almanac
      eph := match n.eph with
        | some x => (c.prn, x) :: g.data.eph.filter (fun e => e.1 != c.prn)
        | none => g.data.eph }
    let g1 := { g with data := data }
    if c.state = 2 ∧ n.sync = true ∧ 2 ≤ n.subframes ∧ gnsEphValid data now c.prn = true then gnsModChan g1 a k (fun c => { c with state := 3, since := t })
    else g1

/-- A cycle slip of a channel (R273). -/
def gnsSlip (a k : Nat) (g : Gns) : Gns × List Fx :=
  (gnsModChan g a k (fun c => { c with slipNext := true }), [.flag Reg.gnsStatus 3, .count Reg.gnsCntSlip 1])

/-! Antenna supplies (R270). -/

def gnsSupplyDetail (a old new ma : Nat) : List Byte := [byteOf (a + 1), byteOf old, byteOf new, byteOf ma]

/-- A 10 ms check of a supply with its measured current; a supply found SHORT is switched off and is OFF from the next check (log 125). -/
def gnsSupply (cfg : Mem) (t a ma : Nat) (i : GnsInput) : GnsInput × List Fx :=
  let on := gnsSupplyOn cfg a && !i.tripped
  let limit := decide (75 ≤ ma)
  let since := if on && limit then (match i.atLimit with | some x => some x | none => some t) else none
  let short := on && (match since with | some x => decide (10000000 ≤ t - x) | none => false)
  let new := if !gnsSupplyOn cfg a ∨ i.tripped then 0 else if short then 3 else if ma < 2 then 1
    else if limit then i.supply else 2
  let i1 := { i with supply := new, ma := if on then ma else 0, atLimit := since, tripped := (i.tripped || short) && gnsSupplyOn cfg a }
  let i2 := { i1 with tripAt := if short then t else i.tripAt }
  (i2, if new = i.supply then [] else
    [.event 24 (gnsSupplyDetail a i.supply new ma)] ++ (if new = 1 ∨ new = 3 then [.flag Reg.gnsStatus 1] else []))

/-- The 10 s retry of a shorted supply: on for 10 ms; `ma` is the current then measured. -/
def gnsRetry (cfg : Mem) (t a ma : Nat) (i : GnsInput) : GnsInput × List Fx :=
  if i.tripped ∧ gnsSupplyOn cfg a ∧ 10000000000 ≤ t - i.tripAt then
    if 75 ≤ ma then ({ i with tripAt := t, supply := 3, ma := ma },
      if i.supply = 3 then [] else [.event 24 (gnsSupplyDetail a i.supply 3 ma), .flag Reg.gnsStatus 1])
    else
      let new := if ma < 2 then 1 else 2
      ({ i with tripped := false, atLimit := none, supply := new, ma := ma },
       [.event 24 (gnsSupplyDetail a i.supply new ma)] ++ (if new = 1 then [.flag Reg.gnsStatus 1] else []))
  else (i, [])

/-! Corrections (R279, R280). -/

/-- Bits of an RTCM message, most significant first. -/
def rtcmBits (bs : List Byte) (pos w : Nat) : Nat := beNat bs / 2 ^ (8 * bs.length - pos - w) % 2 ^ w

/-- CRC-24Q over header and message. -/
def crc24q (bs : List Byte) : Nat := crcNorm 24 0x864CFB 0 bs

/-- A frame split: whether it is whole with a good CRC, and its message. -/
def rtcmMessage (frame : List Byte) : Option (List Byte) :=
  let len := (beNat (slice frame 1 2)) % 1024
  let body := frame.take (3 + len)
  if frame.length = len + 6 ∧ frame.headD 0 = 0xD3#8 ∧ beNat (slice frame 1 2) / 1024 = 0 ∧ crc24q body = beNat (frame.drop (3 + len)) then
    some ((frame.drop 3).take len)
  else none

/-- A 1002 message's satellites (PRN, pseudorange, phase range, ambiguity). -/
def rtcm1002Sats (m : List Byte) : List (Nat × Nat × Nat × Nat) :=
  let n := rtcmBits m 55 5
  ((List.range n).map (fun k =>
    let o := 64 + 74 * k
    (rtcmBits m o 6, rtcmBits m (o + 7) 24, rtcmBits m (o + 31) 20, rtcmBits m (o + 58) 8))).filter (fun s => decide (1 ≤ s.1 ∧ s.1 ≤ 32))

/-- The antenna reference point of a 1005 message, 0.1 mm (layout as RTCM 10403 has it, log 84). -/
def rtcm1005Pos (m : List Byte) : Int × Int × Int := (signed 38 (rtcmBits m 34 38), signed 38 (rtcmBits m 74 38), signed 38 (rtcmBits m 114 38))

/-- Geometric range from the reference point to a satellite plus its clock, in 0.5 mm, by the GB's own ephemeris: the spec gives no orbit model
(log 124). -/
def gnsRangeClock (g : Gns) (prn t : Nat) : Int := Config.freeInt 124 [2, (prn : Int), g.refPos.1, g.refPos.2.1, g.refPos.2.2, (t : Int)]

/-- The correction a 1002 message's satellite gives (R280): pseudorange units of 0.02 m and 299,792.458 m, phase range less pseudorange in 0.5 mm. -/
def gnsCorrOf (g : Gns) (t : Nat) (s : Nat × Nat × Nat × Nat) : Corr :=
  let pr := 40 * s.2.1 + s.2.2.2 * 2 * 299792458
  let model := gnsRangeClock g s.1 t
  { prn := s.1, at_ := t, prc := (model - pr) / 2, lrc := model - (pr + signed 20 s.2.2.1),
    prev := (g.corrs.find? (fun c => c.prn == s.1)).map (fun c => (c.at_, c.lrc)) }

/-- A correction extrapolated to an epoch with the phase-range rate between the two newest messages, mm (R280, log 124). -/
def gnsCorrAt (t : Nat) (c : Corr) : Int := match c.prev with
  | some (t0, l0) => if t0 < c.at_ then c.prc + (c.lrc - l0) * ((t : Int) - c.at_) / (2 * ((c.at_ : Int) - t0)) else c.prc
  | none => c.prc

/-- A frame from source `src` (0 the host, 1 to 8 a port): the new state, whether it counted as used, effects. `now` is TAI, where it is known. -/
def gnsRtcm (cfg : Mem) (t src : Nat) (now : Option Int) (frame : List Byte) (g : Gns) : Gns × Bool × List Fx :=
  if src ≠ gnsCorrSrc cfg then (g, false, [.count Reg.gnsCntRtcmDisc 1]) else
  match rtcmMessage frame with
  | none => (g, false, [.count Reg.gnsCntRtcmCrc 1, .flag Reg.gnsStatus 0, .event 28 ([0#8, 0#8] ++ u16 g.station)])
  | some m =>
    let num := rtcmBits m 0 12
    let sta := rtcmBits m 12 12
    if num = 1005 then
      if sta = g.station then ({ g with refPos := rtcm1005Pos m }, true, [.count Reg.gnsCntRtcmOk 1])
      else ({ g with station := sta, refPos := rtcm1005Pos m, corrs := [], last1002 := none, hadCorr := false }, true,
        [.count Reg.gnsCntRtcmOk 1, .event 28 ([1#8, 0#8] ++ u16 sta)])
    else if num = 1002 then
      if sta ≠ g.station then (g, false, [.count Reg.gnsCntRtcmDisc 1]) else
      let corrs := ((rtcm1002Sats m).filter (fun s => gnsEphValid g.data now s.1)).map (gnsCorrOf g t)
      let kept := g.corrs.filter (fun c => !(corrs.any (fun d => d.prn == c.prn)))
      let all := kept ++ corrs
      let regained := !g.hadCorr && !all.isEmpty
      ({ g with corrs := all, last1002 := some t, hadCorr := g.hadCorr || !all.isEmpty }, true,
       [.count Reg.gnsCntRtcmOk 1] ++ (if regained then [.event 28 ([3#8, 0#8] ++ u16 sta)] else []))
    else (g, false, [.count Reg.gnsCntRtcmDisc 1])

/-- Corrections older than DIFF_MAX_AGE go (R280). -/
def gnsExpire (cfg : Mem) (t : Nat) (g : Gns) : Gns × List Fx :=
  let kept := g.corrs.filter (fun c => decide (t - c.at_ ≤ gnsDiffMaxAge cfg * 1000000000))
  ({ g with corrs := kept, hadCorr := !kept.isEmpty }, if g.hadCorr && kept.isEmpty then [.event 28 ([2#8, 0#8] ++ u16 g.station)] else [])

/-- The complete frames at the head of a byte string, and the number of bytes after the last one. -/
def rtcmSplit : Nat → List Byte → List (List Byte) × Nat
  | 0, bs => ([], bs.length)
  | k + 1, bs =>
    let len := (beNat (slice bs 1 2)) % 1024 + 6
    if bs.length < 3 ∨ bs.headD 0 ≠ 0xD3#8 ∨ 4 ≤ (bs.getD 1 0).toNat ∨ bs.length < len then ([], bs.length)
    else let (fs, r) := rtcmSplit k (bs.drop len); (bs.take len :: fs, r)

/-! Solutions (R274 to R277). -/

/-- Whether a channel's satellite enters solutions (R273). -/
def gnsUsable (cfg : Mem) (c : GnsChan) : Bool :=
  c.state == 3 && decide (gnsMask cfg ≤ c.elev) && bits (gnsExclude cfg) (c.prn - 1) 1 == 0

/-- The chi-square threshold at 10^-5 for `n` satellites, 10^-3 (R276): n − 4 degrees of freedom (log 84). -/
def gnsChi (n : Nat) : Nat :=
  [19511, 23026, 25902, 28473, 30856, 33107, 35259, 37332, 39341, 41296, 43206, 45076, 46912, 48716, 50493, 52245, 53974, 55683, 57373, 59045].getD (n - 5) 59045

def gnsPasses (n : Nat) (s : LsSol) : Bool := decide (s.sum ≤ gnsChi n)

/-- A solution after the residual check of R276 over `n` satellites: (solution, RAIM_OK, satellites left, PRN excluded or 0), and effects; none is fix
type 0. -/
def gnsRaim (a n : Nat) (y : LsTry) : Option (LsSol × Bool × Nat × Nat) × List Fx :=
  let ev := fun (p : Nat) => Fx.event 29 [byteOf (a + 1), byteOf p]
  if n < 4 then (none, [])
  else if n = 4 then (some (y.sol, false, 4, 0), [])
  else if gnsPasses n y.sol then (some (y.sol, true, n, 0), [])
  else if n = 5 then (none, [ev 0])
  else match y.removals with
  | [] => (none, [ev 0])
  | r :: rs =>
    let best := rs.foldl (fun b x => if x.2.sum < b.2.sum then x else b) r
    (if gnsPasses (n - 1) best.2 then some (best.2, true, n - 1, best.1) else none,
     [.count Reg.gnsCntRaimx 1, .flag Reg.gnsStatus 2, ev best.1])

/-- The age in u16.16 s of the oldest correction among some satellites. -/
def gnsAge (t : Nat) (corrs : List Corr) (prns : List Nat) : Nat :=
  let old := (corrs.filter (fun c => prns.contains c.prn)).foldl (fun a c => Nat.max a (t - c.at_)) 0
  satN 32 (old * 65536 / 1000000000)

/-- What an antenna's position solution gives: its fix, the solution, the satellites it used, effects. -/
structure GnsSolved where
  fix : GnsFix := {}
  sol : Option LsSol := none
  used : List Nat := []
  fx : List Fx := []

/-- The position solution of an antenna (R275, R276, R280). -/
def gnsSolve (cfg : Mem) (t a : Nat) (m : GnssMeas) (g : Gns) : GnsSolved :=
  let prns := ((gnsChans g a).filter (gnsUsable cfg)).map (·.prn)
  let corr := prns.filter (fun p => g.corrs.any (fun c => c.prn == p))
  let df := decide (4 ≤ corr.length)
  let used := if df then corr else prns
  match (if df then m.diff.getD a none else m.alone.getD a none) with
  | none => {}
  | some y =>
    match gnsRaim a used.length y with
    | (none, fx) => { fx := fx }
    | (some (s, ok, n, out), fx) =>
      let left := used.filter (fun p => p != out)
      { fix :=
          { type := if df then 2 else 1, raimOk := ok, sats := n, hdop := s.hdop, lat := s.lat, lon := s.lon, hgt := s.hgt,
            sigma := satN 32 (if df then s.spread / 2 else s.spread * 3 / 2), age := if df then gnsAge t g.corrs left else 0, vn := s.vn, ve := s.ve }
        sol := some s
        used := left
        fx := fx }

/-- V4 of Table 11.4. -/
def gnsV4 (f : GnsFix) : Nat := f.type + f.sats * 256 + b2n f.raimOk * 65536

/-- A GB position sample's body (Table 11.4, R89). -/
def gnsPosBody (tai : Nat) (f : GnsFix) : List Byte :=
  u64 tai ++ u32 f.lat ++ u32 f.lon ++ s32 f.hgt ++ u32 f.sigma ++ u32 (gnsV4 f) ++ u32 f.age

def gnsHdgBody (tai heading : Nat) (rot : Int) : List Byte := u64 tai ++ u32 heading ++ s32 rot ++ zeros 16

/-! Baseline (R281 to R284). -/

/-- The PRNs of the common used satellites. -/
def gnsCommonPrns (cfg : Mem) (g : Gns) : List Nat :=
  let p := fun a => ((gnsChans g a).filter (gnsUsable cfg)).map (·.prn)
  (p 0).filter (fun x => (p 1).contains x)

/-- Their number. -/
def gnsCommon (cfg : Mem) (g : Gns) : Nat := (gnsCommonPrns cfg g).length

/-- The elevation of a PRN on antenna 1. -/
def gnsElevOf (g : Gns) (p : Nat) : Int := match (gnsChans g 0).find? (fun c => c.prn == p) with
  | some c => c.elev
  | none => -90

/-- The reference satellite among some (R282): the highest, the first of equals. -/
def gnsRefSat (g : Gns) (ps : List Nat) : Option Nat :=
  ps.foldl (fun b p => match b with
    | none => some p
    | some q => if gnsElevOf g q < gnsElevOf g p then some p else some q) none

/-- Whether a PRN's carrier slipped on either input for this epoch. -/
def gnsSlipped (g : Gns) (p : Nat) : Bool := g.chans.any (fun cs => cs.any (fun c => c.prn == p && c.slip))

def gnsSetBase (new : Nat) (g : Gns) : Gns × List Fx :=
  if new = g.base then (g, []) else
  ({ g with base := new, pass := 0, bad := 0, ints := if new = 2 then g.ints else [] }, [.event 26 ([byteOf g.base, byteOf new] ++ u16 g.ratio)])

/-- Whether a candidate's primaries lie inside ±3 σ of the float values, and its length meets the tolerance (R282). -/
def gnsCandOk (cfg : Mem) (b : BaseMeas) (c : BaseCand) : Bool :=
  (c.n.zip b.floats).all (fun x => decide ((x.1 * 65536 - x.2.1).natAbs ≤ 3 * x.2.2)) &&
  decide (((c.len : Int) - (gnsBaseLen cfg : Int)).natAbs ≤ gnsLenTol cfg)

/-- The integers of a candidate by PRN, the other ambiguities rounded, the reference's 0. -/
def gnsInts (ref : Nat) (b : BaseMeas) (c : BaseCand) : List (Nat × Int) :=
  (ref, 0) :: b.prns.zip (c.n ++ c.others.map (fun x => asrRound x 16))

/-- Whether two sets of integers are the same, whatever the reference satellite (log 124): they differ by one number over the PRNs they share. -/
def gnsSameInts (x y : List (Nat × Int)) : Bool :=
  match x.filterMap (fun p => (y.find? (fun q => q.1 == p.1)).map (fun q => p.2 - q.2)) with
  | [] => false
  | d :: ds => ds.all (fun e => e == d)

/-- The search of R282: the candidate of lowest ssr, and the ratio in u16.16; none where no candidate meets the length. -/
def gnsSearch (cfg : Mem) (b : BaseMeas) : Option (BaseCand × Nat) :=
  match sortBy (fun (x y : BaseCand) => decide (x.ssr < y.ssr)) (b.cands.filter (gnsCandOk cfg b)) with
  | [] => none
  | [x] => some (x, 0xFFFFFFFF)
  | x :: y :: _ => some (x, if x.ssr = 0 then 0xFFFFFFFF else satN 32 (y.ssr * 65536 / x.ssr))

/-- Baseline in FIXED at an epoch (R283): the satellites whose fixed double differences remain, slipped ones left out and their ambiguities derived again
by rounding with b against the reference of the epoch. -/
def gnsFixed (cfg : Mem) (b : BaseMeas) (g : Gns) : Nat × List (Nat × Int) :=
  let held := (gnsCommonPrns cfg g).filter (fun p => g.ints.any (fun n => n.1 == p))
  let good := held.filter (fun p => !(gnsSlipped g p))
  let ref := ((gnsRefSat g good).bind (fun r => g.ints.find? (fun n => n.1 == r))).map (·.2)
  (good.length - 1, g.ints.map (fun n => match b.amb.find? (fun x => x.1 == n.1), ref with
    | some x, some r => if gnsSlipped g n.1 then (n.1, r + asrRound x.2 16) else n
    | _, _ => n))

/-- Baseline at a measurement epoch: the new state, whether it is FIXED with a heading at this epoch, effects. -/
def gnsBaseline (cfg : Mem) (b : BaseMeas) (g0 : Gns) : Gns × Bool × List Fx :=
  let g := { g0 with common := gnsCommon cfg g0 }
  let badAnt := g.inputs.any (fun i => i.supply == 1 || i.supply == 3)
  if g.common < 5 ∨ badAnt then let (g1, fx) := gnsSetBase 0 g; (g1, false, fx)
  else match g.base with
  | 0 => let (g1, fx) := gnsSetBase 1 g; (g1, false, fx)
  | 1 =>
    match gnsSearch cfg b with
    | none => ({ g with pass := 0 }, false, [])
    | some (c, ratio) =>
      let g1 := { g with ratio := satN 16 (ratio / 256) }
      if gnsRatio cfg ≤ ratio ∧ c.ssr ≤ (g.common - 1) * 10000 then
        let ints := gnsInts ((gnsRefSat g (gnsCommonPrns cfg g)).getD 0) b c
        let pass := if g.pass ≠ 0 ∧ gnsSameInts g.ints ints then g.pass + 1 else 1
        let g2 := { g1 with pass := pass, ints := ints }
        if 10 ≤ pass then let (g3, fx) := gnsSetBase 2 g2; (g3, true, [.count Reg.gnsCntFixsearch 1] ++ fx) else (g2, false, [])
      else ({ g1 with pass := 0 }, false, [])
  | _ =>
    let len := isqrt ((b.bn * b.bn + b.be * b.be + b.bd * b.bd).toNat)
    let bad := if 100 < b.rms then g.bad + 1 else 0
    let f := gnsFixed cfg b g
    if f.1 < 4 ∨ gnsLenTol cfg < ((len : Int) - (gnsBaseLen cfg : Int)).natAbs ∨ 3 ≤ bad then
      let (g1, fx) := gnsSetBase 1 g; (g1, false, fx)
    else ({ g with bad := bad, ints := f.2 }, true, [])

/-- The heading, pitch and length of the vector b (R284). -/
def gnsVector (cfg : Mem) (b : BaseMeas) : Nat × Nat × Nat :=
  let h := (atan2 b.be b.bn + 2 ^ 32 - gnsBaseAz cfg % 2 ^ 32) % 2 ^ 32
  let flat := isqrt ((b.bn * b.bn + b.be * b.be).toNat)
  (h, atan2 (-b.bd) (flat : Int), satN 32 (isqrt ((b.bn * b.bn + b.be * b.be + b.bd * b.bd).toNat)))

/-! A measurement epoch (R274). -/

/-- The channels latched, with their code and carrier phases. -/
def gnsLatch (m : GnssMeas) (g : Gns) : Gns :=
  m.chans.foldl (fun g c => gnsModChan g c.input c.chan (fun x =>
    if x.state = 0 then x else
    { x with cn0 := c.cn0, elev := c.elev, az := c.az, dop := c.dop, code := c.code, carr := c.carr, slip := x.slipNext, slipNext := false })) g

/-- Whether a GPS time lies on the grid of a rate in Hz; a rate that is not 1, 5 or 10 has a free grid (R293, log 124). -/
def gnsOnRate (rate tai : Nat) : Bool :=
  if rate = 1 ∨ rate = 5 ∨ rate = 10 then (tai * rate) % 1000000000 == 0 else Config.freeNat 124 [3, (rate : Int), (tai : Int)] % 2 == 1

/-- Whether a latch falls at an instant (R274): every 100 ms of MONO from the first after a start, and on whole multiples of 100 ms of GPS time from the
first valid time solution. -/
def gnsDue (t : Nat) (tai : Option Nat) (g : Gns) : Bool :=
  !g.asleep && decide (g.epochMono < t) &&
  (if g.onGrid then (match tai with | some x => x % 100000000 == 0 | none => false)
   else g.epochMono == 0 || (t - g.epochMono) % 100000000 == 0)

/-- The channels of an antenna marked with a solution's satellites and the corrections held. -/
def gnsMark (t a : Nat) (used : List Nat) (g : Gns) : List GnsChan := (gnsChans g a).map (fun c =>
  let cr := if c.state = 0 then none else g.corrs.find? (fun k => k.prn == c.prn)
  { c with used := used.contains c.prn && decide (c.state ≠ 0), corrected := cr.isSome, prc := (cr.map (gnsCorrAt t)).getD 0 })

/-- The position solutions of an epoch: the new state and effects (R275, GNS_FIX). -/
def gnsPosition (t : Nat) (s0 s1 : GnsSolved) (g : Gns) : Gns × List Fx :=
  let change := fun (a : Nat) (f : GnsFix) =>
    let old := (g.fixes.getD a {}).type
    if old = f.type then [] else [Fx.event 25 [byteOf (a + 1), byteOf old, byteOf f.type, byteOf f.sats]]
  let drift := (match s0.sol, s1.sol with | some s, _ => some s.drift | none, some s => some s.drift | none, none => none)
  ({ g with
      fixes := [s0.fix, s1.fix]
      posEpoch := true
      chans := [gnsMark t 0 s0.used g, gnsMark t 1 s1.used g]
      drift := drift.getD g.drift
      data := { g.data with
        pos := if s0.fix.type ≠ 0 then some (s0.fix.lat, s0.fix.lon, s0.fix.hgt) else g.data.pos
        drift := match drift with | some d => some d | none => g.data.drift } },
   s0.fx ++ s1.fx ++ change 0 s0.fix ++ change 1 s1.fix)

/-- Whether the time solution of a whole second is valid (R277). -/
def gnsTimeOk (s0 s1 : GnsSolved) : Bool :=
  let x := if s0.fix.type ≠ 0 then s0 else s1
  decide (x.fix.type ≠ 0) && (x.fix.raimOk || x.fix.sats == 4) && (match x.sol with | some s => decide (s.tSigma ≤ 100) | none => false)

/-- The result of a measurement epoch: the new state; where a time solution was formed, (valid, whole second's TAI); effects. -/
def gnsEpoch (cfg : Mem) (t : Nat) (m : GnssMeas) (g0 : Gns) : Gns × Option (Bool × Nat) × List Fx :=
  if !gnsDue t m.tai g0 then (g0, none, []) else
  let tai := m.tai.getD 0
  let whole : Bool := (match m.tai with | some x => x % 1000000000 == 0 | none => false)
  let rates := if whole then (gnsPosRate cfg, gnsHdgRate cfg) else g0.rates
  let g := gnsLatch m { g0 with fixNum := g0.fixNum + 1, epochMono := t, tai := tai, rates := rates }
  let pos : Bool := (match m.tai with | some x => gnsOnRate rates.1 x | none => false)
  let s0 := if pos then gnsSolve cfg t 0 m g else {}
  let s1 := if pos then gnsSolve cfg t 1 m g else {}
  let (g1, fxPos) := if pos then gnsPosition t s0 s1 g else ({ g with posEpoch := false }, [])
  let (g2, fixed, fxB) := gnsBaseline cfg m.base g1
  let vec := gnsVector cfg m.base
  let g3 := if fixed then { g2 with heading := vec.1, pitch := vec.2.1, length := vec.2.2 } else g2
  let valid := gnsTimeOk s0 s1
  let g4 := if whole then { g3 with timeValid := valid, timeKnown := g3.timeKnown || valid, onGrid := g3.onGrid || valid } else g3
  let fxT := if whole ∧ valid ≠ g3.timeValid then [Fx.event 30 [if valid then 1#8 else 0#8]] else []
  let due := t + 5000000
  let hp := if pos ∧ g4.timeKnown then
      (if s0.fix.type ≠ 0 then [(due, 0x20, gnsPosBody tai s0.fix)] else []) ++ (if s1.fix.type ≠ 0 then [(due, 0x21, gnsPosBody tai s1.fix)] else [])
    else []
  let hh := if fixed ∧ g4.timeKnown ∧ m.tai.isSome ∧ gnsOnRate rates.2 tai then [(due, 0x22, gnsHdgBody tai vec.1 m.base.rot)] else []
  ({ g4 with hand := g4.hand ++ hp ++ hh }, if whole then some (valid, tai) else none, fxPos ++ fxB ++ fxT)

/-- The samples at their hand-over instant, 5.000 ms after their epoch; those not ready at it are dropped and counted (R278). -/
def gnsHandover (t : Nat) (late : List Nat) (g : Gns) : Gns × List (Nat × List Byte) × List Fx :=
  let due := g.hand.filter (fun h => decide (h.1 ≤ t))
  let miss := fun (h : Nat × Nat × List Byte) => decide (h.1 < t) || late.contains h.2.1
  let lost := due.filter miss
  ({ g with hand := g.hand.filter (fun h => decide (t < h.1)) }, (due.filter (fun h => !(miss h))).map (·.2),
   if lost.isEmpty then [] else [.count Reg.gnsCntLate lost.length])

/-! Starts, sleep, store (R286, R287, R292). -/

/-- What a HOT start would use, as it stands. -/
def gnsSnapshot (g : Gns) : GnsData :=
  let asg := (List.range 2).flatMap (fun a => ((gnsChans g a).zipIdx).filterMap (fun c => if c.1.state = 0 then none else some (a, c.2, c.1.prn)))
  { g.data with chans := asg, fixNum := g.fixNum }

/-- The events of a stop of every channel: fixes, Baseline and time solution end (Table 11.12). -/
def gnsEnds (g : Gns) : List Fx :=
  ((g.fixes.zipIdx).filter (fun f => decide (f.1.type ≠ 0))).map (fun f => Fx.event 25 [byteOf (f.2 + 1), byteOf f.1.type, 0#8, 0#8]) ++
  (if g.base = 0 then [] else [.event 26 ([byteOf g.base, 0#8] ++ u16 g.ratio)]) ++ (if g.timeValid then [.event 30 [0#8]] else [])

/-- The store as a write at MONO `t` leaves it (R292): asleep, the data held is written. -/
def gnsSaved (t : Nat) (whole : Bool) (g : Gns) : Gns :=
  { g with store := some { data := if g.asleep then g.data else gnsSnapshot g, at_ := t, crcOk := whole } }

/-- A start of a kind from held data (Table 11.6); `now` is TAI by the GNSS base, where it is set; `asleepS` the time asleep in s, 0 when not a wake. -/
def gnsStart (cfg : Mem) (kind t : Nat) (now : Option Int) (asleepS : Nat) (d : GnsData) (g : Gns) : Gns × List Fx :=
  let data : GnsData := match kind with
    | 0 => { fixNum := d.fixNum }
    | 1 => { d with eph := [], drift := none, chans := [] }
    | _ => d
  let chans := (List.range 2).map (fun a => (List.range 24).map (fun k =>
    match data.chans.find? (fun c => c.1 == a && c.2.1 == k) with
    | some c => ({ prn := c.2.2, state := 1, dop := gnsDoppler data now c.2.2, since := t } : GnsChan)
    | none => {}))
  let inputs := g.inputs.map (fun i => { i with search := gnsOrder cfg kind now data })
  let cleared : Gns :=
    { inputs := inputs, store := g.store, station := g.station, refPos := g.refPos, corrs := g.corrs, hadCorr := g.hadCorr, last1002 := g.last1002,
      fixNum := g.fixNum }
  ({ cleared with
      start := kind, chans := chans, data := { data with chans := [] }, started := t, rates := (gnsPosRate cfg, gnsHdgRate cfg)
      timeKnown := decide (kind ≠ 0) && now.isSome },
   [.event 27 ([byteOf kind, 0#8, 0#8, 0#8] ++ u32 (satN 32 asleepS))] ++ gnsEnds g)

/-- Entry to moored standby (R287): channels stop, what a HOT start uses is held. -/
def gnsSleep (g : Gns) : Gns × List Fx :=
  let d := gnsSnapshot g
  ({ g with
      asleep := true, data := d, chans := [List.replicate 24 {}, List.replicate 24 {}], base := 0, pass := 0, hand := [], timeValid := false, fixes := [{}, {}] },
   gnsEnds g)

/-- Wake after `ns` asleep: HOT below 4 h, WARM from 4 h on. -/
def gnsWake (cfg : Mem) (t : Nat) (now : Option Int) (ns : Nat) (g : Gns) : Gns × List Fx :=
  gnsStart cfg (if ns < 14400000000000 then 2 else 1) t now (ns / 1000000000) g.data { g with asleep := false }

/-- Start from the store (R292): HOT, or COLD where there is none whose CRC-32C checks. -/
def gnsStartStore (cfg : Mem) (t : Nat) (now : Option Int) (g : Gns) : Gns × List Fx :=
  match g.store.filter (·.crcOk) with
  | some d => gnsStart cfg 2 t now 0 d.data { g with asleep := false, fixNum := d.data.fixNum }
  | none => gnsStart cfg 0 t none 0 {} { g with asleep := false, fixNum := 0 }

/-! Views. -/

def gnsAntStat (g : Gns) (a : Nat) : Nat :=
  let i := gnsInput g a
  i.supply + satN 8 i.ma * 256 + ((gnsChans g a).filter (fun c => decide (c.state ≠ 0))).length * 65536

def gnsFixStat (g : Gns) (a : Nat) : Nat :=
  let f := g.fixes.getD a {}
  f.type + b2n f.raimOk * 4 + f.sats * 256 + satN 16 f.hdop * 65536

def gnsBaseStat (g : Gns) : Nat := g.base + g.common * 256 + g.ratio * 65536

def gnsStation (g : Gns) (t : Nat) : Nat :=
  g.station + (match g.last1002 with | some x => satN 16 ((t - x) / 100000000) | none => 0) * 65536

def gnsStatusView (g : Gns) : Nat :=
  b2n g.timeValid * 256 + b2n ((g.fixes.getD 0 {}).type == 2) * 512 + g.base * 1024 + g.start * 4096

def gnsChanStat (c : GnsChan) : Nat := c.prn + b2n c.used * 64 + b2n c.slip * 128 + c.state * 256 + c.cn0 * 65536

def gnsAntBytes (f : GnsFix) : List Byte :=
  u32 f.lat ++ u32 f.lon ++ s32 f.hgt ++ u32 f.sigma ++ u32 (if f.type = 0 then 0 else gnsV4 f) ++ u32 f.age ++ s32 f.vn ++ s32 f.ve

/-- Table 11.9. -/
def gnsFixBytes (g : Gns) : List Byte :=
  u64 g.fixNum ++ u64 g.tai ++ u64 g.epochMono ++ gnsAntBytes (g.fixes.getD 0 {}) ++ gnsAntBytes (g.fixes.getD 1 {}) ++
  u32 g.heading ++ u32 g.pitch ++ u32 g.length ++ [byteOf g.base, byteOf g.common] ++ u16 g.ratio ++ s32 g.drift ++ u16 g.station ++
  [byteOf g.start, byteOf (b2n g.posEpoch + 2 * b2n g.timeValid)]

/-- Table 11.8, the channels of an input. -/
def gnsChanBytes (g : Gns) (a : Nat) : List Byte :=
  u64 g.fixNum ++ (gnsChans g a).flatMap (fun c =>
    [byteOf c.prn, byteOf c.state, byteOf (b2n c.used + 2 * b2n c.slip + 4 * b2n c.corrected), 0#8] ++ u16 c.cn0 ++
    [byteOf (unsigned 8 c.elev), 0#8] ++ u16 c.az ++ s16 (asrRound c.dop 2))

end Sys2Proof.Machine
end

