-- ==== Sys2Proof/Machine/LogicEngine.lean ====
section
/-! DEFINITION. The Logic Engine: images, function blocks, the logic cycle, loading, online change (chapter 15). -/

namespace Sys2Proof.Machine

/-! The program image (R371, R372). -/

/-- A byte of the installed image. -/
def imgByte (cfg : Mem) (o : Nat) : Byte := cfgByte cfg 0x0C00 o
def imgU32 (cfg : Mem) (o : Nat) : Nat := cfgU32 cfg 0x0C00 o
def imgU16 (cfg : Mem) (o : Nat) : Nat := cfgU16 cfg 0x0C00 o

/-- Whether an image is installed (R383): MAGIC is there. -/
def lgcInstalled (cfg : Mem) : Bool := imgU32 cfg 0 == 0x43474C57

/-- Program state: 0 EMPTY, 1 STOPPED, 2 RUNNING (R383). -/
def lgcState (cfg : Mem) : Nat := if !lgcInstalled cfg then 0 else if cfgU8 cfg 0x0C01 0 % 2 = 1 then 2 else 1

def lgcPeriod (cfg : Mem) : Nat := (imgByte cfg 6).toNat
def lgcSize (cfg : Mem) : Nat := imgU32 cfg 8
def lgcProgramId (cfg : Mem) : Nat := imgU32 cfg 12
def lgcNInst (cfg : Mem) : Nat := imgU32 cfg 16
def lgcNRet (cfg : Mem) : Nat := imgU32 cfg 24
def lgcDataSize (cfg : Mem) : Nat := imgU32 cfg 28
def lgcConstSize (cfg : Mem) : Nat := imgU32 cfg 32
def lgcOfsInst (cfg : Mem) : Nat := imgU32 cfg 36
def lgcOfsBind (cfg : Mem) : Nat := imgU32 cfg 40
def lgcOfsRet (cfg : Mem) : Nat := imgU32 cfg 44
def lgcOfsInit (cfg : Mem) : Nat := imgU32 cfg 48
def lgcOfsConst (cfg : Mem) : Nat := imgU32 cfg 52
/-- The image's CRC, its last four bytes. -/
def lgcCrc (cfg : Mem) : Nat := if lgcInstalled cfg then imgU32 cfg (lgcSize cfg - 4) else 0

/-- An instance (Table 15.2). -/
structure LInst where
  type : Nat
  nin : Nat
  key : Nat
  ofs : Nat
  bind : Nat
  deriving DecidableEq, Repr

def lgcInst (cfg : Mem) (k : Nat) : LInst :=
  let o := lgcOfsInst cfg + 16 * k
  { type := imgU16 cfg o, nin := (imgByte cfg (o + 2)).toNat, key := imgU32 cfg (o + 4), ofs := imgU32 cfg (o + 8), bind := imgU32 cfg (o + 12) }

/-- The reference bound to input `i` of an instance; none where it is unbound. -/
def lgcRef (cfg : Mem) (x : LInst) (i : Nat) : Option Nat :=
  let r := imgU32 cfg (lgcOfsBind cfg + 4 * (x.bind + i))
  if r = 0xFFFFFFFF then none else some r

/-! Regions (R373). -/

def wordsDflt (_ : Nat) : Word := 0
def wget (m : Words) (o : Nat) : Nat := (sparseGet wordsDflt m (o / 4)).toNat
def wset (m : Words) (o v : Nat) : Words := sparseSet wordsDflt m (o / 4) (BitVec.ofNat 32 v)

/-- A run of a logic cycle: regions, the cost so far, arithmetic events, the first one's instance and type, effects. -/
structure LRun where
  data : Words
  out : Words
  consts : Words
  inp : List Nat
  sys : List Nat
  cost : Nat
  arith : Nat
  firstArith : Option (Nat × Nat)
  fx : List Fx

/-- A constant: changed online, or the image's. -/
def lgcConst (cfg : Mem) (consts : Words) (o : Nat) : Nat :=
  match consts.find? (fun c => c.1 == o / 4) with
  | some c => c.2.toNat
  | none => imgU32 cfg (lgcOfsConst cfg + o / 4 * 4)

/-- The word a reference names (Table 15.3). -/
def lgcRead (cfg : Mem) (r : LRun) (ref : Nat) : Nat :=
  let o := ref % 2 ^ 28
  match ref / 2 ^ 28 with
  | 0 => wget r.data o
  | 1 => lgcConst cfg r.consts o
  | 2 => r.inp.getD (o / 4) 0
  | 3 => wget r.out o
  | _ => r.sys.getD (o / 4) 0

/-! Members. Inputs come first, then outputs, then state. -/

/-- Outputs and state words of a type: (outputs, words of edge memory, words of timer or counter state). -/
def lgcShape (type : Nat) : Nat × Nat × Nat :=
  match type with
  | 7 | 8 => (1, 1, 0)
  | 9 => (2, 1, 2)
  | 10 | 11 => (2, 1, 3)
  | 12 | 13 => (2, 1, 0)
  | 27 | 28 => (0, 0, 0)
  | _ => (1, 0, 0)

/-- Types of the inputs that are IN members: 0 BOOL, 1 DINT, 2 FIX, 3 TIME, 4 WORD; none for a P member (Table 15.6). -/
def lgcInType (type i : Nat) : Option Nat :=
  match type with
  | 1 | 2 | 3 | 4 | 5 | 6 | 7 | 8 => some 0
  | 9 | 10 | 11 => if i = 0 then some 0 else some 3
  | 12 | 13 => if i = 2 then some 1 else some 0
  | 14 | 15 | 16 | 17 | 18 | 20 | 21 | 25 => some 2
  | 19 => if i = 0 then some 0 else some 4
  | 22 | 23 => some 4
  | 24 => some 1
  | 26 => if i = 0 then some 4 else some 1
  | 27 => if i = 0 then some 4 else none
  | 28 => if i = 0 then some 0 else none
  | 29 => if i = 0 then some 0 else none
  | _ => none

/-- Base cost of Table 15.6; CRC's LEN part is added where it executes. -/
def lgcCost (type n : Nat) : Nat :=
  match type with
  | 1 | 2 => 20 + 4 * n
  | 3 | 5 | 6 | 20 | 21 | 22 | 24 | 25 | 26 | 27 => 28
  | 4 | 23 => 24
  | 7 | 8 | 14 | 15 | 19 | 28 => 32
  | 9 => 64
  | 10 | 11 => 68
  | 12 | 13 => 44
  | 16 => 40
  | 17 => 72
  | 18 => 36
  | _ => 24

/-- Saturation of an exact result to the bounds of a 32-bit format, and whether it saturated (R375). -/
def lgcSat (x : Int) : Int × Bool := (satS 32 x, decide (satS 32 x ≠ x))

/-- DIV of R375. -/
def lgcDiv (a b : Int) : Int × Bool :=
  if b = 0 then (if a = 0 then 0 else if a < 0 then -2147483648 else 2147483647, true)
  else
    let n := if b < 0 then -(a * 65536) else a * 65536
    lgcSat (divNearAway n b.natAbs)

/-- EL after `dt`, saturating at 2^64 − 1. -/
def elAdd (el dt : Nat) : Nat := Nat.min (el + dt) (2 ^ 64 - 1)

/-- The bytes a CRC block's DMA reads: from instance data or constants, up to the region's end; whether it was cut (R317, R377). -/
def lgcDma (cfg : Mem) (data consts : Words) (src len : Nat) : List Byte × Bool :=
  let o := src % 2 ^ 24
  let konst := bits src 24 1 == 1
  let size := if konst then lgcConstSize cfg else lgcDataSize cfg
  let n := Nat.min (len % 2 ^ 24) (size - o)
  let byte := fun (a : Nat) => byteOf ((if konst then lgcConst cfg consts a else wget data a) / 2 ^ (8 * (a % 4)))
  ((List.range n).map (fun i => byte (o + i)), decide (n < len % 2 ^ 24))

/-- What a block computes: new words by member index, a write to the output image, whether its arithmetic saturated, extra cost, effects. -/
structure LRes where
  set : List (Nat × Nat) := []
  put : Option (Nat × Nat) := none
  arith : Bool := false
  extra : Nat := 0
  fx : List Fx := []

def wb (b : Bool) : Nat := b2n b
def ws (x : Int) : Nat := unsigned 32 x

/-- A block's execution from its members `m` (words by index), its inputs already taken; `n` inputs; `dt` in ns (R374 to R377). -/
def lgcBlock (cfg : Mem) (r : LRun) (type n dt : Nat) (m : Nat → Nat) : LRes :=
  let t := fun (i : Nat) => decide (m i ≠ 0)
  let s := fun (i : Nat) => signed 32 (m i)
  let q := fun (b : Bool) => ({ set := [(n, wb b)] } : LRes)
  let o := fun (x : Int × Bool) => ({ set := [(n, ws x.1)], arith := x.2 } : LRes)
  let el := m (n + 3) + m (n + 4) * 2 ^ 32
  let el2 := m (n + 4) + m (n + 5) * 2 ^ 32
  let pt := m 1 * 1000000
  let et := fun (e : Nat) => Nat.min (e / 1000000) (m 1)
  match type with
  | 1 => q ((List.range n).all t)
  | 2 => q ((List.range n).any t)
  | 3 => q (t 0 != t 1)
  | 4 => q (!t 0)
  | 5 => q (t 0 || (!t 1 && t n))
  | 6 => q (!t 1 && (t 0 || t n))
  | 7 => { set := [(n, wb (t 0 && !t (n + 1))), (n + 1, wb (t 0))] }
  | 8 => { set := [(n, wb (!t 0 && t (n + 1))), (n + 1, wb (t 0))] }
  | 9 =>
    let e1 := if t 0 && t (n + 2) then elAdd el dt else el
    let e := if t 0 then e1 else 0
    { set := [(n, wb (t 0 && decide (pt ≤ e))), (n + 1, et e), (n + 2, wb (t 0)), (n + 3, e % 2 ^ 32), (n + 4, e / 2 ^ 32)] }
  | 10 =>
    let (run, e) : Bool × Nat :=
      if t 0 then (false, 0) else if t (n + 2) then (true, 0)
      else if t (n + 3) then (let e := elAdd el2 dt; (decide (e < pt), e)) else (false, el2)
    { set := [(n, wb (t 0 || run)), (n + 1, et e), (n + 2, wb (t 0)), (n + 3, wb run), (n + 4, e % 2 ^ 32), (n + 5, e / 2 ^ 32)] }
  | 11 =>
    let (run, e) : Bool × Nat :=
      if t (n + 3) then (let e := elAdd el2 dt; (decide (e < pt), e))
      else if t 0 && !t (n + 2) then (true, 0) else (false, el2)
    let e := if !run && !t 0 then 0 else e
    { set := [(n, wb run), (n + 1, et e), (n + 2, wb (t 0)), (n + 3, wb run), (n + 4, e % 2 ^ 32), (n + 5, e / 2 ^ 32)] }
  | 12 =>
    let cv := if t 1 then 0 else if t 0 && !t (n + 2) then min (s (n + 1) + 1) 2147483647 else s (n + 1)
    { set := [(n, wb (decide (s 2 ≤ cv))), (n + 1, ws cv), (n + 2, wb (t 0))] }
  | 13 =>
    let cv := if t 1 then s 2 else if t 0 && !t (n + 2) then max (s (n + 1) - 1) (-2147483648) else s (n + 1)
    { set := [(n, wb (decide (cv ≤ 0))), (n + 1, ws cv), (n + 2, wb (t 0))] }
  | 14 => o (lgcSat (s 0 + s 1))
  | 15 => o (lgcSat (s 0 - s 1))
  | 16 => o (lgcSat (mulAsr (s 0) (s 1) 16))
  | 17 => o (lgcDiv (s 0) (s 1))
  | 18 => o (min (max (s 1) (s 0)) (s 2), false)
  | 19 => { set := [(n, if t 0 then m 2 else m 1)] }
  | 20 => q (decide (s 1 < s 0))
  | 21 => q (decide (s 1 ≤ s 0))
  | 22 => q (m 0 == m 1)
  | 23 => { set := [(n, m 0)] }
  | 24 => o (lgcSat (s 0 * 65536))
  | 25 => o (lgcSat (divNearAway (s 0) 65536))
  | 26 => q (bits (m 0) (m 1 % 32) 1 == 1)
  | 27 => { put := some (m 1 % 2 ^ 28, m 0) }
  | 28 => { put := some (m 1 % 2 ^ 28, setBit (wget r.out (m 1 % 2 ^ 28)) (m 2 % 32) (t 0)) }
  | 29 =>
    if !t 0 then {} else
    let p := m 3 % 8
    let (bs, cut) := lgcDma cfg r.data r.consts (m 1) (m 2)
    let v := crcFeed p (crcInit p) bs
    { set := [(n, crcResult p v)], extra := 72 + m 2 / 4,
      fx := [.field (Reg.crcCtrl + 192) 0 3 p, .field (Reg.crcValue + 192) 0 32 v, .field (Reg.crcDmaSrc + 192) 0 25 (m 1),
        .field (Reg.crcDmaLen + 192) 0 24 (m 2)] ++ (if cut then [.flag (Reg.crcStat + 192) 2, .event 87 [3, 1]] else []) }
  | _ => {}

/-- A value as a member of a type holds it: a BOOL is written as 1 where it reads as true (log 128). -/
def lgcAs (type : Option Nat) (v : Nat) : Nat := if type = some 0 then b2n (v != 0) else v

/-- Inputs bound to references are taken into their members, in member order (R372). -/
def lgcBindAll (cfg : Mem) (x : LInst) (r : LRun) : LRun :=
  (List.range x.nin).foldl (fun r i => match lgcRef cfg x i with
    | some ref => { r with data := wset r.data (x.ofs + 4 * i) (lgcAs (lgcInType x.type i) (lgcRead cfg r ref)) }
    | none => r) r

/-- The input an edge memory takes its first value from is input 0 of every type that has one; the memory's member index (R386). -/
def lgcEdge (type n : Nat) : Option Nat :=
  match type with
  | 7 | 8 => some (n + 1)
  | 9 | 10 | 11 | 12 | 13 => some (n + 2)
  | _ => none

/-- Instance `k` executes; in the first cycle its edge memory first takes its input's value. -/
def lgcExec1 (cfg : Mem) (first : Bool) (dt : Nat) (r0 : LRun) (k : Nat) : LRun :=
  let x := lgcInst cfg k
  let r1 := lgcBindAll cfg x r0
  let r := match first, lgcEdge x.type x.nin with
    | true, some e => { r1 with data := wset r1.data (x.ofs + 4 * e) (b2n (wget r1.data x.ofs != 0)) }
    | _, _ => r1
  let res := lgcBlock cfg r x.type x.nin dt (fun i => wget r.data (x.ofs + 4 * i))
  { r with
    data := res.set.foldl (fun d p => wset d (x.ofs + 4 * p.1) p.2) r.data
    out := match res.put with
      | some p => wset r.out p.1 p.2
      | none => r.out
    cost := r.cost + lgcCost x.type x.nin + res.extra
    arith := r.arith + b2n res.arith
    firstArith := if res.arith && r.firstArith.isNone then some (k, x.type) else r.firstArith
    fx := r.fx ++ res.fx }

/-- Every T member of an instance set to 0 (R386). -/
def lgcClearT (cfg : Mem) (d : Words) (k : Nat) : Words :=
  let x := lgcInst cfg k
  let (o, e, t) := lgcShape x.type
  (List.range t).foldl (fun d i => wset d (x.ofs + 4 * (x.nin + o + e + i)) 0) d

/-- The retained-map entries of an image: key, type hash, offset within the members, words, and the instance's data offset (Table 15.4). -/
def lgcRetEntries (cfg : Mem) : List (Nat × Nat × Nat × Nat) :=
  (List.range (lgcNRet cfg)).map (fun k =>
    let o := lgcOfsRet cfg + 12 * k
    let key := imgU32 cfg o
    let base := match (List.range (lgcNInst cfg)).find? (fun i => (lgcInst cfg i).key == key) with
      | some i => (lgcInst cfg i).ofs
      | none => 0
    (key, imgU32 cfg (o + 4), base + imgU16 cfg (o + 8), imgU16 cfg (o + 10)))

/-- What a program that stops leaves for a later START (R386). -/
def lgcRetain (cfg : Mem) (data : Words) : List (Nat × Nat × List Nat) :=
  (lgcRetEntries cfg).map (fun e => (e.1, e.2.1, (List.range (e.2.2.2 / 4)).map (fun i => wget data (e.2.2.1 + 4 * i))))

/-- Instance data of a START: the initial data with the retained entries, timers at 0; entries carried and not carried. -/
def lgcInitial (cfg : Mem) (last : List (Nat × Nat × List Nat)) : Words × Nat × Nat :=
  let init := (List.range (lgcDataSize cfg / 4)).foldl (fun d i => wset d (4 * i) (imgU32 cfg (lgcOfsInit cfg + 4 * i))) []
  let (d, yes, no) := (lgcRetEntries cfg).foldl (fun acc e =>
    match last.find? (fun l => l.1 == e.1 && l.2.1 == e.2.1) with
    | some l => (((List.range (e.2.2.2 / 4)).foldl (fun d i => wset d (e.2.2.1 + 4 * i) (l.2.2.getD i 0)) acc.1), acc.2.1 + 1, acc.2.2)
    | none => (acc.1, acc.2.1, acc.2.2 + 1)) (init, 0, 0)
  ((List.range (lgcNInst cfg)).foldl (lgcClearT cfg) d, yes, no)

/-! The logic cycle (R378 to R380). -/

/-- Whether a VESSEL millisecond count of a cycle tick is a logic tick; `pms` is P in ms. -/
def isLogicTick (cfg : Mem) (pms vesselMs : Nat) : Bool := lgcPeriod cfg * pms != 0 && vesselMs % (lgcPeriod cfg * pms) == 0

/-- Whether the installed image exceeds a capacity that is not checked (R2, R371). -/
def lgcOver (cfg : Mem) : Bool := decide (4096 < lgcNInst cfg) || decide (524288 < lgcDataSize cfg) || decide (131072 < lgcConstSize cfg)

/-- What a logic cycle of such an image computes is unpredictable (R2, R394): its data, its output image and its cost are free (log 120). -/
def lgcFree (cfg : Mem) (num : Nat) (r : LRun) : LRun :=
  let w := fun (k n : Nat) => (List.range (n / 4)).foldl (fun d i => wset d (4 * i) (Config.freeNat 120 [(num : Int), (k : Int), (i : Int)] % 2 ^ 32)) []
  { r with data := w 0 (lgcDataSize cfg), out := w 3 0x1200, cost := Config.freeNat 120 [(num : Int), 5] % 2 ^ 32 }

/-- dt of a logic cycle in control cycle `n` (R378): the time since the previous executed logic tick; after a takeover P for each control cycle since (R393). -/
def lgcDt (tick n pms : Nat) (gap : Bool) (g : Lgc) : Nat :=
  if g.first then 0 else match g.lastTick with
    | some x => if gap then pms * 1000000 * (n - g.lastNum) else tick - x
    | none => 0

/-- A logic cycle begins at MONO `t`, of the logic tick at MONO `tick`, in control cycle `n`, the first after a takeover where `gap`: everything it computes, held until
it completes and is released. -/
def lgcCycle (cfg : Mem) (t tick vesselMs pms n : Nat) (gap : Bool) (inp sys : Nat → List Nat) (g : Lgc) : Lgc × List Fx :=
  let busy : Bool := match g.cur with
    | some c => !c.complete
    | none => false
  if lgcState cfg ≠ 2 ∨ !isLogicTick cfg pms vesselMs ∨ tick < g.nextStart ∨ busy then (g, []) else
  let (data0, yes, no) := if g.first then lgcInitial cfg g.lastRun else (g.data, g.carried, g.notCarried)
  let fxR := if g.first ∧ no ≠ 0 then [Fx.event 96 (u32 yes ++ u32 no)] else []
  let dt := lgcDt tick n pms gap g
  let out0 := if g.first then [] else g.out
  let data1 := g.pending.foldl (fun d p => if p.1 then d else wset d (4 * p.2.1) p.2.2) data0
  let consts1 := g.pending.foldl (fun c p => if p.1 then sparseInsert (sparseErase c p.2.1) p.2.1 (BitVec.ofNat 32 p.2.2) else c) g.consts
  let num := if g.first then 1 else g.num + 1
  let r0 : LRun :=
    { data := data1, out := out0, consts := consts1, inp := inp 0, sys := sys (dt / 1000000), cost := 1000 + 16 * g.pending.length,
      arith := 0, firstArith := none, fx := [] }
  let r1 := (List.range (lgcNInst cfg)).foldl (lgcExec1 cfg g.first dt) r0
  let r := if lgcOver cfg then lgcFree cfg num r1 else r1
  let tc := tick + 100000 + r.cost
  let per := lgcPeriod cfg * pms * 1000000
  let next := tick + per
  let late := decide (next - pms * 200000 < tc)
  let skip := if next < tc then (tc - next + per - 1) / per else 0
  let idle := (next - tc) / 1000
  let fxA := match r.firstArith with
    | some (k, ty) => [Fx.flag Reg.lgcStatus 1, Fx.count Reg.lgcCntArith r.arith, Fx.event 94 (u16 k ++ [byteOf ty])]
    | none => []
  let fxO := if late then
      [Fx.flag Reg.lgcStatus 0, Fx.count Reg.lgcCntOvr 1] ++ (if skip = 0 then [] else [Fx.count Reg.lgcCntSkip skip]) ++ [Fx.event 93 (u32 (satN 32 r.cost) ++ u32 skip)]
    else []
  let snap : LgcSnap :=
    { num := num, tick := tick, data := r.data, consts := r.consts, inp := r.inp, out := r.out, sys := r.sys, cost := r.cost, idle := idle, carried := yes,
      notCarried := no }
  ({ g with
     data := r.data
     out := r.out
     consts := r.consts
     num := num
     lastTick := some tick
     lastNum := n
     taken := false
     first := false
     pending := []
     cur := some { snap := snap, start := t, tc := tc, cost := r.cost, complete := false, guard := false }
     held := match g.cur with
       | some c => some c.snap
       | none => g.held
     nextStart := next + skip * per
     carried := yes
     notCarried := no
     cost := r.cost
     idle := idle },
   fxR ++ [.count Reg.lgcCntCycles 1, .mini Reg.lgcIdle 16 16 (satN 16 idle)] ++ fxA ++ fxO ++ r.fx)

/-- The logic cycle actually completes. -/
def lgcComplete (t : Nat) (g : Lgc) : Lgc × List Fx :=
  match g.cur with
  | some c =>
    if c.complete then (g, []) else
    let us := (t - c.start) / 1000
    ({ g with
       cur := some { c with complete := true }
       exec := satN 16 us
       nextStart := if c.guard then Nat.max g.nextStart (t + 1) else g.nextStart },
     [.maxi Reg.lgcExec 16 16 (satN 16 us)] ++
     (if c.guard then [.flag Reg.lgcStatus 2, .count Reg.lgcCntGuard 1, .event 97 (u32 (satN 32 us))] else []))
  | none => (g, [])

/-- Whether the newest logic cycle belongs into an output set with its deadline at `deadline` (R379). -/
def lgcDue (g : Lgc) (deadline : Nat) : Bool := match g.cur with
  | some c => decide (c.tc ≤ deadline)
  | none => false

/-- Whether a due logic cycle has actually completed; a stop's zero image waits for nothing. -/
def lgcReady (g : Lgc) (deadline : Nat) : Bool := match g.cur with
  | some c => !(decide (c.tc ≤ deadline)) || c.complete
  | none => true

/-- The release of an output set at MONO `t`: the logic image that enters it, and whether the logic was passed over (R380). -/
def lgcRelease (t deadline : Nat) (g : Lgc) : Lgc × Bool :=
  if g.zeroDue then ({ g with relOut := [], zeroDue := false, cur := none, held := none }, false) else
  let take := fun (g : Lgc) (s : LgcSnap) => { g with relOut := s.out, rel := s, held := none, relAt := some t }
  let rest := match g.held with
    | some h => take g h
    | none => g
  match g.cur with
  | some c =>
    if !(decide (c.tc ≤ deadline)) then (rest, false)
    else if c.complete then ({ take g c.snap with cur := none }, false)
    else ({ rest with cur := some { c with guard := true } }, true)
  | none => (rest, false)

/-! Loading, starting, stopping, online change (R384 to R388). -/

/-- A DATA action's bytes, those beyond the stated size being dropped (log 44). -/
def lgcData (g : Lgc) (o : Nat) (bs : List Byte) : Lgc :=
  let size := g.bufSize.getD 0
  { g with buf := (bs.zipIdx).foldl (fun b x => if o + x.2 < size then sparseInsert (sparseErase b (o + x.2)) (o + x.2) x.1 else b) g.buf }

def bufU32 (g : Lgc) (o : Nat) : Nat := leNat ((List.range 4).map (fun i => sparseGet (fun _ => (0#8)) g.buf (o + i)))

/-- The cause that refuses an INSTALL (Table 15.10, event 95), none where it is accepted. -/
def lgcInstallCheck (state : Nat) (g : Lgc) : Option Nat :=
  let size := g.bufSize.getD 0
  let crc := crc32c ((g.buf.map (·.2)).take (size - 4))
  let sect := fun (o n : Nat) => decide (bufU32 g o + n ≤ bufU32 g 8)
  if state = 2 then some 0
  else if g.bufSize.isNone ∨ g.buf.length ≠ size ∨ size < 68 then some 1
  else if crc ≠ g.bufCrc ∨ bufU32 g (size - 4) ≠ crc then some 2
  else if bufU32 g 0 ≠ 0x43474C57 ∨ bufU32 g 4 % 65536 ≠ 1 then some 3
  else if bufU32 g 8 = size ∧ sect 36 (16 * bufU32 g 16) ∧ sect 40 (4 * bufU32 g 20) ∧ sect 44 (12 * bufU32 g 24) ∧ sect 48 (bufU32 g 28) ∧
    sect 52 (bufU32 g 32) then none
  else some 4

/-- The staged bytes of an INSTALL: the image, and zero beyond it where the present image is longer. -/
def lgcInstallStage (cfg : Mem) (g : Lgc) : Mem :=
  let size := g.bufSize.getD 0
  let old := if lgcInstalled cfg then lgcSize cfg else 0
  g.buf.map (fun c => (cfgKey 0x0C00 c.1, c.2)) ++ (List.range (old - size)).map (fun i => (cfgKey 0x0C00 (size + i), 0#8))

/-- A change of program state (event 92). -/
def lgcStateFx (old new id : Nat) : List Fx := if old = new then [] else [.event 92 ([byteOf old, byteOf new, 0, 0] ++ u32 id)]

/-- START takes effect. -/
def lgcStart (g : Lgc) : Lgc := { g with first := true, num := 0, lastTick := none, taken := false, pending := [], nextStart := 0, cur := none, held := none, out := [] }

/-- STOP takes effect: pending changes are discarded, the output image becomes zero and is due for release. -/
def lgcStop (cfg : Mem) (g : Lgc) : Lgc × List Fx :=
  ({ g with pending := [], out := [], zeroDue := true, cur := none, held := none, first := false, lastRun := if g.num = 0 then g.lastRun else lgcRetain cfg g.data },
   if g.pending.isEmpty then [] else [.count Reg.lgcCntDiscard g.pending.length])

/-- The word an online change names: (constant, word index), or none where it is refused (R387). -/
def lgcTarget (cfg : Mem) (region type inst ofs : Nat) : Option (Bool × Nat) :=
  if region = 1 then (if ofs + 4 ≤ lgcConstSize cfg then some (true, ofs / 4) else none)
  else if region ≠ 0 ∨ lgcNInst cfg ≤ inst then none
  else
    let x := lgcInst cfg inst
    if ofs % 4 ≠ 0 ∨ x.nin ≤ ofs / 4 ∨ (lgcRef cfg x (ofs / 4)).isSome ∨ lgcInType x.type (ofs / 4) ≠ some type then none
    else some (false, (x.ofs + ofs) / 4)

/-- Size in bytes of a region (Table 15.5). -/
def lgcRegionSize (cfg : Mem) (region : Nat) : Nat := match region with
  | 0 => lgcDataSize cfg
  | 1 => lgcConstSize cfg
  | 2 => 0x1100
  | 3 => 0x1200
  | _ => 0x28

/-- Bytes of a region at the newest released logic cycle (R389). -/
def lgcRegionBytes (cfg : Mem) (s : LgcSnap) (region o n : Nat) : List Byte :=
  let word := fun (a : Nat) => match region with
    | 0 => wget s.data a
    | 1 => lgcConst cfg s.consts a
    | 2 => s.inp.getD (a / 4) 0
    | 3 => wget s.out a
    | _ => s.sys.getD (a / 4) 0
  (List.range n).map (fun i => byteOf (word (o + i) / 2 ^ (8 * ((o + i) % 4))))

/-! What the output image drives (R373, R381). -/

def lgcDo (w : Words) : Nat := wget w 0 % 2 ^ 24
def lgcAo (w : Words) (o : Nat) : Int := signed 32 (wget w (0x10 + 4 * o))
def lgcPower (w : Words) (k i : Nat) : Nat := wget w (0x100 + 12 * k + 4 * i)
def lgcChain (w : Words) (s : Nat) : List Byte := (List.range 16).flatMap (fun i => u32 (wget w (0x200 + 64 * (s - 1) + 4 * i)))

end Sys2Proof.Machine
end

