-- ==== Sys2Proof/Machine/FusionStream.lean ====
section
/-! DEFINITION. Voting, stream states, the observer step, and the sample side of the Fusion Unit: clock models, take-in, history, closure, the
fused solution (chapters 04, 05). -/

namespace Sys2Proof.Machine

/-! Values and votes (R128, R129). -/

/-- Components a class votes on. -/
def clsDim (typ : Nat) : Nat := match typ with
  | 1 => 2
  | 2 => 1
  | 3 => 3
  | _ => 2

/-- Factor that brings a component's difference to 32 fraction bits of SIGMA's unit. -/
def clsScale (typ c : Nat) : Int := match typ, c with
  | 1, _ => 1
  | 2, _ => 360
  | 3, 2 => 65536
  | 3, _ => 360
  | 4, 0 => 360
  | 5, _ => 256
  | _, _ => 65536

/-- Whether a component is an angle held as bam32. -/
def clsAngle (typ c : Nat) : Bool := clsScale typ c == 360

/-- Record of FUS_VOTE: 0 GATE1, 1 GATE2, 2 VOTE_K, 3 DRIFT_LIMIT; none may be 0 (R144). -/
def voteParam (cfg : Mem) (typ k : Nat) : Nat := heldParam [-8, (typ : Int), (k : Int)] 0xFFFFFFFF (cfgU32 cfg 0x0803 (16 * (typ - 1) + 4 * k))

/-- Body values of the classes that do not enter the observer. -/
def rawValues (typ : Nat) (b : List Byte) : List Int := match typ with
  | 3 => [getS32 b 8, getS32 b 12, getS32 b 16]
  | 4 => [getS32 b 8, (getU32 b 12 : Nat)]
  | 6 => [(getU32 b 8 : Nat), (getU32 b 12 : Nat)]
  | _ => [(getU32 b 8 : Nat), (getU32 b 12 : Nat), (getU32 b 16 : Nat)]

/-- Difference of two values of a component. -/
def clsDiff (typ c : Nat) (a b : Int) : Int := if clsAngle typ c then bamDiff a b else a - b

/-- The value of a component as the median orders it: HDG against the observer heading. -/
def clsVal (typ c : Nat) (heading v : Int) : Int :=
  if typ = 2 then bamDiff v heading else if clsAngle typ c then signed 32 (bamOf v) else v

/-- The weight 1/σ²; with σ 0 it has no value (R144): free. -/
def voteWeight (n c sg : Nat) : Rat := if sg = 0 then ((1 + Config.freeNat 45 [(n : Int), (c : Int), -3] : Nat) : Rat) else 1 / ((sg * sg : Nat) : Rat)

def medianGo (half : Rat) : Rat → List (Int × Nat × Rat) → Option (Int × Nat)
  | _, [] => none
  | acc, (v, n, w) :: r => if half ≤ acc + w then some (v, n) else medianGo half (acc + w) r

/-- The weighted median of (value, stream, weight). -/
def weightedMedian (xs : List (Int × Nat × Rat)) : Option (Int × Nat) :=
  let total := xs.foldl (fun (a : Rat) q => a + q.2.2) 0
  medianGo (total / 2) 0 (sortBy (fun a b => decide (a.1 < b.1) || (a.1 == b.1 && decide (a.2.1 < b.2.1))) xs)

def actOrSusp (st : StreamState) : Bool := st == .active || st == .suspect

/-- A stream's held value where it is not void at an epoch. -/
def heldAt (cfg : Mem) (o : ObsStep) (tv : Int) (n : Nat) : Option HeldVal :=
  match (o.streams.getD n {}).held with
  | some h => if strOver cfg n (tv - h.ts) 2 then none else some h
  | none => none

/-- The streams of a class in a state. -/
def clsStreams (cfg : Mem) (o : ObsStep) (typ : Nat) (p : StreamState → Bool) : List Nat :=
  (List.range 256).filter (fun n => p (o.streams.getD n {}).state && strType cfg n == typ)

/-- The streams a class's median is formed from (R128). -/
def clsVoters (cfg : Mem) (o : ObsStep) (typ : Nat) : List Nat :=
  let main := clsStreams cfg o typ actOrSusp
  if main.isEmpty then clsStreams cfg o typ (fun s => s == .candidate) else main

/-- Those of them with a held value that is not void, with it. -/
def clsMembers (cfg : Mem) (o : ObsStep) (tv : Int) (typ : Nat) : List (Nat × HeldVal) :=
  (clsVoters cfg o typ).filterMap (fun n => (heldAt cfg o tv n).map (fun h => (n, h)))

/-- Whether more sources of a class are enabled than Table 0.3 allows, a host error with unpredictable results (R2, R117). -/
def clsOver (cfg : Mem) (typ : Nat) : Bool :=
  let n := ((List.range 256).filter (fun n => strEnable cfg n && strType cfg n == typ)).length
  match typ with
  | 1 => decide (8 < n)
  | 2 => decide (4 < n)
  | 3 => decide (4 < n)
  | 4 => decide (4 < n)
  | _ => false

/-- The medians of a class and its voted source, put into the class's part; free values where too many sources are enabled (log 45). -/
def clsVote (cfg : Mem) (tv : Int) (typ : Nat) (o : ObsStep) : ObsStep :=
  let ms := clsMembers cfg o tv typ
  let hd := o.x.getD 2 0
  let med := (List.range (clsDim typ)).map (fun c =>
    weightedMedian (ms.map (fun q => (clsVal typ c hd (q.2.v.getD c 0), q.1, voteWeight q.1 c (q.2.sg.getD c 0)))))
  let voted : Option Nat := match med.head? with
    | some (some q) => some q.2
    | _ => none
  let excess := clsOver cfg typ
  let key := fun (c : Int) => [-9, (typ : Int), tv, c]
  let voted := if excess then (ms[Config.freeNat 45 (key (-1)) % Nat.max 1 ms.length]?).map Prod.fst else voted
  { o with classes := modNth o.classes (typ - 1) (fun k => { k with voted := voted, med := med.zipIdx.map (fun q =>
      if excess then Config.freeInt 45 (key (q.2 : Nat)) else match q.1 with
      | some p => p.1
      | none => 0) }) }

/-- Whether a sample of values `v` and deviations `sg` passes its class's vote (R129), judged on the state of step 2 (R131). -/
def votePass (cfg : Mem) (o : ObsStep) (typ n : Nat) (v : List Int) (sg : List Nat) : Bool :=
  let k := o.classes.getD (typ - 1) {}
  let ms := clsVoters cfg o typ
  if typ = 0 ∨ 6 < typ ∨ v.isEmpty ∨ k.voted.isNone ∨ (ms.contains n ∧ ms.length ≤ 2) then true else
  let hd := o.x.getD 2 0
  let vk := voteParam cfg typ 2
  let d := fun (c : Nat) =>
    let e := clsVal typ c hd (v.getD c 0) - k.med.getD c 0
    (if clsAngle typ c then signed 32 (bamOf e) else e) * clsScale typ c
  let s := fun (c : Nat) => sg.getD c 0
  if typ = 1 then decide (d 0 * d 0 + d 1 * d 1 ≤ (((vk * Nat.max (s 0) (s 1)) ^ 2 : Nat) : Int))
  else (List.range (clsDim typ)).all (fun c => decide ((d c).natAbs ≤ vk * s c))

/-- Whether two held values lie further apart than VOTE_K × √(σa² + σb²) (R133). -/
def heldApart (cfg : Mem) (typ : Nat) (a b : HeldVal) : Bool :=
  let vk := voteParam cfg typ 2
  let d := fun (c : Nat) => clsDiff typ c (a.v.getD c 0) (b.v.getD c 0) * clsScale typ c
  let s := fun (h : HeldVal) (c : Nat) => h.sg.getD c 0
  if typ = 1 then
    let m := fun (h : HeldVal) => Nat.max (s h 0) (s h 1)
    decide (((vk ^ 2 * (m a ^ 2 + m b ^ 2) : Nat) : Int) < d 0 * d 0 + d 1 * d 1)
  else (List.range (clsDim typ)).any (fun c => decide (((vk ^ 2 * (s a c ^ 2 + s b c ^ 2) : Nat) : Int) < d c * d c))

/-! Stream states (R132). -/

def stateCode (s : StreamState) : Nat := match s with
  | .candidate => 0
  | .active => 1
  | .suspect => 2
  | .rejected => 3
  | .deselected => 4
  | .disabled => 5

/-- The effects of a transition. -/
def streamFx (n : Nat) (old new : StreamState) (cause : Nat) : List Fx :=
  (if new = .rejected then [Fx.count Reg.fusCntReject 1] else []) ++
  [.event 40 (u8 n ++ u8 (stateCode old) ++ u8 (stateCode new) ++ u8 cause)]

/-- A stream moved to a state at an epoch: its running counts start anew. -/
def streamMove (tv : Int) (n : Nat) (new : StreamState) (cause : Nat) (o : ObsStep) (a : ObsAcc) : ObsStep × ObsAcc :=
  let s := o.streams.getD n {}
  if s.state = new then (o, a) else
  let s' : StreamStep :=
    { s with state := new, cause := cause, stale := decide (new = .suspect ∧ cause = 4), fail := 0, pass := 0, firstTv := none, sinceTv := tv, cleanTv := some tv }
  ({ o with streams := o.streams.set n s' }, a.add (streamFx n s.state new cause))

/-- Streams follow their ENABLE flags (Table 5.2). A stream enabled anew starts with no held value, score or counts. -/
def syncEnable (cfg : Mem) (tv : Int) (o : ObsStep) (a : ObsAcc) : ObsStep × ObsAcc :=
  (List.range 256).foldl (fun (q : ObsStep × ObsAcc) n =>
    let s := q.1.streams.getD n {}
    let on := strEnable cfg n
    if on && s.state == .disabled then
      streamMove tv n .candidate 0 { q.1 with streams := q.1.streams.set n {} } q.2
    else if !on && s.state != .disabled then streamMove tv n .disabled 0 q.1 q.2
    else q) (o, a)

/-- Whether an action of FUS_SET_STREAM_STATE applies to a state (R139): 0 DESELECT, 1 SELECT, 2 READMIT. -/
def actApplies (op : Nat) (s : StreamState) : Bool := match op with
  | 0 => s != .disabled
  | 1 => s == .deselected
  | 2 => s == .rejected
  | _ => false

/-- A host action on a state at the start of an epoch. -/
def fusAct (cfg : Mem) (tv : Int) (x : FusAct) (q : ObsStep × ObsAcc) : ObsStep × ObsAcc :=
  if 10 ≤ x.op then calAct cfg x.n x.op q.1 q.2
  else if actApplies x.op (q.1.streams.getD x.n {}).state then
    streamMove tv x.n (match x.op with
      | 0 => .deselected
      | 1 => .candidate
      | _ => .active) 0 q.1 q.2
  else q

/-! The observer step (R131). -/

/-- What an observer step depends on besides its state and samples: the epoch, τ and ω, the TIME_SUSPECT streams with their u_t, every admitted
sample of the attitude streams, the host actions of the epoch, and whether it is an epoch of a restart's gap. -/
structure ObsEnv where
  tv : Int
  tau : V3
  om : V3
  susp : List (Nat × Nat)
  att : List Sample
  acts : List FusAct
  gap : Bool
  deriving DecidableEq, Repr

/-- A sample of the step with what step 2 made of it, and the time of the stream's sample before it. -/
structure StepSample where
  s : Sample
  typ : Nat
  meas : Option Meas
  v : List Int
  sg : List Nat
  roll : Int
  pitch : Int
  prev : Option Int
  deriving DecidableEq, Repr

/-- The time of a stream's sample before one of the step. -/
def prevTs (o : ObsStep) (smp : List Sample) (s : Sample) : Option Int :=
  ((smp.filter (fun q => q.stream == s.stream && decide (q.ts < s.ts))).map (fun q => q.ts)).foldl
    (fun (m : Option Int) t => match m with
      | some x => some (max x t)
      | none => some t) (o.streams.getD s.stream {}).lastTs

/-- A stream's newest admitted sample becomes its held value. -/
def holdSample (o : ObsStep) (q : StepSample) : ObsStep :=
  { o with streams := modNth o.streams q.s.stream (fun st =>
      let newer := match st.lastTs with
        | some t => decide (t ≤ q.s.ts)
        | none => true
      if newer then { st with lastTs := some q.s.ts, held := if q.v.isEmpty then none else some ⟨q.s.ts, q.v, q.sg⟩ } else st) }

/-- A class's disagreement chooses the used stream anew: lower score, then lower number (R133). -/
def chooseUsed (o : ObsStep) : ObsStep :=
  { o with classes := o.classes.map (fun k =>
      if k.disagree then
        let sc := fun (n : Nat) => (o.streams.getD n {}).score
        { k with used := if sc k.sb < sc k.sa then k.sb else k.sa }
      else k) }

/-- Whether an accepted sample may update the observer (R131). -/
def mayUpdate (cfg : Mem) (o : ObsStep) (typ n : Nat) : Bool :=
  let s := o.streams.getD n {}
  let k := o.classes.getD (typ - 1) {}
  s.state == .active || (k.disagree && k.used == n) ||
  ((clsStreams cfg o typ (fun t => t == .active)).isEmpty && (s.state == .candidate || (s.state == .suspect && s.stale)))

/-- A sample's counts of passing and failing (R132). -/
def countSample (cfg : Mem) (tv : Int) (n : Nat) (prev : Option Int) (ts : Int) (gateOk voteOk : Bool) (st : StreamStep) : StreamStep :=
  let ok := gateOk && voteOk
  let gap : Bool := match prev with
    | some p => strOver cfg n (ts - p) 3
    | none => false
  { st with
    fail := if ok then 0 else st.fail + 1
    pass := if ok then st.pass + 1 else 0
    failCause := if ok then st.failCause else if gateOk then 2 else 1
    firstTv := if !ok then none else if gap then some tv else match st.firstTv with
      | some t => some t
      | none => some tv
    okNow := st.okNow || ok
    cleanTv := if ok then st.cleanTv else some tv }

/-- The gate of a measurement: d² and whether it passes; not gated before its state has been set (R127). -/
def gateOf (o : ObsStep) (q : StepSample) : Bool :=
  match q.typ with
  | 1 => o.posSet
  | 2 => o.hdgSet
  | _ => true

/-- A sample's gate and update with the outcome of its vote (R127, R129, R131, R142). -/
def stepSample (cfg : Mem) (env : ObsEnv) (observed : List Bool) (q : StepSample) (voteOk : Bool) (oa : ObsStep × ObsAcc) : ObsStep × ObsAcc :=
  let (o, a) := oa
  let n := q.s.stream
  let ut := (env.susp.find? (fun p => p.1 == n)).map Prod.snd
  let attSrc := (o.classes.getD 2 {}).voted
  let re : RowEnv := ⟨attSrc, q.roll, q.pitch, observed⟩
  let upd := fun (oa : ObsStep × ObsAcc) =>
    let o := oa.1
    (({ o with lastPos := if q.typ = 1 then some env.tv else o.lastPos, lastHdg := if q.typ = 2 then some env.tv else o.lastHdg } : ObsStep),
     ({ oa.2 with tsusp := oa.2.tsusp || ut.isSome } : ObsAcc))
  let (gateOk, o, a) : Bool × ObsStep × ObsAcc :=
    match q.meas with
    | none => (true, o, a)
    | some m =>
      if gateOf o q then
        let (rho, rs) := measRho cfg o env.tau env.om ut m
        let (d2, gs) := gateStat cfg o re rho m
        let a := a.sats 0xFF (rs + gs)
        let lim := voteParam cfg q.typ (if m.z.length = 1 then 0 else 1)
        let ok := decide (d2 ≤ (lim : Int))
        let o := { o with streams := modNth o.streams n (fun st =>
          { st with d2 := d2.toNat, score := (clampI 0 maxU32 ((st.score : Int) + divNearAway (d2 - (st.score : Int)) 256)).toNat }) }
        if !ok then (false, o, a.add [.count Reg.fusCntGatefail 1, .count (Reg.fusStrmGfail + 16 * n) 1])
        else if voteOk && mayUpdate cfg o q.typ n then
          let r := upd (measUpdate cfg re rho m o a)
          (true, r.1, r.2)
        else (true, o, a)
      else if voteOk && datumSet cfg then
        if q.typ = 1 then
          let r := upd (limitState cfg { o with x := (o.x.set 0 (m.z.getD 0 0)).set 1 (m.z.getD 1 0), posSet := true } a)
          (true, r.1, r.2)
        else
          let z := m.z.getD 0 0
          let r := upd ({ o with x := o.x.set 2 z, hdgSet := true, psiUnwrapped := o.psiUnwrapped + bamDiff z (o.x.getD 2 0) }, a)
          (true, r.1, r.2)
      else (true, o, a)
  let a := if voteOk then a else a.add [.count Reg.fusCntVotefail 1, .count (Reg.fusStrmVfail + 16 * n) 1]
  let o := { o with streams := modNth o.streams n (fun st => countSample cfg env.tv n q.prev q.s.ts gateOk voteOk st) }
  (o, a)

/-! Drift (R130). -/

/-- Mean of a pair over its newest 60 blocks, scaled to 32 fraction bits: (vector components' sums, count, blocks that hold data). -/
def pairSums (tv : Int) (p : PairStep) : Int × Int × Nat × Nat :=
  let bl := p.blocks.filter (fun b => decide (tv / 1000000000 - 60 < b.1))
  (bl.foldl (fun a b => a + b.2.1) 0, bl.foldl (fun a b => a + b.2.2.1) 0, bl.foldl (fun a b => a + b.2.2.2) 0, bl.length)

/-- The mean difference in s16.16 of the class unit, 0 without data: the lower stream's value less the other's, of the component that is further off; for PREF the length of
the vector (R130, log 118). -/
def pairMean (typ : Nat) (tv : Int) (p : PairStep) : Int :=
  let (sx, sy, n, _) := pairSums tv p
  if n = 0 then 0
  else if typ = 1 then divNearAway (isqrt (sx.natAbs ^ 2 + sy.natAbs ^ 2) : Nat) (n * 65536)
  else
    let x := sx * clsScale typ 0
    let y := sy * clsScale typ 1
    divNearAway (if x.natAbs < y.natAbs then y else x) (n * 65536)

/-- Whether the mean exceeds DRIFT_LIMIT with at least 45 of the 60 blocks holding data. -/
def pairOver (cfg : Mem) (typ : Nat) (tv : Int) (p : PairStep) : Bool :=
  let (sx, sy, n, k) := pairSums tv p
  let lim := voteParam cfg typ 3 * 65536 * n
  decide (45 ≤ k) &&
  (if typ = 1 then decide (lim ^ 2 < sx.natAbs ^ 2 + sy.natAbs ^ 2)
   else decide (lim < sx.natAbs * (clsScale typ 0).natAbs) || decide (lim < sy.natAbs * (clsScale typ 1).natAbs))

/-- Components the drift test of a class compares: those in the class's unit. -/
def driftDim (typ : Nat) : Nat := match typ with
  | 2 => 1
  | 4 => 1
  | _ => 2

/-- A pair's part of an epoch: the difference of the held values joins the block of the epoch's second. -/
def pairStep (cfg : Mem) (typ : Nat) (tv : Int) (o : ObsStep) (p : PairStep) : PairStep × List Fx :=
  let sec := tv / 1000000000
  let blocks := match heldAt cfg o tv p.a, heldAt cfg o tv p.b with
    | some x, some y =>
      let d := fun (c : Nat) => if c < driftDim typ then clsDiff typ c (x.v.getD c 0) (y.v.getD c 0) else 0
      (match p.blocks with
       | (s, sx, sy, k) :: r => if s = sec then (s, sx + d 0, sy + d 1, k + 1) :: r else (sec, d 0, d 1, 1) :: (s, sx, sy, k) :: r
       | [] => [(sec, d 0, d 1, 1)])
    | _, _ => p.blocks
  let p1 := { p with blocks := blocks.filter (fun b => decide (sec - 60 < b.1)) }
  let exceeds := pairOver cfg typ tv p1
  ({ p1 with flagged := exceeds },
   if exceeds && !p.flagged then [.event 42 (u8 p.a ++ u8 p.b ++ zeros 2 ++ s32 (satS 32 (pairMean typ tv p1)))] else [])

/-- Drift accumulation over every pair of ACTIVE or SUSPECT streams of a class. -/
def driftStep (cfg : Mem) (tv : Int) (o : ObsStep) (a : ObsAcc) : ObsStep × ObsAcc :=
  let per := fun (typ : Nat) =>
    let ns := clsStreams cfg o typ actOrSusp
    let prs := ns.flatMap (fun x => (ns.filter (fun y => decide (x < y))).map (fun y => (x, y)))
    prs.map (fun q => pairStep cfg typ tv o ((o.pairs.find? (fun p => p.a == q.1 && p.b == q.2)).getD ⟨q.1, q.2, [], false⟩))
  let r := [1, 2, 3, 4, 5, 6].flatMap per
  ({ o with pairs := r.map Prod.fst }, a.add (r.flatMap Prod.snd))

/-- Whether a stream has a drift flag with any partner. -/
def hasDriftFlag (o : ObsStep) (n : Nat) : Bool := o.pairs.any (fun p => p.flagged && (p.a == n || p.b == n))

/-- A drift fault: flagged with more than half of its partners in a class of three or more (R130). -/
def driftFault (o : ObsStep) (n : Nat) : Bool :=
  let own := o.pairs.filter (fun p => p.a == n || p.b == n)
  decide (2 ≤ own.length) && decide (own.length < 2 * (own.filter (fun p => p.flagged)).length)

/-! Two-source disagreement and the transitions (R132, R133). -/

/-- The end of a disagreement; where it ended by 20 clean epochs both streams return to ACTIVE. -/
def disagreeEnd (tv : Int) (typ : Nat) (back : Bool) (o : ObsStep) (a : ObsAcc) : ObsStep × ObsAcc :=
  let k := o.classes.getD (typ - 1) {}
  let o1 := { o with classes := o.classes.set (typ - 1) { k with disagree := false, runApart := 0, runTogether := 0 } }
  let a1 := a.add [.ended 41 typ (u8 typ ++ u8 k.sa ++ u8 k.sb ++ u8 k.used)]
  let mv := fun (n : Nat) (q : ObsStep × ObsAcc) =>
    let s := q.1.streams.getD n {}
    if back && s.state == .suspect && s.cause == 6 then streamMove tv n .active 5 q.1 q.2 else q
  mv k.sb (mv k.sa (o1, a1))

/-- A stream of a disagreement becomes SUSPECT with cause 6. -/
def suspectSix (tv : Int) (n : Nat) (q : ObsStep × ObsAcc) : ObsStep × ObsAcc :=
  let s := q.1.streams.getD n {}
  if s.state = .suspect then
    ({ q.1 with streams := q.1.streams.set n { s with cause := 6, stale := false, pass := 0, sinceTv := tv } }, q.2)
  else streamMove tv n .suspect 6 q.1 q.2

/-- R133 for a class at the end of an epoch; the streams' states are those of the step, `was` (R131). -/
def disagreeStep (cfg : Mem) (was : ObsStep) (tv : Int) (typ : Nat) (oa : ObsStep × ObsAcc) : ObsStep × ObsAcc :=
  let (o, a) := oa
  let k := o.classes.getD (typ - 1) {}
  match clsStreams cfg was typ actOrSusp with
  | [x, y] =>
    let samePair := k.sa == x && k.sb == y
    let (o, a) := if k.disagree && !samePair then disagreeEnd tv typ false o a else (o, a)
    let k := o.classes.getD (typ - 1) {}
    let k := if samePair then k else { k with sa := x, sb := y, runApart := 0, runTogether := 0 }
    let flagged := o.pairs.any (fun p => p.flagged && p.a == x && p.b == y)
    match heldAt cfg o tv x, heldAt cfg o tv y with
    | some hx, some hy =>
      let apart := heldApart cfg typ hx hy
      let k := { k with runApart := if apart then k.runApart + 1 else 0, runTogether := if apart || flagged then 0 else k.runTogether + 1 }
      let o := { o with classes := o.classes.set (typ - 1) k }
      if k.disagree then (if 20 ≤ k.runTogether then disagreeEnd tv typ true o a else (o, a))
      else if 3 ≤ k.runApart ∨ flagged then
        let o := chooseUsed { o with classes := o.classes.set (typ - 1) { k with disagree := true, runTogether := 0 } }
        let u := (o.classes.getD (typ - 1) {}).used
        let a := a.add [.start 41 typ (u8 typ ++ u8 x ++ u8 y ++ u8 u)]
        suspectSix tv y (suspectSix tv x (o, a))
      else (o, a)
    | _, _ =>
      let o := { o with classes := o.classes.set (typ - 1) k }
      if flagged && !k.disagree then
        let o := chooseUsed { o with classes := o.classes.set (typ - 1) { k with disagree := true, runTogether := 0 } }
        let a := a.add [.start 41 typ (u8 typ ++ u8 x ++ u8 y ++ u8 (o.classes.getD (typ - 1) {}).used)]
        suspectSix tv y (suspectSix tv x (o, a))
      else (o, a)
  | _ =>
    let (o, a) := if k.disagree then disagreeEnd tv typ false o a else (o, a)
    ({ o with classes := modNth o.classes (typ - 1) (fun k => { k with sa := 0, sb := 0, runApart := 0, runTogether := 0 }) }, a)

/-- The transitions of Table 5.2 for a stream at the end of an epoch; the class's states are those of the step, `was` (R131). In a restart's gap a silent SUSPECT stream
becomes stale and none is rejected (R143). -/
def streamRules (cfg : Mem) (was : ObsStep) (gap : Bool) (tv : Int) (n : Nat) (oa : ObsStep × ObsAcc) : ObsStep × ObsAcc :=
  let (o, a) := oa
  let s := o.streams.getD n {}
  let typ := strType cfg n
  let silent := fun (k : Nat) => match s.lastTs with
    | some t => strOver cfg n (tv - t) k
    | none => strOver cfg n (tv - s.sinceTv) k
  let silent5 : Bool := match s.lastTs with
    | some t => decide (((5 * 10 ^ 10 : Nat) : Int) ≤ (tv - t) * (strRate cfg n : Nat))
    | none => decide (((5 * 10 ^ 10 : Nat) : Int) ≤ (tv - s.sinceTv) * (strRate cfg n : Nat))
  let disagree := (o.classes.getD (typ - 1) {}).disagree && typ ≠ 0 && typ ≤ 6
  match s.state with
  | .candidate =>
    if silent 3 then ({ o with streams := o.streams.set n { s with firstTv := none } }, a)
    else match s.firstTv with
      | some t => if 10000000000 ≤ tv - t then streamMove tv n .active 5 o a else (o, a)
      | none => (o, a)
  | .active =>
    if 3 ≤ s.fail then streamMove tv n .suspect s.failCause o a
    else if silent5 then streamMove tv n .suspect 4 o a
    else if driftFault o n then streamMove tv n .suspect 3 o a
    else (o, a)
  | .suspect =>
    if s.stale then (if s.okNow then streamMove tv n .active 5 o a else (o, a))
    else if gap && silent5 then ({ o with streams := o.streams.set n { s with stale := true, cause := 4, pass := 0, sinceTv := tv } }, a)
    else
      let barred := hasDriftFlag o n || disagree
      let put := fun (x : StreamStep) => ({ o with streams := o.streams.set n { x with pass := if barred then 0 else x.pass } }, a)
      if 20 ≤ s.pass ∧ !barred then streamMove tv n .active 5 o a
      else if 3 ≤ (clsStreams cfg was typ actOrSusp).length then
        (if 5000000000 ≤ tv - s.sinceTv ∧ !gap then streamMove tv n .rejected 2 o a else put s)
      else put { s with sinceTv := tv }
  | .rejected =>
    match s.cleanTv with
    | some t =>
      if hasDriftFlag o n then ({ o with streams := o.streams.set n { s with cleanTv := some tv } }, a)
      else if 120000000000 ≤ tv - t then streamMove tv n .active 5 o a else (o, a)
    | none => ({ o with streams := o.streams.set n { s with cleanTv := some tv } }, a)
  | .deselected => (o, a)
  | .disabled => (o, a)

/-- The dead-reckoning flags of R134. -/
def drStep (tv : Int) (o : ObsStep) (a : ObsAcc) : ObsStep × ObsAcc :=
  let lost := fun (l : Option Int) => match l with
    | some t => decide (2000000000 ≤ tv - t)
    | none => false
  let fx := fun (cls : Nat) (was now : Bool) => if now && !was then [Fx.start 43 cls (u8 cls)] else if was && !now then [Fx.clear 43 cls] else []
  let p := lost o.lastPos
  let h := lost o.lastHdg
  ({ o with drPos := p, drHdg := h }, a.add (fx 1 o.drPos p ++ fx 2 o.drHdg h))

/-- The windows behind the observability metrics (Table 5.3), extended by an epoch. -/
def windowsStep (tv : Int) (o : ObsStep) : ObsStep :=
  let att := o.classes.getD 2 {}
  { o with
    psiWin := ((tv, o.psiUnwrapped) :: o.psiWin).takeWhile (fun p => decide (tv - 120000000000 < p.1))
    posWin := ((tv, o.x.getD 0 0, o.x.getD 1 0) :: o.posWin).takeWhile (fun p => decide (tv - 120000000000 < p.1))
    attWin := (if att.voted.isSome then (tv, att.med.getD 0 0, att.med.getD 1 0) :: o.attWin else o.attWin).takeWhile
      (fun p => decide (tv - 60000000000 < p.1)) }

/-- One observer step (R131). -/
def observerStep (cfg : Mem) (env : ObsEnv) (o0 : ObsStep) (samples : List Sample) : ObsStep × ObsAcc :=
  let (o, a) := syncEnable cfg env.tv o0 {}
  let (o, a) := (env.acts.filter (fun x => decide (x.tv = env.tv))).foldl (fun q x => fusAct cfg env.tv x q) (o, a)
  let o := { o with streams := o.streams.map (fun st => { st with was := st.state }) }
  let ref := o.x
  let (o, a) := timeUpdate cfg env.tau env.om o a
  let smp := samples.filter (fun s => (o.streams.getD s.stream {}).state != .disabled)
  let raw := (smp.filter (fun s => let t := strType cfg s.stream; t != 1 && t != 2 && t != 5)).map (fun s =>
    let t := strType cfg s.stream
    (⟨s, t, none, rawValues t s.body, [strSigma cfg s.stream 0, strSigma cfg s.stream 1, strSigma cfg s.stream 2], 0, 0, prevTs o smp s⟩ : StepSample))
  let oh := raw.foldl holdSample { o with streams := o.streams.map (fun st => { st with okNow := false }) }
  let oh := [3, 4, 6].foldl (fun o t => clsVote cfg env.tv t o) oh
  let attSrc := (oh.classes.getD 2 {}).voted
  let main := (smp.filter (fun s => let t := strType cfg s.stream; t == 1 || t == 2 || t == 5)).map (fun s =>
    let t := strType cfg s.stream
    let (r, p) := if t = 1 then attAt cfg env.att attSrc s.ts else (0, 0)
    let (m, k) := measOf cfg ref env.tv r p s
    let (v, sg) : List Int × List Nat := match m with
      | some m => (m.z, m.sg)
      | none => ([], [])
    ((⟨s, t, m, v, sg, r, p, prevTs o smp s⟩ : StepSample), k))
  let a := a.sats 0xFF (main.foldl (fun t q => t + q.2) 0)
  let oh := (main.map Prod.fst).foldl holdSample oh
  let oh := [1, 2, 5].foldl (fun o t => clsVote cfg env.tv t o) oh
  let oh := chooseUsed oh
  let all := raw ++ main.map Prod.fst
  let order := (smp.filterMap (fun s => all.find? (fun q => q.s == s))).map (fun q => (q, votePass cfg oh q.typ q.s.stream q.v q.sg))
  let observed := augObserved cfg oh attSrc
  let start := oh.x
  let (o, a) := order.foldl (fun q x => stepSample cfg env observed x.1 x.2 q) (oh, a)
  let (o, a) := driftStep cfg env.tv o a
  let (o, a) := augLimits cfg observed start o a
  let was := o
  let (o, a) := (List.range 256).foldl (fun q n => streamRules cfg was env.gap env.tv n q) (o, a)
  let (o, a) := [1, 2, 3, 4, 5, 6].foldl (fun q t => disagreeStep cfg was env.tv t q) (o, a)
  let (o, a) := drStep env.tv o a
  (windowsStep env.tv o, a)

end Sys2Proof.Machine
end

