-- ==== Sys2Proof/Machine/FusionUnit.lean ====
section
/-! DEFINITION. The sample side of the Fusion Unit: clock models, take-in, late samples, closure, the fused solution, its replies and views (chapter 04). -/

namespace Sys2Proof.Machine

def epNs : Int := 10000000

/-- The smallest multiple of 10 ms at or above a time. -/
def ceilEp (t : Int) : Int := (t + epNs - 1) / epNs * epNs

/-- The greatest multiple of 10 ms at or below a time. -/
def floorEp (t : Int) : Int := t / epNs * epNs

/-- Whether a sample precedes another in admission order (R95). -/
def sampleBefore (a b : Sample) : Bool :=
  decide (a.ts < b.ts) || (a.ts == b.ts && (decide (a.stream < b.stream) || (a.stream == b.stream && decide (a.seq < b.seq))))

/-- Order of late samples (R104). -/
def lateBefore (a b : Sample) : Bool :=
  decide (a.stamp < b.stamp) || (a.stamp == b.stamp && (decide (a.stream < b.stream) || (a.stream == b.stream && decide (a.seq < b.seq))))

/-- The Fusion Unit at a cold start (R114, R142). -/
def fusInitial (cfg : Mem) : Fus :=
  let sts := (List.range 256).map (fun n => if strEnable cfg n then ({ state := .candidate } : StreamStep) else {})
  { started := false, clocks := List.replicate 256 {}, rx := [], align := [], deferred := [], history := [], before := obsInitial sts, newest := none,
    first := 0, taus := [], winds := [], acts := [], sol := none, flags := 2, numClocks := 0, plan := {}, past := [], satNow := false }

/-! Clock models (R90 to R93). -/

/-- Detail of FUS_TIME_SUSPECT. -/
def suspDetail (n : Nat) (enter : Bool) (r : Int) : List Byte := u8 n ++ u8 (b2n enter) ++ zeros 2 ++ s32 (satS 32 r)

/-- A sample of a TIMESRC 1 stream through its clock model: the model and the sample time t_s. -/
def clockSample (cfg : Mem) (c0 : ClockModel) (s : RawSample) : ClockModel × Int × List Fx :=
  let n := s.stream
  let arr : Int := s.stamp
  let lat : Int := strLatency cfg n
  let own : Int := getU64 s.body 0
  let c := if c0.seeded then c0 else { c0 with seeded := true, o := arr - lat - own, d := strDriftInit cfg n, tLast := s.stamp }
  let dt := arr - c.tLast
  let op := c.o + asrRound (c.d * dt) 31
  let map := own + op
  let r := arr - lat - map
  let big := decide (10000000 < r.natAbs)
  let c := { c with lastR := r, resid := pushMax 16 r.natAbs c.resid }
  let c1 :=
    if big then { c with o := arr - lat - own, tLast := s.stamp, suspect := true }
    else { c with o := op + asrRound r 4, d := clampI (-1073742) 1073742 (c.d + divTrunc (r * 524288) (max dt 1000000000)), tLast := s.stamp }
  let c1 := if 5000000 < r.natAbs then { c1 with consStart := s.stamp } else c1
  let enter := if big && !c.suspect then [Fx.start 32 n (suspDetail n true r)] else []
  if c1.suspect then
    if c1.consStart + 60000000000 ≤ s.stamp then ({ c1 with suspect := false }, map, enter ++ [.ended 32 n (suspDetail n false r)])
    else (c1, arr - lat, enter)
  else (c1, map, enter)

/-- u_t of a TIME_SUSPECT stream (R93). -/
def suspUt (cfg : Mem) (n : Nat) (c : ClockModel) : Nat := min (strJitter cfg n + c.resid.foldl Nat.max 0) 100000000

/-- The TIME_SUSPECT streams with their u_t. -/
def suspList (cfg : Mem) (f : Fus) : List (Nat × Nat) :=
  (f.clocks.zipIdx.filter (fun q => q.1.suspect)).map (fun q => (q.2, suspUt cfg q.2 q.1))

/-- A received sample with its sample time and sequence number fixed (R87, R94), the source time in its body zero but for TIMESRC 1 (R89); `ofs` is VESSEL minus MONO at the tick of take-in. -/
def fixSample (cfg : Mem) (ofs : Int) (s : RawSample) (tsMono : Int) : Sample :=
  let n := s.stream
  let tv : Int := (s.stamp : Int) - (strLatency cfg n : Nat) + ofs
  let seq : Nat := match s.seqFix, s.chain, strTimesrc cfg n with
    | some q, _, _ => q
    | none, some (k, _), 2 => k
    | none, _, 1 => getU64 s.body 0 / 1000000
    | none, _, _ => (tv * ((strRate cfg n * 2 : Nat) : Int) / (10 ^ 10 : Nat)).toNat
  { stream := n, seq := seq % 2 ^ 32, ts := tsMono + ofs, tsMono := tsMono, stamp := s.stamp,
    body := if strTimesrc cfg n = 1 then s.body else zeros 8 ++ s.body.drop 8 }

/-- A received sample timed by its stream's time source, with its stream's clock model. -/
def timeSample (cfg : Mem) (ofs : Int) (s : RawSample) (c : ClockModel) : ClockModel × Sample × List Fx :=
  let lat : Int := strLatency cfg s.stream
  match strTimesrc cfg s.stream, s.chain with
  | 1, _ => let (c1, t, fx) := clockSample cfg c s; (c1, fixSample cfg ofs s t, fx)
  | 2, some (_, m) => (c, fixSample cfg ofs s ((m : Int) - lat), [])
  | _, _ => (c, fixSample cfg ofs s ((s.stamp : Int) - lat), [])

/-! Take-in (R88, R95, R103, R110). -/

/-- Effects of discarding a sample of a stream. -/
def discFx (n : Nat) : List Fx := [.count (Reg.fusStrmDisc + 16 * n) 1]

def histSamples (f : Fus) : Nat := f.history.foldl (fun a h => a + h.samples.length) 0

/-- Whether a sample of this stream and sequence number is held: in the buffer, the history, or deferred (log 118). -/
def isDuplicate (f : Fus) (s : Sample) : Bool :=
  let same := fun (q : Sample) => q.stream == s.stream && q.seq == s.seq
  f.align.any same || f.deferred.any same || f.history.any (fun h => h.samples.any same)

/-- The duplicate and rate rules of R88: the stream's model where the sample is accepted. -/
def acceptSample (cfg : Mem) (f : Fus) (s : Sample) : Option ClockModel × List Fx :=
  let n := s.stream
  let c := f.clocks.getD n {}
  if isDuplicate f s then (none, .count Reg.fusCntDup 1 :: discFx n)
  else
    let soon : Bool := match c.tPrev with
      | some p => decide ((s.ts - p) * ((2 * strRate cfg n : Nat) : Int) < ((10 ^ 10 : Nat) : Int)) || decide (s.ts ≤ p)
      | none => false
    if soon then (none, .count Reg.fusCntRatex 1 :: .flag Reg.fusStatus 5 :: .event 37 (u8 n) :: discFx n)
    else
      let lo := match c.minTs with
        | some m => min m s.ts
        | none => s.ts
      (some { c with tPrev := some s.ts, minTs := some lo, newestStamp := s.stamp }, [])

/-- The t_v of the oldest open epoch. -/
def nextOpen (f : Fus) : Int := match f.newest with
  | some t => t + epNs
  | none => f.first

/-- One timed sample enters the alignment buffer, or joins the cycle's late samples. A sample accepted and then dropped for a full store still advances t_prev (log 118). -/
def takeIn (cfg : Mem) (s : Sample) (q : Fus × List Sample × List Fx) : Fus × List Sample × List Fx :=
  let (f, late, fx) := q
  match acceptSample cfg f s with
  | (none, e) => (f, late, fx ++ e)
  | (some c, e) =>
    let f := { f with clocks := f.clocks.set s.stream c }
    if ceilEp s.ts < nextOpen f then (f, late ++ [s], fx ++ e)
    else if 8192 ≤ f.align.length then (f, late, fx ++ e ++ [Fx.flag Reg.fusStatus 3, Fx.event 36 (u8 0)] ++ discFx s.stream)
    else ({ f with align := f.align ++ [s] }, late, fx ++ e)

/-- Take-in of a cycle (R95): the samples stamped before the tick of enabled streams, their clock models in arrival order, then admission in R95's
order. Samples held in the buffer whose epochs have been closed meanwhile are late too (R116). -/
def fusTakeIn (cfg : Mem) (tick : Nat) (ofs : Int) (f : Fus) : Fus × List Sample × List Fx :=
  let due := f.rx.filter (fun s => decide (s.stamp < tick) && strEnable cfg s.stream)
  let f1 := { f with rx := f.rx.filter (fun s => decide (tick ≤ s.stamp)) }
  let arr := sortBy (fun (a b : RawSample) => decide (a.stamp < b.stamp) || (a.stamp == b.stamp && decide (a.stream < b.stream))) due
  let (f2, timed, fx) := arr.foldl (fun (q : Fus × List Sample × List Fx) s =>
    let (c, t, e) := timeSample cfg ofs s (q.1.clocks.getD s.stream {})
    ({ q.1 with clocks := q.1.clocks.set s.stream c }, q.2.1 ++ [t], q.2.2 ++ e)) (f1, [], [])
  let old := f2.align.filter (fun s => decide (ceilEp s.ts < nextOpen f2))
  let f2 := { f2 with align := f2.align.filter (fun s => !decide (ceilEp s.ts < nextOpen f2)) }
  let (f3, late, fx2) := (sortBy sampleBefore timed).foldl (fun q s => takeIn cfg s q) (f2, old, [])
  (f3, late, fx ++ fx2)

/-! Steps over the history (R102 to R106). -/

/-- A record stored with its epoch (R159): of two stored with one epoch the later stands. -/
def newRec (r : TauRec) (l : List TauRec) : List TauRec := r :: l.filter (fun q => decide (q.from_ ≠ r.from_))

/-- The newest record at or before a time. -/
def forceAt (l : List TauRec) (t : Int) : V3 :=
  match l.foldl (fun (m : Option TauRec) r => if r.from_ ≤ t then (match m with
    | some b => if b.from_ ≤ r.from_ then some r else some b
    | none => some r) else m) none with
  | some r => ⟨r.x, r.y, r.n⟩
  | none => {}

/-- Records that epochs from a t_v on can still meet. -/
def recPrune (l : List TauRec) (t : Int) : List TauRec :=
  l.filter (fun r => decide (t ≤ r.from_) || !(l.any (fun q => decide (q.from_ ≤ t) && decide (r.from_ < q.from_))))

/-- The admitted samples of the attitude streams, of each also the newest that has left the history (R99). -/
def attSamples (cfg : Mem) (f : Fus) (more : List Sample) : List Sample :=
  (f.past ++ f.history.flatMap (fun h => h.samples) ++ more).filter (fun s => strType cfg s.stream == 3)

def fusEnv (cfg : Mem) (f : Fus) (gap : Bool) (tv : Int) (more : List Sample) : ObsEnv :=
  { tv := tv, tau := forceAt f.taus tv, om := forceAt f.winds tv, susp := f.plan.susp, att := attSamples cfg f more, acts := f.acts, gap := gap }

/-- What the steps of a cycle have raised together. -/
def accJoin (a b : ObsAcc) : ObsAcc := ⟨a.fx ++ b.fx, a.pivot || b.pivot, a.sat || b.sat, a.tsusp || b.tsusp⟩

/-- Re-run of the history from index `k` on (R105): epochs before it stand. -/
def fusRerun (cfg : Mem) (k : Nat) (f : Fus) : Fus × ObsAcc :=
  let start := if k = 0 then f.before else match f.history[k - 1]? with
    | some h => h.after
    | none => f.before
  let (_, hs, a) := (f.history.drop k).foldl (fun (q : ObsStep × List HistEpoch × ObsAcc) h =>
    let (o, e) := observerStep cfg (fusEnv cfg f h.gap h.tv []) q.1 (h.samples.filter (fun s => strEnable cfg s.stream))
    (o, q.2.1 ++ [{ h with after := o }], accJoin q.2.2 e)) (start, [], {})
  ({ f with history := f.history.take k ++ hs }, a)

/-- The newest observer state. -/
def fusNow (f : Fus) : ObsStep := match f.history.getLast? with
  | some h => h.after
  | none => f.before

/-- The newest sample of each stream among those that have left the history, with one more. -/
def pastAdd (l : List Sample) (s : Sample) : List Sample :=
  match l.find? (fun q => q.stream == s.stream) with
  | some q => if q.ts ≤ s.ts then s :: l.filter (fun q => q.stream != s.stream) else l
  | none => s :: l

/-- The oldest history epoch leaves (R102). -/
def dropOldest (f : Fus) : Fus := match f.history with
  | h :: r => { f with before := h.after, history := r, past := h.samples.foldl pastAdd f.past }
  | [] => f

def dropUntil : Nat → Nat → Fus → Fus
  | 0, _, f => f
  | k + 1, n, f => if 65536 < histSamples f + n then dropUntil k n (dropOldest f) else f

/-- A sample's stream notes its newest admitted sample; effects of an admission. -/
def noteAdmit (s : Sample) (f : Fus) : Fus :=
  { f with clocks := modNth f.clocks s.stream (fun c => { c with newestAdm := if c.newestAdm < s.ts then s.ts else c.newestAdm }) }

def admitFx (s : Sample) : List Fx := [.count (Reg.fusStrmSamples + 16 * s.stream) 1]

/-- Closing an epoch (R98) with the samples it admits; `gap` for an epoch of a restart's gap. -/
def closeEpoch (cfg : Mem) (gap : Bool) (tv : Int) (smp : List Sample) (q : Fus × ObsAcc) : Fus × ObsAcc :=
  let f := dropUntil 128 smp.length q.1
  let (o, a) := observerStep cfg (fusEnv cfg f gap tv smp) (fusNow f) (smp.filter (fun s => strEnable cfg s.stream))
  let f := { f with history := f.history ++ [⟨tv, gap, smp, o⟩], newest := some tv }
  let f := if 128 < f.history.length then dropOldest f else f
  let f := smp.foldl (fun f s => noteAdmit s f) f
  (f, accJoin q.2 { a with fx := a.fx ++ smp.flatMap admitFx })

/-! Readiness and closure (R96, R97). -/

/-- The state of a stream as host actions that no step has met yet leave it. -/
def streamNow (cfg : Mem) (f : Fus) (n : Nat) : StreamState :=
  let s0 := ((fusNow f).streams.getD n {}).state
  let s1 := if strEnable cfg n then (if s0 = .disabled then .candidate else s0) else .disabled
  let pend := f.acts.filter (fun x => x.n == n && decide (x.op < 3) && decide (nextOpen f ≤ x.tv))
  pend.foldl (fun (s : StreamState) x => if actApplies x.op s then (match x.op with
    | 0 => StreamState.deselected
    | 1 => .candidate
    | _ => .active) else s) s1

/-- The slots as pending actions leave them. -/
def slotsNow (cfg : Mem) (f : Fus) : ObsStep :=
  (f.acts.filter (fun x => decide (10 ≤ x.op) && decide (nextOpen f ≤ x.tv))).foldl (fun o x => (calAct cfg x.n x.op o {}).1) (fusNow f)

/-- Whether a required stream brackets an epoch. -/
def brackets (f : Fus) (n : Nat) (tv : Int) : Bool :=
  let c := f.clocks.getD n {}
  match c.minTs, c.tPrev with
  | some a, some b => decide (a ≤ tv) && decide (tv < b)
  | _, _ => false

/-- Whether an open epoch is ready at a tick, and whether a wait limit made it so. -/
def epochReady (cfg : Mem) (f : Fus) (tv tick : Int) : Bool × Bool :=
  let req := (List.range 256).filter (fun n => strEnable cfg n && strRequired cfg n)
  let miss := req.filter (fun n =>
    let s := streamNow cfg f n
    s != .rejected && s != .deselected && !brackets f n tv)
  let grp := fun (g : Nat) =>
    let waiting := miss.any (fun n => strGroup cfg n == g)
    (!waiting || decide (((cfgU16 cfg 0x0801 (4 * g) * 1000000 : Nat) : Int) ≤ tick - tv), waiting)
  let gs := (List.range 8).map grp
  (decide (tv ≤ tick) && gs.all Prod.fst, gs.any Prod.snd)

/-- Closure of up to `k` ready epochs in order; the closures made. Buffered samples of a stream that is no longer enabled are discarded and counted (log 118). -/
def closeReady (cfg : Mem) (tick : Int) : Nat → Fus × ObsAcc → List (Int × List Sample × Bool) → (Fus × ObsAcc) × List (Int × List Sample × Bool)
  | 0, q, done => (q, done)
  | k + 1, q, done =>
    let tv := nextOpen q.1
    match epochReady cfg q.1 tv tick with
    | (true, short) =>
      let own := q.1.align.filter (fun s => ceilEp s.ts == tv)
      let (use, off) := own.partition (fun s => strEnable cfg s.stream)
      let f := { q.1 with align := q.1.align.filter (fun s => ceilEp s.ts != tv) }
      let a := q.2.add (off.flatMap (fun s => discFx s.stream) ++ if short then [.count Reg.fusCntWaitclose 1] else [])
      closeReady cfg tick k (closeEpoch cfg false tv use (f, a)) (done ++ [(tv, use, short)])
    | (false, _) => (q, done)

/-! Late samples (R103 to R105). -/

/-- The late samples of a cycle in R104's order: inserted (at most 4), deferred, with their effects. A sample of an epoch before the first, or of an epoch that is not in the
history, is older than it (log 118). -/
def lateGo (tick : Nat) : List Sample → Fus × List Sample × List Fx → Fus × List Sample × List Fx
  | [], q => q
  | s :: r, (f, ins, fx) =>
    let tv := ceilEp s.ts
    let gone : Bool := match f.history.head? with
      | some h => decide (tv < h.tv)
      | none => true
    if gone then
      let age := ((tick : Int) - s.tsMono).toNat
      lateGo tick r (f, ins, fx ++ [.count Reg.fusCntDiscard 1, .flag Reg.fusStatus 2, .event 33 (u8 s.stream ++ zeros 3 ++ u32 s.seq ++ u64 age)] ++ discFx s.stream)
    else if 4 ≤ ins.length then lateGo tick r ({ f with deferred := f.deferred ++ [s] }, ins, fx)
    else if 65536 ≤ histSamples f then
      lateGo tick r (f, ins, fx ++ [.flag Reg.fusStatus 3, .event 36 (u8 1)] ++ discFx s.stream)
    else
      let f := { f with history := f.history.map (fun h => if h.tv = tv then { h with samples := h.samples ++ [s] } else h) }
      lateGo tick r (noteAdmit s f, ins ++ [s], fx ++ [.count Reg.fusCntLate 1, .count (Reg.fusStrmLate + 16 * s.stream) 1] ++ admitFx s)

/-- The re-run after an insertion, from the oldest epoch that received a sample. -/
def lateRerun (cfg : Mem) (ins : List Sample) (f : Fus) : Fus × ObsAcc × Nat :=
  let tvs := ins.map (fun s => ceilEp s.ts)
  match f.history.findIdx? (fun h => tvs.contains h.tv) with
  | some k =>
    let (f1, a) := fusRerun cfg k f
    (f1, a, f.history.length - k)
  | none => (f, {}, 0)

/-! The solution (R98, R138, Table 5.4). -/

/-- Propagation of a state to the tick (R98), with the saturations of N and E. -/
def propagate (o : ObsStep) (span : Int) : Int × Int × Int × List Fx :=
  let dt := divNearAway (span * 4294967296) (10 ^ 9)
  let g := fun i => o.x.getD i 0
  let psi := (g 2).toNat
  let c := cosBam psi
  let s := sinBam psi
  let vn := asrRound (c * g 3) 30 - asrRound (s * g 4) 30
  let ve := asrRound (s * g 3) 30 + asrRound (c * g 4) 30
  let lim := stateLim.getD 0 0
  let (n, s1) := clipTo (-lim) lim (g 0 + asrRound (vn * dt) 24)
  let (e, s2) := clipTo (-lim) lim (g 1 + asrRound (ve * dt) 24)
  (n, e, ((bamOf (g 2 + radToBam (asrRound (g 5 * dt) 32)) : Nat) : Int), satsFx 0 s1 ++ satsFx 1 s2)

/-- The age of a solution (R138), µs, by the states in which the newest step ran (R131). -/
def solAge (cfg : Mem) (o : ObsStep) (tv : Int) : Nat :=
  let ts := (o.streams.zipIdx.filter (fun q => q.1.was == .active && [1, 2, 5].contains (strType cfg q.2))).filterMap (fun q => q.1.lastTs)
  match ts with
  | [] => 0xFFFFFFFF
  | t :: r => min (((tv - r.foldl min t) / 1000).toNat) 0xFFFFFFFF

/-- The solution of a cycle. -/
def makeSolution (cfg : Mem) (number : Nat) (tickV : Int) (revised : Bool) (a : ObsAcc) (f : Fus) : Solution × List Fx :=
  let o := fusNow f
  let tv := match f.newest with
    | some t => t
    | none => tickV
  let (n, e, psi, fx) := propagate o (tickV - tv)
  let init := !(o.posSet && o.hdgSet)
  let fl := b2n revised + 2 * b2n init + 4 * b2n o.drPos + 8 * b2n o.drHdg + 16 * b2n a.pivot + 32 * b2n (a.sat || !fx.isEmpty) +
    64 * b2n (o.classes.any (fun k => k.disagree)) + 128 * b2n (o.slots.any (fun s => decide (s.state = .learning))) + 256 * b2n a.tsusp
  let (sn, se, sp) := sigmasOf o
  ({ number := number, tv := tv, tick := tickV, age := if f.newest.isNone then 0xFFFFFFFF else solAge cfg o tv, flags := fl, x := o.x.take 15,
     nTick := n, eTick := e, psiTick := psi, sigN := sn, sigE := se, sigPsi := sp,
     voted := [0, 1, 2, 3, 4, 5].map (fun c => match (o.classes.getD c {}).voted with
       | some v => v
       | none => 0xFF) }, fx)

/-- Table 5.4. -/
def solutionBytes (s : Solution) : List Byte :=
  let g := fun i => s.x.getD i 0
  u64 s.number ++ s64 s.tv ++ s64 s.tick ++ u32 s.age ++ u32 s.flags ++ s64 (g 0) ++ s64 (g 1) ++ s32 (g 2) ++ s32 (g 3) ++ s32 (g 4) ++ s32 (g 5) ++
  s64 s.nTick ++ s64 s.eTick ++ s32 s.psiTick ++ s32 (g 6) ++ s32 (g 7) ++ s32 (g 8) ++
  s32 (g 9) ++ s32 (g 10) ++ s32 (g 11) ++ s32 (g 12) ++ s32 (g 13) ++ s32 (g 14) ++
  u32 s.sigN ++ u32 s.sigE ++ u32 s.sigPsi ++ s.voted.flatMap u8 ++ zeros 2

/-! The FU phase (R107, R108). -/

/-- Whether a cycle tick at a VESSEL time closes epochs (R98): to the millisecond it is a multiple of 10 ms. -/
def epochTick (tickV : Int) : Bool := (tickV + 500000) / 1000000 % 10 == 0

/-- The FU phase of a cycle at a tick (MONO `tick`, VESSEL minus MONO `ofs`, cycle epoch `number`), from its own samples. -/
def fuPhase (cfg : Mem) (tick : Nat) (ofs : Int) (number : Nat) (f0 : Fus) : Fus × List Fx :=
  let tickV := (tick : Int) + ofs
  let f := if f0.started then f0 else { f0 with started := true, first := ceilEp tickV }
  let (f, late, fx1) := fusTakeIn cfg tick ofs f
  let f := { f with plan := { susp := suspList cfg f } }
  let queue := f.deferred ++ sortBy lateBefore late
  let (f, ins, fx2) := lateGo tick queue ({ f with deferred := [] }, [], [])
  let nd := f.deferred.length
  let fx3 := if nd = 0 then [] else [Fx.count Reg.fusCntDefer nd, .flag Reg.fusStatus 1, .event 34 (u32 nd)]
  let (f, a, steps) := lateRerun cfg ins f
  let a := { a with sat := a.sat || f.satNow }
  let fx4 := if steps = 0 then [] else [Fx.count Reg.fusCntRerun steps]
  let ((f, a), done) := if epochTick tickV then closeReady cfg tickV 8 (f, a) [] else ((f, a), [])
  let (sol, fx5) := makeSolution cfg number tickV (decide (steps ≠ 0)) a f
  let old := match f.history.head? with
    | some h => h.tv
    | none => nextOpen f
  ({ f with sol := some sol, flags := sol.flags, numClocks := 96000 + 9600 * (steps + done.length) + 19200, plan := ⟨f.plan.susp, ins, done⟩, satNow := false,
            acts := f.acts.filter (fun x => decide (old ≤ x.tv)), taus := recPrune f.taus old, winds := recPrune f.winds old },
   fx1 ++ fx2 ++ fx3 ++ fx4 ++ a.fx ++ fx5)

/-- The FU phase of a Standby (R111): the listed late samples and closures, in the listed order, with the listed TIME_SUSPECT streams; its own clock models run, and its own samples
that the record lists leave its buffer (R116). -/
def fuFollow (cfg : Mem) (tick : Nat) (ofs : Int) (number : Nat) (p : FuPlan) (f0 : Fus) : Fus × List Fx :=
  let tickV := (tick : Int) + ofs
  let f := if f0.started then f0 else { f0 with started := true, first := ceilEp tickV }
  let (f, late, fx1) := fusTakeIn cfg tick ofs f
  let listed := p.late ++ p.closes.flatMap (fun c => c.2.1)
  let isL := fun (s : Sample) => listed.any (fun q => q.stream == s.stream && q.seq == s.seq)
  let f := { f with align := (f.align ++ late ++ f.deferred).filter (fun s => !isL s), deferred := [], plan := { susp := p.susp } }
  let f := p.late.foldl (fun f s =>
    noteAdmit s { f with history := f.history.map (fun h => if h.tv = ceilEp s.ts then { h with samples := h.samples ++ [s] } else h) }) f
  let fx2 := p.late.flatMap (fun s => [Fx.count Reg.fusCntLate 1, .count (Reg.fusStrmLate + 16 * s.stream) 1] ++ admitFx s)
  let (f, a, steps) := lateRerun cfg p.late f
  let a := { a with sat := a.sat || f.satNow }
  let fx4 := if steps = 0 then [] else [Fx.count Reg.fusCntRerun steps]
  let (f, a) := p.closes.foldl (fun q c =>
    closeEpoch cfg false c.1 c.2.1 (q.1, if c.2.2 then q.2.add [.count Reg.fusCntWaitclose 1] else q.2)) (f, a)
  let (sol, fx5) := makeSolution cfg number tickV (decide (steps ≠ 0)) a f
  let old := match f.history.head? with
    | some h => h.tv
    | none => nextOpen f
  ({ f with sol := some sol, flags := sol.flags, numClocks := 96000 + 9600 * (steps + p.closes.length) + 19200, plan := p, satNow := false,
            acts := f.acts.filter (fun x => decide (old ≤ x.tv)), taus := recPrune f.taus old, winds := recPrune f.winds old },
   fx1 ++ fx2 ++ fx4 ++ a.fx ++ fx5)

/-- The gap epochs of a warm restart (R115, R143): every epoch whose t_v lies before the VESSEL time of the first tick, without samples and with τ = 0. -/
def fusGap : Nat → Mem → Int → Fus × List Fx → Fus × List Fx
  | 0, _, _, q => q
  | k + 1, cfg, tickV, (f, fx) =>
    let tv := nextOpen f
    if !f.started ∨ tickV ≤ tv then (f, fx) else
    let (f1, a) := closeEpoch cfg true tv [] (f, {})
    fusGap k cfg tickV (f1, fx ++ a.fx)

/-- A warm restart's gap at the VESSEL time of the first tick. -/
def fusWarm (cfg : Mem) (tickV : Int) (f : Fus) : Fus × List Fx :=
  let k := ((tickV - nextOpen f) / epNs + 1).toNat
  fusGap k cfg tickV ({ f with taus := newRec ⟨nextOpen f, 0, 0, 0⟩ f.taus }, [])

/-! Configuration and host actions. -/

/-- A change of the active configuration, from `old` to `new` (R121, R137, and the coincidences of chapter 04). A stream whose TYPE, LINK or SELECTOR changed also forgets t_prev
(log 118). -/
def fusConfig (old new : Mem) (f : Fus) : Fus × List Fx :=
  let chg := (List.range 256).filter (fun n =>
    strType old n != strType new n || strLink old n != strLink new n || strSelector old n != strSelector new n)
  let gone := f.align.filter (fun s => chg.contains s.stream)
  let f := { f with
    align := f.align.filter (fun s => !chg.contains s.stream)
    clocks := f.clocks.zipIdx.map (fun q => if chg.contains q.2 then { q.1 with seeded := false, suspect := false, resid := [], tPrev := none, minTs := none } else q.1)
    past := f.past.filter (fun s => !chg.contains s.stream) }
  let cleared := chg.filterMap (fun n => if (f.clocks.getD n {}).suspect then some (Fx.clear 32 n) else none)
  -- a FROZEN slot whose lever arm or mounting changed goes OFF (R137); under a LEARNING slot the change is a host error (R144)
  let hit := (slotsNow old f).slots.filter (fun s => decide (s.state ≠ .off) && s.stream < 256 &&
    ((List.range 3).any (fun k => strLever old s.stream k != strLever new s.stream k) ||
     (List.range 2).any (fun k => mountOf old s.stream k != mountOf new s.stream k)))
  let f := { f with acts := f.acts ++ hit.map (fun s => ⟨nextOpen f, s.stream, if s.state = .frozen then 14 else 15⟩) }
  -- the Datum (R121)
  let on := datumSet old
  let on' := datumSet new
  let mapAll := fun (g : ObsStep → ObsStep) => { f with before := g f.before, history := f.history.map (fun h => { h with after := g h.after }) }
  let moved := cfgBytes old 0x0806 0 13 != cfgBytes new 0x0806 0 13
  let (f, fx) :=
    if !moved || !on then (f, [])
    else if !on' then (mapAll (fun o => { o with posSet := false, hdgSet := false, lastPos := none, lastHdg := none, drPos := false, drHdg := false }),
      (if (fusNow f).drPos then [Fx.clear 43 1] else []) ++ if (fusNow f).drHdg then [Fx.clear 43 2] else [])
    else
      let (dn, de) := datumMapRaw (cfgU32 new 0x0806 0) (cfgU32 new 0x0806 4) (cfgU32 old 0x0806 0) (cfgU32 old 0x0806 4)
      let lim := stateLim.getD 0 0
      let (dn, s1) := clipTo (-lim) lim dn
      let (de, s2) := clipTo (-lim) lim de
      let excess := fun (i : Nat) (d : Int) => ((f.before :: f.history.map (fun h => h.after)).map (fun o => (clipTo (-lim) lim (o.x.getD i 0 + d)).2)).foldl (· + ·) 0
      let add := fun (o : ObsStep) =>
        { o with
          x := (o.x.set 0 (clampI (-lim) lim (o.x.getD 0 0 + dn))).set 1 (clampI (-lim) lim (o.x.getD 1 0 + de))
          streams := o.streams.zipIdx.map (fun q => if strType old q.2 = 1 then { q.1 with held := q.1.held.map (fun h =>
            { h with v := [h.v.getD 0 0 + dn, h.v.getD 1 0 + de] }) } else q.1)
          posWin := o.posWin.map (fun p => (p.1, p.2.1 + dn, p.2.2 + de)) }
      (mapAll add, satsFx 0 (s1 + excess 0 dn) ++ satsFx 1 (s2 + excess 1 de))
  let sat := if cfgBytes old 0x0802 0 84 != cfgBytes new 0x0802 0 84 then satsFx 0xFF (coefOf new).sats else []
  let sats := sat ++ if moved && on && on' then fx else []
  ({ f with satNow := f.satNow || !sats.isEmpty }, gone.flatMap (fun s => discFx s.stream) ++ cleared ++ fx ++ sat)

/-- A step of VESSEL (R254): held times move by the step rounded to 10 ms. -/
def fusVesselStep (d : Int) (f : Fus) : Fus :=
  let k := divNearAway d 10000000 * epNs
  let mo := fun (t : Option Int) => t.map (fun x => x + k)
  let st := fun (s : StreamStep) =>
    { s with firstTv := mo s.firstTv, sinceTv := s.sinceTv + k, cleanTv := mo s.cleanTv, lastTs := mo s.lastTs, held := s.held.map (fun h => { h with ts := h.ts + k }) }
  let ob := fun (o : ObsStep) =>
    { o with lastPos := mo o.lastPos, lastHdg := mo o.lastHdg, streams := o.streams.map st
             psiWin := o.psiWin.map (fun p => (p.1 + k, p.2)), attWin := o.attWin.map (fun p => (p.1 + k, p.2)), posWin := o.posWin.map (fun p => (p.1 + k, p.2)) }
  let sm := fun (s : Sample) => { s with ts := s.ts + k }
  let rc := fun (r : TauRec) => { r with from_ := r.from_ + k }
  { f with
    clocks := f.clocks.map (fun c => { c with tPrev := mo c.tPrev, minTs := mo c.minTs, newestAdm := c.newestAdm + k })
    align := f.align.map sm, deferred := f.deferred.map sm
    history := f.history.map (fun h => ⟨h.tv + k, h.gap, h.samples.map sm, ob h.after⟩)
    past := f.past.map sm
    before := ob f.before, newest := mo f.newest, first := f.first + k
    taus := f.taus.map rc, winds := f.winds.map rc, acts := f.acts.map (fun x => { x with tv := x.tv + k }) }

/-- Whether FUS_SET_STREAM_STATE applies (R139). -/
def setStateOk (cfg : Mem) (f : Fus) (n op : Nat) : Bool := decide (n ≤ 255) && actApplies op (streamNow cfg f n)

/-- Whether FUS_CAL_CONTROL applies (R135, R137, R139), without ACCEPT's handle. -/
def calOk (cfg : Mem) (f : Fus) (n action : Nat) : Bool :=
  let o := slotsNow cfg f
  let st := match slotOf o n with
    | some k => (o.slots.getD k {}).state
    | none => .off
  decide (n ≤ 255) && !(augKinds (strType cfg n)).isEmpty &&
  match action, st with
  | 0, .off => (freeRun o (augKinds (strType cfg n)).length).isSome && o.slots.any (fun s => decide (s.state = .off))
  | 1, .learning => true
  | 2, .frozen => true
  | 3, .learning => true
  | 3, .frozen => true
  | 4, .learning => true
  | 4, .frozen => true
  | _, _ => false

/-- A host action joins the next open epoch. -/
def fusQueue (n op : Nat) (f : Fus) : Fus := { f with acts := f.acts ++ [⟨nextOpen f, n, op⟩] }

/-- The slot and the staged values of an ACCEPT: three s32, the item and offset they go to, and their bytes. -/
def calStaged (cfg : Mem) (f : Fus) (n : Nat) : List Int × Nat × Nat × List Byte :=
  let o := slotsNow cfg f
  let a := fun (k : Nat) => augVal o (some n) k
  match strType cfg n with
  | 1 =>
    let v := [0, 1, 2].map (fun k => satS 32 (strLever cfg n k + asrRound (a k) 8))
    (v, 0x0800, 64 * n + 16, v.flatMap s32)
  | 2 =>
    let v := satS 32 (mountOf cfg n 0 + a 3)
    ([v, 0, 0], 0x0805, 8 * n, s32 v)
  | _ =>
    let v := [satS 32 (mountOf cfg n 0 + a 4), satS 32 (mountOf cfg n 1 + a 5)]
    (v ++ [0], 0x0805, 8 * n, v.flatMap s32)

/-- Whether FUS_INJECT's conditions hold (R112). -/
def injectOk (cfg : Mem) (n own : Nat) : Bool :=
  decide (n ≤ 255) && strLink cfg n == 0x60 && strEnable cfg n && !(strTimesrc cfg n == 1 && own == 0)

/-- The sample of an injection that takes effect at a tick: the payload is source time and V0 to V5. -/
def injectSample (cfg : Mem) (tick number n own : Nat) (vals : List Byte) : RawSample :=
  { stream := n, stamp := tick - 1, body := u64 (if strTimesrc cfg n = 1 then own else 0) ++ vals, chain := none, seqFix := some (number % 2 ^ 32) }

/-! Replies and views. -/

/-- FUS_GET_STREAM (Table 4.9); the counters are those of the register file. -/
def streamReply (cfg : Mem) (f : Fus) (mono n cntAdm cntLate cntDisc : Nat) : List Byte :=
  let c := f.clocks.getD n {}
  u16 n ++ u8 (stateCode (streamNow cfg f n)) ++ u8 (b2n c.suspect + 2 * b2n c.seeded + 4 * b2n (strEnable cfg n)) ++ u32 cntAdm ++ u32 cntLate ++ u32 cntDisc ++
  s64 c.o ++ s32 c.d ++ s32 (satS 32 c.lastR) ++ s64 c.newestAdm ++ u64 c.newestStamp ++
  u32 (if c.suspect then satN 32 ((mono - c.consStart) / 1000000) else 0)

/-- FUS_STATUS bits that follow the newest solution. -/
def fusStatusView (f : Fus) : Nat :=
  1024 * bits f.flags 6 1 + 2048 * bits f.flags 2 1 + 4096 * bits f.flags 3 1 + 8192 * bits f.flags 7 1 + 16384 * bits f.flags 1 1

/-- FUS_STRM_STAT_n. -/
def strmStatView (cfg : Mem) (f : Fus) (n : Nat) : Nat :=
  let c := f.clocks.getD n {}
  stateCode (streamNow cfg f n) + 8 * b2n c.suspect + 16 * b2n c.seeded + 65536 * strGroup cfg n + 16777216 * strType cfg n

/-- FUS_CAL_SLOT_k. -/
def calSlotView (cfg : Mem) (f : Fus) (k : Nat) : Nat :=
  let s := (slotsNow cfg f).slots.getD k {}
  (match s.state with
   | .off => 0
   | .learning => 1
   | .frozen => 2) + 4 * b2n s.ready + 8 * b2n s.obs + 16 * b2n s.bound + 256 * s.stream + 65536 * s.first

/-- The RO registers of the FUS block. -/
def fusView (cfg : Mem) (f : Fus) (addr : Nat) : Option Nat :=
  let st := fun (base : Nat) => if base ≤ addr ∧ addr < base + 4096 ∧ (addr - base) % 16 = 0 ∧ (addr - base) / 16 < 256 then some ((addr - base) / 16) else none
  if addr = Reg.fusSol then some f.flags
  else if addr = Reg.fusObsDim then some (slotsNow cfg f).x.length
  else if Reg.fusCalSlot ≤ addr ∧ addr < Reg.fusCalSlot + 48 then some (calSlotView cfg f ((addr - Reg.fusCalSlot) / 4))
  else match st Reg.fusStrmStat, st Reg.fusStrmGate, st Reg.fusStrmScore with
    | some n, _, _ => some (strmStatView cfg f n)
    | none, some n, _ => some ((fusNow f).streams.getD n {}).d2
    | none, none, some n => some ((fusNow f).streams.getD n {}).score
    | none, none, none => none

/-- The mailbox values of Tables 4.10 and 5.9, as words. -/
def fusMbx (cfg : Mem) (f : Fus) (sel : Nat) (tickV : Int) (id : Nat) : Option (List Nat) :=
  let w : Int → List Nat := fun v => [unsigned 64 v % 2 ^ 32, unsigned 64 v / 2 ^ 32]
  let u : Int → Nat := fun v => unsigned 32 v
  match id with
  | 0x0C01 => let c := f.clocks.getD sel {}; some (w c.o ++ w c.tLast ++ [u c.d, u (satS 32 c.lastR)])
  | 0x0C02 =>
    let old := match f.history.head? with
      | some h => h.tv
      | none => 0
    let open_ : Nat := if f.started then ((ceilEp tickV - nextOpen f) / epNs + 1).toNat else 0
    some (w (f.newest.getD 0) ++ w old ++ [open_ % 2 ^ 32, f.align.length])
  | 0x0C03 => f.sol.map (fun s => w s.nTick ++ w s.eTick ++ [u s.psiTick, s.flags])
  | 0x0C04 => f.sol.map (fun s => w s.number ++ w s.tv ++ [s.age, 0])
  | 0x0C05 =>
    let (kn, ke) := datumScale (cfgU32 cfg 0x0806 0)
    some (w kn ++ w ke ++ [cfgU32 cfg 0x0806 0, cfgU32 cfg 0x0806 4])
  | _ => none

end Sys2Proof.Machine
end

