-- ==== Sys2Proof/Machine/Recording.lean ====
section
/-! DEFINITION. The event recorder: queue, coalescing, slots, clearing, cursors and reading (chapter 18). -/

namespace Sys2Proof.Machine

/-- Operating time in 0.1 s (R445). -/
def recOpTime (r : Recorder) (mono : Nat) : Nat := ((r.opBase + mono) / 100000000).toNat

/-- Whether an event's occurrences are recorded (R443): REC_SELECT's bit, an owning chapter's word, or 116 to 119. -/
def recSelected (cfg : Mem) (ev : Nat) : Bool :=
  bits (cfgU8 cfg 0x0E00 (ev / 8)) (ev % 8) 1 == 1 || [49, 60, 61, 106, 116, 117, 118, 119, 124, 126].contains ev

/-- The place of a record in the queue: last, but among records of its own AON clock events come first, in ascending number (R447). -/
def recPut (x : RecRec) : List RecRec → List RecRec
  | [] => [x]
  | y :: ys =>
    if (y :: ys).all (fun z => z.aon == x.aon) && x.kind == 0 && (y.kind != 0 || decide (x.num < y.num)) then x :: y :: ys else y :: recPut x ys

/-- A record enters the queue, or is dropped where 64 are queued (R447). -/
def recEnqueue (x : RecRec) (r : Recorder) : Recorder × List Fx :=
  if 64 ≤ r.queue.length then ({ r with dropped := r.dropped + 1 }, [.count Reg.recCntDrop 1, .flag Reg.recStatus 0])
  else ({ r with queue := recPut x r.queue }, [])

/-- A record of an event enters the queue; where it is not dropped, the second begins in which further occurrences are absorbed (R444). -/
def recBegin (from_ : Nat) (x : RecRec) (r : Recorder) : Recorder × List Fx :=
  let c := r.coalesce.filter (fun c => c.ev != x.num)
  recEnqueue x { r with coalesce := if r.queue.length < 64 then ⟨x.num, from_ + 1000000000, 0, none⟩ :: c else c }

/-- The AON clock of an instant, 32.768 kHz. -/
def aonClock (mono : Nat) : Nat := mono * 32768 / 1000000000

/-- The seconds that have ended: one record each for the absorbed occurrences. -/
def recCoalesceEnd (mono : Nat) (r : Recorder) : Recorder × List Fx :=
  let due := r.coalesce.filter (fun c => decide (c.ends ≤ mono))
  let r0 := { r with coalesce := r.coalesce.filter (fun c => decide (mono < c.ends)) }
  due.foldl (fun acc c => match c.first with
    | some x =>
      let (r2, fx) := recBegin c.ends { x with count := satN 32 c.absorbed, flags := x.flags ||| 2, aon := aonClock c.ends } acc.1
      (r2, acc.2 ++ fx)
    | none => acc) (r0, [])

/-- An occurrence of event `x.num` (R444): recorded, or absorbed within the second after a recorded one. -/
def recOccur (mono : Nat) (x : RecRec) (r : Recorder) : Recorder × List Fx :=
  match r.coalesce.find? (fun c => c.ev == x.num && decide (mono < c.ends)) with
  | some _ =>
    ({ r with
       coalesce := r.coalesce.map (fun c =>
         if c.ev == x.num then { c with absorbed := c.absorbed + 1, first := match c.first with | some y => some y | none => some x } else c) },
     [.count Reg.recCntCoalesce 1])
  | none => recBegin mono x r

/-- An occurrence after seconds that have ended: their records enter the queue first. -/
def recEvent (mono : Nat) (x : RecRec) (r : Recorder) : Recorder × List Fx :=
  let (r1, fx1) := recCoalesceEnd mono r
  let (r2, fx2) := recOccur mono x r1
  (r2, fx1 ++ fx2)

/-- The slot of the record `k` sequences after the newest clear (R446). -/
def recSlot (k : Nat) : Nat := if k < 512 then k else 512 + (k - 512) % 3584

/-- A record's 64 bytes (Table 18.1). -/
def recBytes (seq power module_ : Nat) (x : RecRec) : List Byte :=
  let b := u32 seq ++ [byteOf x.kind, byteOf x.num] ++ u16 x.flags ++ u64 x.opTime ++ u32 power ++ u32 x.count ++ u64 x.vessel ++ u64 x.epoch ++
    (x.detail ++ zeros 16).take 16 ++ [byteOf module_, byteOf x.role, 0, 0]
  b ++ u32 (crc32c b)

def slotSet (slots : List (Nat × Slot)) (k : Nat) (s : Slot) : List (Nat × Slot) := sparseInsert (sparseErase slots k) k s

/-- The head of the queue is written (R446 to R448): the new state, the reply of a REC_WRITE_USER (open request, sequence), effects.
What a slot holds after two failed writes is not stated (log 46). -/
def recWrite (module_ : Nat) (ok1 ok2 : Bool) (r : Recorder) : Recorder × Option (Nat × Nat) × List Fx :=
  match r.queue with
  | [] => (r, none, [])
  | x :: rest =>
    let seq := r.newest + 1
    let k := seq - r.c
    let slot := recSlot k
    let good := ok1 || ok2
    let b := recBytes seq r.power module_ x
    let s : Slot := if good then ⟨b, false⟩ else ⟨Config.freeBytes 46 b, true⟩
    let wrap := decide (4096 ≤ k) && !r.wrapped
    let r1 := { r with queue := rest, newest := seq, slots := slotSet r.slots slot s, wrapped := r.wrapped || wrap, dropped := 0 }
    (r1, x.reply.map (fun i => (i, seq)),
     (if good then [] else [Fx.count Reg.recCntBad 1, Fx.flag Reg.recStatus 1, Fx.event 119 (u16 slot ++ [0])]) ++
     (if wrap then [Fx.event 118 (u32 r.c)] else []) ++
     (if r.dropped = 0 then [] else [Fx.event 116 (u32 r.dropped)]))

/-! What is held (R446, R451, R452). -/

/-- The oldest sequence in the Tail; none while the Tail is empty. -/
def recOldestTail (r : Recorder) : Option Nat :=
  if r.newest < r.c + 512 then none else some (Nat.max (r.c + 512) (r.newest - 3583))

/-- Whether a sequence is in the recorder and not overwritten. -/
def recHeld (r : Recorder) (seq : Nat) : Bool :=
  decide (r.c ≤ seq ∧ seq ≤ r.newest) && (decide (seq < r.c + 512) || (match recOldestTail r with | some o => decide (o ≤ seq) | none => false))

/-- Records held. -/
def recCount (r : Recorder) : Nat := Nat.min (r.newest - r.c + 1) 512 + (match recOldestTail r with | some o => r.newest - o + 1 | none => 0)

/-- The record of a held sequence; none where its slot is lost. -/
def recAt (r : Recorder) (seq : Nat) : Option (List Byte) :=
  match r.slots.find? (fun s => s.1 == recSlot (seq - r.c)) with
  | some s => if s.2.lost then none else some s.2.bytes
  | none => none

/-- The sequence after one, in a direction; none at the end. -/
def recNext (r : Recorder) (backward : Bool) (seq : Nat) : Option Nat :=
  let tail := recOldestTail r
  if backward then
    if seq ≤ r.c then none else if tail = some seq then some (r.c + 511) else some (seq - 1)
  else if r.newest ≤ seq then none
  else if seq = r.c + 511 then tail else some (seq + 1)

/-- Records read from a sequence: what was read, whether a lost slot was passed over, the next cursor, whether the end was reached. -/
def recReadGo (r : Recorder) (backward : Bool) : Nat → Nat → Nat → List (List Byte) × Bool × Nat × Bool
  | 0, _, seq => ([], false, seq, false)
  | _ + 1, 0, seq => ([], false, seq, false)
  | fuel + 1, n + 1, seq =>
    let after := if backward then seq + 4294967295 else seq + 1
    match recAt r seq with
    | some b =>
      (match recNext r backward seq with
      | some s => let (l, lost, nx, e) := recReadGo r backward fuel n s; (b :: l, lost, nx, e)
      | none => ([b], false, after % 2 ^ 32, true))
    | none =>
      (match recNext r backward seq with
      | some s => let (l, _, nx, e) := recReadGo r backward fuel (n + 1) s; (l, true, nx, e)
      | none => ([], true, after % 2 ^ 32, true))

/-- A host's cursor; one never set stands at C, forward (log 47). -/
def recCursor (r : Recorder) (h : Ident) : Nat × Bool := match r.cursors.find? (fun c => c.ident == h) with
  | some c => (c.seq, c.backward)
  | none => (r.c, false)

def recSetCursor (r : Recorder) (h : Ident) (seq : Nat) (backward : Bool) : Recorder :=
  { r with cursors := ⟨h, seq, backward⟩ :: r.cursors.filter (fun c => c.ident != h) }

/-- REC_READ's reply and the cursor it leaves. -/
def recRead (h : Ident) (count : Nat) (r : Recorder) : Recorder × List Byte :=
  let (seq, back) := recCursor r h
  let reply := fun (next : Nat) (l : List (List Byte)) (lost e : Bool) =>
    u32 next ++ [byteOf l.length, byteOf (b2n lost + 2 * b2n e), 0, 0] ++ l.flatten
  if seq < r.c ∨ r.newest < seq then (r, reply seq [] true true) else
  let exceeds := !recHeld r seq
  let from_ := if exceeds then (recOldestTail r).getD seq else seq
  let (l, lost, next, e) := recReadGo r back 4097 (Nat.min count 21) from_
  (recSetCursor r h next back, reply next l (lost || exceeds) e)

/-- The sequence a REC_SET_CURSOR mode names. -/
def recModeSeq (r : Recorder) (mode seq : Nat) : Nat := match mode with
  | 0 => r.c
  | 1 => (recOldestTail r).getD r.newest
  | 2 => r.newest
  | _ => seq

/-- A clear (R450) as one step: its sequence and the records discarded. -/
def recClear (module_ slot : Nat) (x : RecRec) (r : Recorder) : Recorder × Nat × Nat × List Fx :=
  let seq := r.newest + 1
  let n := recCount r
  let y := { x with kind := 2, num := 0, count := 1, detail := [byteOf slot, 0, 0, 0] ++ u32 r.newest ++ u32 n ++ u32 0 }
  ({ r with slots := [(0, ⟨recBytes seq r.power module_ y, false⟩)], c := seq, newest := seq, wrapped := false, clearVessel := x.vessel },
   seq, n, [.count Reg.recCntClear 1, .event 117 ([byteOf slot, 0, 0, 0] ++ u32 n)])

/-- The window loaded from REC_CURSOR (R454). -/
def recLoad (seq : Nat) (r : Recorder) : Recorder :=
  let b := if recHeld r seq then recAt r seq else none
  { r with windowDue := none, win := match b with | some x => x | none => r.win, winValid := b.isSome }

/-- The queue flushed at a loss of supply (R449): every queued record written. -/
def recFlush (module_ : Nat) : Nat → Recorder → Recorder
  | 0, r => r
  | k + 1, r => match r.queue with
    | [] => r
    | _ => recFlush module_ k (recWrite module_ true true r).1

/-- The power-on scan of every slot: `lost` are those that the supply has cut; slots lost before fail it again. -/
def recScan (lost : List Nat) (r : Recorder) : Recorder × List Fx :=
  let hit := (r.slots.filter (fun s => s.2.lost || lost.contains s.1)).map Prod.fst
  ({ r with slots := r.slots.map (fun s => if hit.contains s.1 then (s.1, { s.2 with lost := true }) else s) },
   hit.flatMap (fun k => [Fx.count Reg.recCntBad 1, Fx.flag Reg.recStatus 1, Fx.event 119 (u16 k ++ [1])]))

def recStatusView (r : Recorder) : Nat := b2n r.wrapped * 256 + b2n r.winValid * 512 + r.queue.length * 65536

/-- The recorder at delivery: the delivery clear record, sequence 0, in slot 0 (R446). -/
def recDelivery : Recorder :=
  { slots := [(0, ⟨recBytes 0 0 0 ⟨2, 0, 4, 0, 1, 0, 0, zeros 16, 0, none, 0⟩, false⟩)] }

end Sys2Proof.Machine
end

