-- ==== Sys2Proof/Machine/SafEval.lean ====
section
/-! DEFINITION. The Safety Evaluator: inputs, functions, inhibition, diagnostics, configuration, sessions (chapter 16). -/

namespace Sys2Proof.Machine

/-! The safety configuration (Table 16.3), `c` its 512 bytes; inputs are numbered 1 to 8. -/

def siMode (c : List Byte) (i : Nat) : Nat := getU8 c (8 + 8 * i)
def siFilter (c : List Byte) (i : Nat) : Nat := getU8 c (9 + 8 * i)
def siDiscrep (c : List Byte) (i : Nat) : Nat := getU16 c (10 + 8 * i)
def fnOfs (k : Nat) : Nat := 80 + 48 * k
def fnType (c : List Byte) (k : Nat) : Nat := getU8 c (fnOfs k)
def fnSiA (c : List Byte) (k : Nat) : Nat := getU8 c (fnOfs k + 1)
def fnSiB (c : List Byte) (k : Nat) : Nat := getU8 c (fnOfs k + 2)
def fnReset (c : List Byte) (k : Nat) : Nat := getU8 c (fnOfs k + 3)
def fnResetFn (c : List Byte) (k : Nat) : Nat := getU8 c (fnOfs k + 4)
def fnUse (c : List Byte) (k : Nat) : Nat := getU8 c (fnOfs k + 5)
def fnSo (c : List Byte) (k : Nat) : Nat := getU8 c (fnOfs k + 8)
def fnThr (c : List Byte) (k : Nat) : Nat := getU32 c (fnOfs k + 12)
def fnAo (c : List Byte) (k : Nat) : Nat := getU16 c (fnOfs k + 16)
def fnDo (c : List Byte) (k : Nat) : Nat := getU32 c (fnOfs k + 20)
def fnStn (c : List Byte) (k : Nat) : Nat := getU64 c (fnOfs k + 24)
def isTwoHand (c : List Byte) (k : Nat) : Bool := fnType c k == 3
def fnInputs (c : List Byte) (k : Nat) : List Nat :=
  if fnType c k = 0 then [] else if isTwoHand c k then [fnSiA c k, fnSiB c k] else [fnSiA c k]

/-! Inputs (R395, R396). -/

def siFault (x : SiSt) : Bool := x.cross != 0 || x.short != 0 || x.disc
/-- Whether an input counts as clear. -/
def siClear (x : SiSt) : Bool := !x.demand && !siFault x

/-- Test-pulse checks of a channel (bit `k`): its level, whether its own and the other source's pulse are present. -/
def siPulse (k : Nat) (lv own other : Bool) (x : SiSt) : SiSt :=
  let was := fun (src : Nat) => bits x.tp src 1 == 1
  let ownWas := was k
  let otherWas := was (1 - k)
  let eff := if k = 0 then x.ea else x.eb
  let sawLow := if own then (if ownWas then bits x.sawLow k 1 == 1 || !lv else !lv) else bits x.sawLow k 1 == 1
  let before := if other && !otherWas then eff else bits x.before k 1 == 1
  let fol := if other then (if otherWas then bits x.fol k 1 == 1 && !lv else !lv) else bits x.fol k 1 == 1
  let short := if ownWas && !own then !sawLow else bits x.short k 1 == 1
  let cross := if otherWas && !other then before && fol && lv else bits x.cross k 1 == 1
  { x with
    sawLow := setBit x.sawLow k sawLow
    before := setBit x.before k before
    fol := setBit x.fol k fol
    short := setBit x.short k short
    cross := setBit x.cross k cross }

def siLow (lv : Bool) (t : Nat) (old : Option Nat) : Option Nat :=
  if lv then none else match old with
    | some x => some x
    | none => some t

/-- Recognition of demand and clear after FILTER (R396); `from_` is where a demand shown now started. -/
def siRecognise (c : List Byte) (t i : Nat) (shown : Bool) (from_ : Nat) (x : SiSt) : SiSt :=
  let since := if shown = x.shown then x.since else if shown then from_ else t
  let y := { x with shown := shown, since := since }
  if siFilter c i * 1000000 ≤ t - since then
    { y with demand := shown, known := true, clearAt := if !shown && x.demand then t else x.clearAt }
  else y

/-- The discrepancy of the channels; one that is found now started at `from_`. -/
def siDisagree (c : List Byte) (t i : Nat) (apart : Bool) (from_ : Nat) (x : SiSt) : SiSt :=
  let s := if apart then (match x.disSince with | some y => some y | none => some from_) else none
  { x with disSince := s, disc := match s with | some y => decide (siDiscrep c i * 1000000 < t - y) | none => false }

/-- Whether a low has lasted longer than 1.0 ms. -/
def siLong (t : Nat) : Option Nat → Bool
  | some y => decide (1000000 < t - y)
  | none => false

/-- A sample of a mode 3 input: low pulses of up to 1.0 ms are no demand; a longer one is a demand from its start. -/
def siOssd (c : List Byte) (t i tp : Nat) (a b : Bool) (x0 : SiSt) : SiSt :=
  let lowA := siLow a t x0.lowA
  let lowB := siLow b t x0.lowB
  let la := siLong t lowA
  let lb := siLong t lowB
  let x := { x0 with
    a := a, b := b, tp := tp, lowA := lowA, lowB := lowB, ea := !la, eb := !lb,
    upA := if siLong t x0.lowA && a then t else x0.upA
    upB := if siLong t x0.lowB && b then t else x0.upB }
  let from_ := if la then Nat.max (lowA.getD t) x.upB else Nat.max (lowB.getD t) x.upA
  siRecognise c t i (la || lb) (if la then lowA.getD t else lowB.getD t) (siDisagree c t i (la != lb) from_ x)

/-- A 50 µs sample of an input with the test-pulse sources in their off-pulses (`tp`, bit 0 TP1, bit 1 TP2). -/
def siSample (c : List Byte) (t i tp : Nat) (a b : Bool) (x0 : SiSt) : SiSt :=
  let p1 := bits tp 0 1 == 1
  let p2 := bits tp 1 1 == 1
  match siMode c i with
  | 0 => { x0 with a := a, b := b, tp := tp, shown := false, demand := false }
  | 3 => siOssd c t i tp a b x0
  | m =>
    let x := siPulse 1 b p2 p1 (siPulse 0 a p1 p2 x0)
    let ea := if (if m = 2 then p1 || p2 else p1) then x.ea else a
    let eb := if (if m = 2 then p1 || p2 else p2) then x.eb else b
    let y := { x with a := a, b := b, tp := tp, ea := ea, eb := eb }
    let z := if p1 || p2 then y else siDisagree c t i (if m = 2 then ea == eb else ea != eb) t y
    siRecognise c t i (if m = 2 then !ea || eb else !ea || !eb) t z

/-- Events of faults that start or end (event 101). -/
def siFaultFx (i : Nat) (x y : SiSt) : List Fx :=
  let one := fun (kind : Nat) (was isF : Bool) =>
    let d := [byteOf i, byteOf kind, byteOf (b2n isF)]
    if was = isF then [] else if isF then [Fx.count Reg.safCntInflt 1, Fx.start 101 (4 * i + kind) d] else [Fx.ended 101 (4 * i + kind) d]
  one 0 (x.cross != 0) (y.cross != 0) ++ one 1 (x.short != 0) (y.short != 0) ++ one 2 x.disc y.disc

/-- A sample of all inputs: levels as SAF_SI_RAW. -/
def safSample (t levels tp : Nat) (s : Saf) : Saf × List Fx :=
  let r := (s.si.zipIdx).map (fun x =>
    let i := x.2 + 1
    let y := siSample s.cfg t i tp (bits levels (2 * x.2) 1 == 1) (bits levels (2 * x.2 + 1) 1 == 1) x.1
    (y, siFaultFx i x.1 y))
  ({ s with si := r.map (·.1) }, r.flatMap (·.2))

/-! Functions (R397, R398). -/

def safSi (s : Saf) (i : Nat) : SiSt := s.si.getD (i - 1) {}

/-- A function's new state entered: event 100, and the count of functions leaving ON. -/
def fnTo (k new cause : Nat) (f : SafFn) : SafFn × List Fx :=
  if new = f.state then (f, []) else
  let g := { f with state := new, cause := if f.state = 2 then cause else f.cause }
  (g, (if f.state = 2 then [.count Reg.safCntDemand 1] else []) ++ [.event 100 [byteOf k, byteOf f.state, byteOf new, byteOf g.cause]])

/-- One evaluation of function `k`; `rising` tells which two-hand functions' outputs rose in this cycle. -/
def fnEval (s : Saf) (k : Nat) (rising : Nat → Bool) (f : SafFn) : SafFn × List Fx :=
  let c := s.cfg
  let ins := fnInputs c k
  let faulty := ins.find? (fun i => siFault (safSi s i))
  let dem := ins.find? (fun i => (safSi s i).demand)
  let clear := ins.all (fun i => siClear (safSi s i))
  if fnType c k = 0 then (f, []) else
  match faulty with
  | some i => if f.state = 3 then (f, []) else fnTo k 3 i { f with armed := false }
  | none =>
    if f.state = 3 then fnTo k 0 0 f
    else if isTwoHand c k then
      let xa := safSi s (fnSiA c k)
      let xb := safSi s (fnSiB c k)
      let both := xa.demand && xb.demand && xa.known && xb.known
      if f.state = 2 then (match dem with
        | some i => fnTo k 0 i { f with armed := both }
        | none => (f, []))
      else
        let near := decide (((xa.clearAt : Int) - (xb.clearAt : Int)).natAbs ≤ 500000000)
        if f.armed && clear && near then fnTo k 2 0 { f with armed := false }
        else ({ f with armed := both || (f.armed && !clear) }, [])
    else match f.state with
    | 2 => (match dem with
      | some i => fnTo k 0 i f
      | none => (f, []))
    | 1 => (match dem with
      | some _ => fnTo k 0 0 f
      | none => if fnReset c k = 2 ∧ rising (fnResetFn c k) then fnTo k 2 0 f else (f, []))
    | _ => if clear then (if fnReset c k = 0 then fnTo k 2 0 f else if fnReset c k ≤ 2 then fnTo k 1 0 f else (f, [])) else (f, [])

/-- All functions of a cycle: two-hand functions first, so that a rising output resets in the same cycle. -/
def fnsEval (s : Saf) : Saf × List Fx :=
  let run : (Nat → Bool) → (Nat → Bool) → List SafFn → List (SafFn × List Fx) := fun which rising fns =>
    (fns.zipIdx).map (fun x => if which x.2 then fnEval s x.2 rising x.1 else (x.1, []))
  let a := run (isTwoHand s.cfg) (fun _ => false) s.fns
  let up := fun (k : Nat) => isTwoHand s.cfg k && (s.fns.getD k {}).state != 2 && ((a.map Prod.fst).getD k {}).state == 2
  let b := run (fun k => !isTwoHand s.cfg k) up (a.map (·.1))
  ({ s with fns := b.map (·.1) }, a.flatMap (·.2) ++ b.flatMap (·.2))

/-! Outputs and inhibition (R399, R400). -/

def fnOn (s : Saf) (k : Nat) : Bool := (s.fns.getD k {}).state == 2
def usedFns (c : List Byte) : List Nat := (List.range 8).filter (fun k => fnType c k != 0)

/-- The safety outputs that may be on. -/
def soCommand (s : Saf) : Nat :=
  if s.intFlt then 0 else
  bitmap 4 (fun f =>
    let named := (usedFns s.cfg).filter (fun k => bits (fnSo s.cfg k) f 1 == 1)
    !named.isEmpty && named.all (fnOn s) && bits s.soFlt f 1 == 0)

def orAll (xs : List Nat) : Nat := xs.foldl (fun a b => a ||| b) 0

/-- The masks of everything inhibited. -/
def masksAll : SafMasks := { thr := 0xFFFFFF, ao := 0xFFFF, dout := 0xFFFFFF, stn0 := 0xFFFFFFFF, stn1 := 0xFFFFFFFF }

/-- The inhibit masks (R400); all set while an internal fault is latched (R404). -/
def safMasks (s : Saf) : SafMasks :=
  if s.intFlt then masksAll else
  let off := (usedFns s.cfg).filter (fun k => !fnOn s k)
  let stn := orAll (off.map (fnStn s.cfg))
  { thr := orAll (off.map (fnThr s.cfg)) % 2 ^ 24, ao := orAll (off.map (fnAo s.cfg)), dout := orAll (off.map (fnDo s.cfg)) % 2 ^ 24,
    stn0 := stn % 2 ^ 32, stn1 := stn / 2 ^ 32 }

/-! Faults (R404). -/

/-- An internal fault: everything off, latched. -/
def safInternal (cause : Nat) (s : Saf) : Saf × List Fx :=
  if s.intFlt then (s, []) else
  let r := (s.fns.zipIdx).map (fun x => fnTo x.2 0 0 x.1)
  ({ s with intFlt := true, so := 0, fns := r.map (·.1), masks := masksAll },
   r.flatMap (·.2) ++ [.event 103 ([byteOf cause, 0, 0, 0] ++ s16 s.dev)])

/-- An output fault: the output is held off. `el` is 0 high side, 1 low side. -/
def safOutFault (f el : Nat) (s : Saf) : Saf × List Fx :=
  if bits s.soFlt f 1 = 1 then (s, []) else
  ({ s with soFlt := setBit s.soFlt f true, so := setBit s.so f false },
   [.count Reg.safCntOutflt 1, .event 102 [byteOf (f + 1), byteOf el]])

/-- Readbacks against commands (R403). -/
def safReadback (rb : Nat) (s : Saf) : Saf × List Fx :=
  (List.range 8).foldl (fun acc j =>
    let f := j / 2
    if bits rb j 1 ≠ bits s.so f 1 then let (s1, fx) := safOutFault f (j % 2) acc.1; (s1, acc.2 ++ fx) else acc) (s, [])

/-! Configuration (R408, R409). -/

/-- The change log's new entry. -/
def safLogEntry (s : Saf) (kind slot flags vessel old new : Nat) : Saf :=
  { s with
    logSeq := s.logSeq + 1
    log := pushMax 256 (u32 (s.logSeq + 1) ++ [byteOf kind, byteOf slot, byteOf flags, 0] ++ u64 vessel ++ u32 old ++ u32 new) s.log }

/-- Everything a start of the SAF clears (R412). -/
def safRestart (s : Saf) : Saf :=
  { s with fns := List.replicate 8 {}, so := 0, masks := masksAll, si := List.replicate 8 {} }

/-- The committed configuration applies: the reply of the commit (open request, old and new CRC). -/
def safApply (flags vessel : Nat) (s : Saf) : Saf × Option (Nat × Nat × Nat) × List Fx :=
  match s.pend with
  | none => (s, none, [])
  | some p =>
    let old := crc32c s.cfg
    let new := crc32c p.bytes
    let s1 := safLogEntry { safRestart s with cfg := p.bytes, pend := none } 1 p.slot flags vessel old new
    (s1, some (p.id, old, new), [.count Reg.safCntCommit 1, .event 106 ([0, 0, 0, 0] ++ u32 new)])

/-- A SAF cycle (R397, R403): a committed configuration first, then readbacks, functions, outputs and masks. Without +24V_S (`sup`) every output is commanded
off and none fails its readback (R505). -/
def safCycle (sup : Bool) (m : SafMeas) (flags vessel : Nat) (s0 : Saf) : Saf × Option (Nat × Nat × Nat) × List Fx :=
  let (s1, rep, fx1) := safApply flags vessel s0
  let (s2, fx2) := if rep.isSome || !sup then (s1, []) else safReadback m.rb s1
  let (s3, fx3) := if !m.cfgOk then safInternal 2 s2 else if 1100000 < m.dur then safInternal 3 s2 else (s2, [])
  let (s4, fx4) := if s3.intFlt then (s3, []) else fnsEval s3
  ({ s4 with so := if sup then soCommand s4 else 0, masks := safMasks s4, evald := true }, rep, fx1 ++ fx2 ++ fx3 ++ fx4)

/-- The test of an element of an output (R403); a test of an output that is off is skipped. -/
def safOutTest (f el : Nat) (ok : Bool) (s : Saf) : Saf × List Fx := if bits s.so f 1 = 0 ∨ ok then (s, []) else safOutFault f el s

/-- The clock cross-check: RC clocks counted in a window of 100 ms (R403). -/
def safClock (ticks : Nat) (s : Saf) : Saf × List Fx :=
  let dev := divNearAway (((ticks : Int) - 5000000) * 10000) 5000000
  let s1 := { s with dev := satS 16 dev }
  if 500000 < ((ticks : Int) - 5000000).natAbs then safInternal 0 s1 else (s1, [])

/-- A telegram is sent (R401). -/
def safSend (s : Saf) : Saf := { s with sent := if s.evald then s.masks else {} }

/-- A telegram reaches a consumer, its CRC good or not (R401). -/
def safRx (k : Nat) (ok : Bool) (s : Saf) : Saf × List Fx :=
  match s.cons[k]? with
  | none => (s, [])
  | some x =>
    let d := fun (b : Nat) => [byteOf k, byteOf b]
    if ok then
      let good := satN 8 (x.good + 1)
      let heal := x.failed && decide (3 ≤ good)
      let failed := x.failed && !heal
      let y := { x with good := good, bad := 0, failed := failed, masks := if failed then x.masks else s.sent }
      ({ s with cons := s.cons.set k y }, if heal then [.ended 104 k (d 0)] else [])
    else
      let bad := satN 8 (x.bad + 1)
      let fails := !x.failed && decide (3 ≤ bad)
      let y := { x with bad := bad, good := 0, failed := x.failed || fails, masks := if fails then masksAll else x.masks }
      ({ s with cons := s.cons.set k y }, [.count Reg.safCntLink 1] ++ (if fails then [.start 104 k (d 1)] else []))

/-- The masks a consumer holds: 0 Chain, 1 analogue, 2 digital, 3 servo. -/
def consMasks (s : Saf) (k : Nat) : SafMasks := (s.cons.getD k {}).masks
def inhThr (s : Saf) (t : Nat) : Bool := bits (consMasks s 3).thr t 1 == 1
def inhStn (s : Saf) (stn : Nat) : Bool :=
  if stn ≤ 32 then bits (consMasks s 0).stn0 (stn - 1) 1 == 1 else bits (consMasks s 0).stn1 (stn - 33) 1 == 1

/-- The checks of Table 16.6: (code, function or input) of the first that fails. -/
def safCheck (cfg : Mem) (c : List Byte) : Option (Nat × Nat) :=
  let zero := fun (o n : Nat) => (slice c o n).all (· == 0)
  let ins := (List.range 8).map (· + 1)
  let fns := usedFns c
  let first := fun (code : Nat) (l : List Nat) (p : Nat → Bool) => (l.find? p).map (fun k => (code, k))
  let c1 := if getU16 c 0 = 1 ∧ zero 2 14 ∧ (List.range 8).all (fun i => zero (20 + 8 * i) 4) ∧
    (List.range 8).all (fun k => zero (fnOfs k + 6) 2 && zero (fnOfs k + 9) 3 && zero (fnOfs k + 18) 2 && zero (fnOfs k + 32) 16) ∧ zero 464 48
    then none else some (1, 0xFF)
  let c2 := first 2 ins (fun i => decide (3 < siMode c i ∨ 100 < siFilter c i ∨ (siMode c i ≠ 0 ∧ (siDiscrep c i < 10 ∨ 3000 < siDiscrep c i))))
  let badIn := fun (i : Nat) => decide (i < 1 ∨ 8 < i ∨ siMode c i = 0)
  let c3 := first 3 fns (fun k => decide (4 < fnType c k) || badIn (fnSiA c k) || (isTwoHand c k && badIn (fnSiB c k)))
  let c4 := first 4 fns (fun k => (isTwoHand c k && fnSiA c k == fnSiB c k) ||
    (fns.any (fun j => j != k && (fnInputs c k).any (fun i => (fnInputs c j).contains i))))
  let c5 := first 5 fns (fun k => (fnInputs c k).any (fun i => (siMode c i == 3) != (fnType c k == 4)))
  let c6 := first 6 fns (fun k => fnType c k == 1 && fnReset c k == 0)
  let c7 := first 7 fns (fun k => (fnReset c k == 2 && !(decide (fnResetFn c k < 8) && isTwoHand c (fnResetFn c k))) ||
    (isTwoHand c k && (fnReset c k != 0 || fnThr c k != 0 || fnAo c k != 0 || fnDo c k != 0 || fnStn c k != 0)))
  let taker := fun (k : Nat) => fnUse c k % 2 == 1
  let c8 := first 8 fns (fun k => taker k && (!isTwoHand c k || fns.any (fun j => j != k && taker j)))
  let c9 := first 9 fns (fun k => decide (2 ^ 24 ≤ fnThr c k ∨ 2 ^ 24 ≤ fnDo c k ∨ 16 ≤ fnSo c k) ||
    allStations.any (fun st => bits (fnStn c k) (st - 1) 1 == 1 && !fldEnable cfg st))
  [c1, c2, c3, c4, c5, c6, c7, c8, c9].findSome? id

/-! Sessions (R407). -/

/-- Whether a password opens a slot. -/
def safPwOk (s : Saf) (slot : Nat) (pw : List Byte) : Bool :=
  match s.pws.getD slot none with
  | some p => Config.passwordHash p.salt pw == p.hash
  | none => false

/-- The characters of a zero-padded password field. -/
def pwText (bs : List Byte) : List Byte := bs.takeWhile (· != 0)

/-- 4 to 8 printable ASCII characters, zero-padded. -/
def pwValid (bs : List Byte) : Bool :=
  let p := pwText bs
  decide (4 ≤ p.length) && p.all (fun b => decide (0x20 ≤ b.toNat ∧ b.toNat ≤ 0x7E)) && (bs.drop p.length).all (· == 0)

def safSession (s : Saf) (h : Ident) : Option SafSession := s.sessions.find? (fun x => x.ident == h)

/-- A safety opcode of a host refreshes its session. -/
def safTouch (t : Nat) (h : Ident) (s : Saf) : Saf := { s with sessions := s.sessions.map (fun x => if x.ident == h then { x with last := t } else x) }

def safLocked (t : Nat) (s : Saf) : Bool := match s.lockUntil with
  | some u => decide (t < u)
  | none => false

/-- A failed login: counted; the third within 60 s locks logins for 60 s. -/
def safLoginFail (t slot : Nat) (s : Saf) : Saf × List Fx :=
  let fails : List Int := ((t : Int) :: s.fails.filter (fun x => decide ((t : Int) - x ≤ 60000000000))).take 3
  let fx := [Fx.count Reg.safCntLoginfail 1, Fx.event 105 [byteOf slot, 2]]
  if 3 ≤ fails.length then ({ s with fails := [], lockUntil := some (t + 60000000000) }, fx ++ [.event 105 [byteOf slot, 3]])
  else ({ s with fails := fails }, fx)

/-- Sessions that end after 600 s. -/
def safExpire (t : Nat) (s : Saf) : Saf × List Fx :=
  let gone := s.sessions.filter (fun x => decide (600000000000 ≤ t - x.last))
  ({ s with sessions := s.sessions.filter (fun x => decide (t - x.last < 600000000000)) }, gone.map (fun x => .event 105 [byteOf x.slot, 1]))

/-- A password set; the salt of the occurrence is not stated by the spec. -/
def safSetPw (slot : Nat) (pw : List Byte) (s : Saf) : Saf :=
  let salt := Config.salt slot (s.pwSet + 1)
  { s with pws := s.pws.set slot (some { salt := salt, hash := Config.passwordHash salt pw }), pwSet := s.pwSet + 1 }

/-- The SAF at delivery (R407). -/
def safDelivery : Saf :=
  let salt := Config.salt 0 0
  { pws := [some { salt := salt, hash := Config.passwordHash salt [0x30, 0x30, 0x30, 0x30] }, none, none, none] }

/-- A start of the SAF at power-on, RESET or warm restart (R412): latched faults end only at power-on and RESET (R404). -/
def safStart (cold : Bool) (s : Saf) : Saf :=
  { safRestart s with
    intFlt := !cold && s.intFlt
    soFlt := if cold then 0 else s.soFlt
    sessions := []
    pend := none
    evald := false
    masks := {}
    sent := {}
    errCode := 0
    errFn := 0
    dev := 0
    cons := List.replicate 4 {} }

/-! Views. -/

def safStatusView (s : Saf) (t : Nat) : Nat :=
  b2n s.intFlt + b2n (s.cons.any (·.failed)) * 2 + b2n (!s.sessions.isEmpty) * 4 + b2n (safLocked t s) * 8 + s.so * 16 +
  bitmap 8 (fun i => siClear (s.si.getD i {})) * 256 + bitmap 8 (fun i => siFault (s.si.getD i {})) * 65536 + s.soFlt * 0x1000000
def safFnView (s : Saf) (k : Nat) : Nat := (s.fns.getD k {}).state + fnType s.cfg k % 8 * 4 + (s.fns.getD k {}).cause * 256
def safRawView (s : Saf) : Nat := bitmap 16 (fun j => let x := s.si.getD (j / 2) {}; if j % 2 = 0 then x.a else x.b)

/-- Output states for the logic engine: bit f for safety output f + 1. -/
def safSoView (s : Saf) : Nat := s.so

end Sys2Proof.Machine
end

