-- ==== Sys2Proof/Machine/Types/Out.lean ====
section
/-! DEFINITION. What the module sends. -/

namespace Sys2Proof.Machine

/-- The IPv4 header fields that R30 sets in every datagram sent: the DSCP and the "don't fragment" bit. -/
structure IpHdr where
  dscp : Nat
  df : Bool
  deriving DecidableEq, Repr

/-- Those of every datagram of this module (R30). -/
def ipHdr : IpHdr := { dscp := 46, df := true }

/-- Something sent by the newest command: a UDP datagram from a module address and port to a source; an ARP reply or an ICMP echo reply; bytes on a serial
port; an IEC 61162-450 datagram on a host port, an IGMPv2 join of a group on one; a CAN frame on a controller; a PTP message; a Chain frame from a
field port, its source address and the payload of the envelope of R324 (destination 03-57-53-00-04-80, EtherType 0x88B5); a message on the redundancy
link; characters on the service port; a PK-20 reply on its path; a pulse on a PPS output, with its width in ms and whether it is active-low. -/
inductive Out where
  | udp (ip from_ : Nat) (dst : Src) (hdr : IpHdr) (bytes : List Byte)
  | arp (portB : Bool) (mac ip : Nat)
  | echo (portB : Bool) (mac ip : Nat) (data : List Byte)
  | serial (port : Nat) (bytes : List Byte)
  | iec450 (portB : Bool) (group port : Nat) (hdr : IpHdr) (bytes : List Byte)
  | igmpJoin (portB : Bool) (group : Nat)
  | can (ctl : Nat) (frame : CanFrame)
  | ptp (hdr : IpHdr) (msg : PtpMsg)
  | chain (portB : Bool) (src : Nat) (bytes : List Byte)
  | rl (msg : RlTx)
  | service (bytes : List Byte)
  | pk20 (src : PkSrc) (bytes : List Byte)
  | pps (out width : Nat) (low : Bool)
  deriving DecidableEq, Repr

end Sys2Proof.Machine
end

