-- ==== Sys2Proof/Machine/Types/Power.lean ====
section
/-! DEFINITION. State of the Clock and Power Manager, the supply monitors, the service monitor and the firmware images (chapters 20, 21, 22). -/

namespace Sys2Proof.Machine

/-- Main reference: CLK_STATUS.REF (R479). -/
inductive MainRef where
  | oven
  | ext
  | rc
  deriving DecidableEq, Repr

/-- A domain's clock: CLK_DOMAIN_d (SRC 0 stopped, 1 RC, 2 PLL A, 3 PLL B; LOCK; KHZ) and which of its two PLLs are locked. -/
structure Domain where
  src : Nat := 0
  lock : Bool := false
  khz : Nat := 0
  pllA : Bool := false
  pllB : Bool := false
  deriving DecidableEq, Repr

/-- Start kinds of Table 20.5. -/
inductive StartKind where
  | cold
  | warm
  | wake
  deriving DecidableEq, Repr

/-- A reset that is due (R457, R495, R518, R523, R436): its kind and its MONO time. -/
structure ResetDue where
  warm : Bool
  due : Nat
  cause : Nat
  deriving DecidableEq, Repr

/-- What the module is doing as a whole: off, in the boot loader only (R524), starting, running, ride-through ended and
completing its seal and save (R488), or in moored standby (R491). -/
inductive PowerPhase where
  | off
  | bootLoader
  | starting
  | running
  | ending
  | saving
  | standby
  deriving DecidableEq, Repr

/-- The CPM (chapter 20). Domains in the order CMD, NUM, GNS, NET, AIO, SAF. `opFrom` is the operating point a change under way began at, `throttleAt` the MONO time
at which the newest step-down began; `inBandSince` since when the oven is within its band; `enterReq`/`wakeReq` hold the number of the open request whose final
reply waits for entry or wake, `enterDue` is set from the effective tick of an ENTER_STANDBY to the entry, `rideMono` holds when a ride-through began and `rideEnded` that it ended
by expiry or early. -/
structure Clk where
  phase : PowerPhase := .off
  ref : MainRef := .oven
  rcSince : Nat := 0
  extsel : Bool := false
  ovenFailed : Bool := false
  extValid : Bool := false
  warm : Bool := false
  inBandSince : Option Int := none
  ovenErr : Int := 0
  domains : List Domain := List.replicate 6 {}
  op : Nat := 0
  opTarget : Nat := 0
  opFrom : Option Nat := none
  opCause : Nat := 0
  dieTemp : Int := 0
  baseTemp : Int := 0
  throttle : Bool := false
  throttleAt : Nat := 0
  start : StartKind := .cold
  startMono : Nat := 0
  dpReady : Bool := false
  readyMono : Nat := 0
  dpReadyMono : Nat := 0
  gapMs : Nat := 0
  firstTick : Bool := false
  enterReq : Option Nat := none
  enterDue : Bool := false
  wakeReq : Option Nat := none
  wakeAccept : Nat := 0
  wakeEpoch : Nat := 0
  sleepMono : Nat := 0
  resetDue : Option ResetDue := none
  rideMono : Option Int := none
  rideEnded : Bool := false
  saveOk : Bool := false
  deriving DecidableEq, Repr

/-- Feed states of Table 21.2. -/
inductive FeedState where
  | absent
  | low
  | valid
  | high
  | reversed
  deriving DecidableEq, Repr

/-- A feed monitor (R499, R500). The `n…` fields count consecutive samples beyond the thresholds; `…Since` fields time the
10 ms, 50 ms and 100 ms conditions of Table 21.2. -/
structure Feed where
  state : FeedState := .absent
  mv : Int := 0
  ma : Nat := 0
  prevMv : Int := 0
  above9 : Option Int := none
  above62 : Option Int := none
  below58 : Option Int := none
  everValid : Bool := false
  deriving DecidableEq, Repr

/-- An auxiliary 24 V supply monitor (R505): its state, its previous sample and since when it has stood above 18.0 V. -/
structure Aux where
  valid : Bool := false
  prevMv : Int := 0
  above : Option Int := none
  deriving DecidableEq, Repr

/-- Supply (chapter 21). The counts are SUPPLY_COUNTS, kept over power loss. -/
structure Sup where
  feedA : Feed := {}
  feedB : Feed := {}
  storeCharged : Bool := false
  aonCharged : Bool := false
  auxS : Aux := {}
  auxDo : Aux := {}
  hot : Bool := false
  coldBase : Bool := false
  lossA : Nat := 0
  lossB : Nat := 0
  rideReturn : Nat := 0
  rideOther : Nat := 0
  highCnt : Nat := 0
  reversedCnt : Nat := 0
  inputMw : Nat := 0
  mod0 : Bool := false
  mod1 : Bool := false
  serviceEn : Bool := false
  deriving DecidableEq, Repr

/-- Image states of R521. -/
inductive ImgState where
  | empty
  | valid
  | trial
  | failed
  deriving DecidableEq, Repr

/-- A firmware image: its state, its VERSION (major, minor, patch) and its bytes as written (sparse over zero). -/
structure Img where
  state : ImgState
  major : Nat
  minor : Nat
  patch : Nat
  bytes : List Host.Cell
  deriving DecidableEq, Repr

/-- An update in progress (R522): target image (`toB`), SIZE, offsets held, MONO of the last update opcode. -/
structure Update where
  toB : Bool
  size : Nat
  held : Nat
  last : Nat
  deriving DecidableEq, Repr

/-- Firmware (R521 to R525). -/
structure Fw where
  imgA : Img
  imgB : Img
  runB : Bool
  preferB : Bool
  update : Option Update
  written : List (Nat × Nat)
  trialDeadline : Option Nat
  rollback : Option (Bool × Bool)
  mismatch : Option Nat
  deriving DecidableEq, Repr

/-- The Liosh session (R515 to R518). -/
structure Svc where
  service : Bool := false
  line : List Byte := []
  overflow : Bool := false
  deriving DecidableEq, Repr

end Sys2Proof.Machine
end

