-- ==== Sys2Proof/Machine/State.lean ====
section
/-! DEFINITION. The state of the block, its faults and refusals, and its state right after reset. -/

namespace Sys2Proof.Machine

/-- Faults. No command of the VL480 stops the block: what the manual calls a fault (a bus error, a violated check, a SEAL_FAULT, an internal fault of the SAF)
sets status and goes on. Nothing raises a fault, so the type is empty (safe). -/
inductive Fault where
  deriving DecidableEq, Repr

/-- Refusals. -/
inductive Refusal where
  /-- A command whose meaning is not written; raised by a refused arm of `exec` alone. Safe: nothing is claimed of the command. -/
  | notModelled (mnemonic : String)
  deriving DecidableEq, Repr

/-- The VL480. `pending` is the queue of commands; `out` what the newest command sent; `regs` the register file, the words that differ from their reset
values by address; the other fields are the module's units. `pers`, `profile` are in force, `stored` is the stored selection (R456). -/
structure State where
  mono : Nat
  pending : List Instr
  out : List Out
  regs : List (Nat × Word)
  pers : Pers
  profile : Profile
  stored : Pers × Profile
  cfg : Cfg
  chan : Chan
  evt : Evt
  cyc : Cyc
  mbx : Mbx
  clk : Clk
  sup : Sup
  fw : Fw
  svc : Svc
  saved : Option Sealed
  tim : Tim
  gns : Gns
  fus : Fus
  ctl : Ctl
  alc : Alc
  srv : Srv
  ser : Ser
  can0 : Can
  can1 : Can
  crc : List CrcUnit
  fld : ChainSt
  aio : Aio
  lgc : Lgc
  saf : Saf
  red : Red
  recd : Recorder
  pk : Pk
  deriving DecidableEq, Repr

/-- The configuration at delivery: nothing committed, so every item at its reset bytes (R62). -/
def Cfg.delivery : Cfg := { active := [], hash := crc32c (Config.image []), hashEpoch := 0, txns := [], origin := [] }

/-- The firmware at delivery: image A VALID, running and preferred, image B EMPTY. -/
def Fw.delivery : Fw :=
  { imgA := { state := .valid, major := 3, minor := 0, patch := 0, bytes := [] },
    imgB := { state := .empty, major := 0, minor := 0, patch := 0, bytes := [] },
    runB := false, preferB := false, update := none, written := [], trialDeadline := none, rollback := none, mismatch := none }

/-- A delivered module right after reset: a cold start under way, the command channel not ready, no cycle yet. -/
def State.reset : State :=
  { mono := 0, pending := [], out := [], regs := [], pers := .native, profile := .strict, stored := (.native, .strict),
    cfg := Cfg.delivery, chan := {}, evt := {}, cyc := {}, mbx := {}, clk := { phase := .starting }, sup := {}, fw := Fw.delivery, svc := {},
    saved := none, tim := {}, gns := {}, fus := fusInitial [], ctl := {}, alc := {}, srv := {}, ser := {}, can0 := {}, can1 := {},
    crc := List.replicate 4 {}, fld := {}, aio := {}, lgc := {}, saf := safDelivery, red := {}, recd := recDelivery, pk := {} }

end Sys2Proof.Machine
end

