-- ==== Sys2Proof/Machine/Time.lean ====
section
/-! DEFINITION. The Time Unit (chapter 10): bases, measurements, jumps, VESSEL's source, holdover, PTP, the time pulse. -/

namespace Sys2Proof.Machine

def timSrc (cfg : Mem) : Nat := cfgU8 cfg 0x0100 0
def timAlt (cfg : Mem) : Nat := cfgU8 cfg 0x0100 1
def timGnssRef (cfg : Mem) : Nat := cfgU8 cfg 0x0100 2
def timJump (cfg : Mem) (i : Nat) : Nat := cfgU32 cfg 0x0100 (4 * i)
def timHoldAlarm (cfg : Mem) : Nat := cfgU32 cfg 0x0100 16
def timHostTimeout (cfg : Mem) : Nat := cfgU16 cfg 0x0100 20
def timUtcOffset (cfg : Mem) : Int := cfgS16 cfg 0x0100 22
def ptpPort (cfg : Mem) : Nat := cfgU8 cfg 0x0101 0
def ptpRole (cfg : Mem) : Nat := cfgU8 cfg 0x0101 1
def ptpDomain (cfg : Mem) : Nat := cfgU8 cfg 0x0101 2
def ptpFlags (cfg : Mem) : Nat := cfgU8 cfg 0x0101 3
def ptpLogSync (cfg : Mem) : Int := signed 8 (cfgU8 cfg 0x0101 6)
def ptpLogAnnounce (cfg : Mem) : Nat := cfgU8 cfg 0x0101 7
def ptpTimeout (cfg : Mem) : Nat := cfgU8 cfg 0x0101 9

def ptpNetTc (cfg : Mem) : Nat := cfgU16 cfg 0x0101 10

/-- What a computation of the Time Unit reads from the rest of the module: configuration, MONO, whether the oscillator has reached its warm-up
condition, the base-plate temperature in mK, since when the RC is the main reference (R479), whether the module lies in moored standby. -/
structure TimIn where
  cfg : Mem
  t : Nat
  warm : Bool
  temp : Int
  rc : Option Nat
  asleep : Bool
  deriving DecidableEq, Repr

def Tim.base (m : Tim) (i : Nat) : Base := match i with
  | 1 => m.gnss
  | 2 => m.net
  | _ => m.vessel

def Tim.setBase (m : Tim) (i : Nat) (b : Base) : Tim := match i with
  | 1 => { m with gnss := b }
  | 2 => { m with net := b }
  | _ => { m with vessel := b }

/-! Base time (R248). -/

/-- What a rate in 10^-12 adds over a span of ns, in 2^-32 ns. -/
def rateSpan (rate : Int) (ns : Nat) : Int := rate * ((ns * 2 ^ 32 : Nat) : Int) / (10 ^ 12 : Nat)

/-- The rate correction of a base, 10^-12, while its correction runs: the sum is limited to ±100 ppm (R248). -/
def rateSum (b : Base) : Int := clampI (-100000000) 100000000 (b.freq + b.corr)

/-- What the correction has removed since `refMono`: never more than it had to remove. -/
def slewDone (b : Base) (t : Nat) : Int :=
  let d := rateSpan (rateSum b - b.freq) (t - b.refMono)
  if d.natAbs < b.rem.natAbs then d else b.rem

/-- The offset of a base at a MONO time, 2^-32 ns. -/
def baseOfs (b : Base) (t : Nat) : Int := b.ofs + rateSpan b.freq (t - b.refMono) + slewDone b t

/-- The time of a base at a MONO time, ns. -/
def baseTime (b : Base) (t : Nat) : Int := (t : Int) + baseOfs b t / ((2 ^ 32 : Nat) : Int)

/-- The rate correction in force, 10^-12, within ±100 ppm. -/
def baseRate (b : Base) (t : Nat) : Int := if slewDone b t = b.rem then b.freq else rateSum b

/-- The base with its offset brought forward to a MONO time. -/
def rebase (b : Base) (t : Nat) : Base := { b with ofs := baseOfs b t, rem := b.rem - slewDone b t, refMono := t }

/-- The time of base `i`: NET equals VESSEL while the port is MASTER (Table 10.3). -/
def timAt (m : Tim) (i t : Nat) : Int :=
  if i = 2 ∧ m.net.state = .master then baseTime m.vessel t else baseTime (m.base i) t

/-- VESSEL minus MONO in ns. -/
def vesselOfs (m : Tim) (t : Nat) : Int := baseTime m.vessel t - (t : Int)

def vesselNow (m : Tim) (t : Nat) : Nat := (baseTime m.vessel t).toNat

/-! Estimated errors (R249, R255). -/

/-- e(t) of R255 in ns, rounded to nearest; from `rc` on, the rate of R479 stands in place of the linear term's. -/
def holdErr (warm : Bool) (rc : Option Nat) (b : Base) (t : Nat) : Nat :=
  let s := t - b.measMono
  let lin := if warm then 2 * 10 ^ 15 else 5 * 10 ^ 17
  let onRc := match rc with
    | some r => t - Nat.max r b.measMono
    | none => 0
  let num := b.ein * 10 ^ 25 + lin * (s - onRc) + 5 * 10 ^ 20 * onRc + 5 * s * s + 5 * 10 ^ 11 * b.dT * s
  b.eOpen + (2 * num + 10 ^ 25) / (2 * 10 ^ 25)

/-- e0 of NET: RMS of the last 64 offsets plus 100 ns. -/
def netE0 (p : Ptp) : Nat :=
  let n := p.offsets.length
  if n = 0 then 100 else isqrt ((p.offsets.foldl (fun a o => a + o.natAbs ^ 2) 0) / n) + 100

/-- The estimated error of a base in ns, unlimited; 0xFFFFFFFF where UNSET. VESSEL takes its source's error as e0. -/
def timErrRaw (i : TimIn) (m : Tim) (k : Nat) : Nat :=
  let own := fun (b : Base) (e0 : Nat) => match b.state with
    | .unset => 0xFFFFFFFF
    | .locking => b.x.natAbs + e0
    | .locked => e0
    | _ => holdErr i.warm i.rc b i.t
  let g := own m.gnss (if timGnssRef i.cfg = 1 then 100 else 50)
  let n := own m.net (netE0 m.ptp)
  let v := own m.vessel (if m.follow = 4 then 1000000 else if m.follow = 2 then n else g)
  match k with
  | 1 => g
  | 2 => if m.net.state = .master then v else n
  | _ => v

def timErr (i : TimIn) (m : Tim) (k : Nat) : Nat := min (timErrRaw i m k) 0xFFFFFFFF

/-! State changes (R249, R253, R255, R256). -/

def baseCode (s : BaseState) : Nat := match s with
  | .unset => 0
  | .locking => 1
  | .locked => 2
  | .holdover => 3
  | .jumpPending => 4
  | .master => 5

/-- A base enters a state. -/
def timMove (i : TimIn) (k : Nat) (new : BaseState) (m : Tim) : Tim × List Fx :=
  let b := m.base k
  if b.state = new then (m, []) else
  let m1 := m.setBase k { b with state := new, settled := if new = .locked then b.settled else 0, lockedAt := if new = .locked then some i.t else none }
  (m1, [.event 16 (u8 k ++ u8 (baseCode b.state) ++ u8 (baseCode new) ++ zeros 1 ++ u32 (timErr i m1 k))])

/-- Whether a source of VESSEL is present (R253). -/
def srcPresent (cfg : Mem) (t : Nat) (m : Tim) (src : Nat) : Bool := match src with
  | 1 => m.gnss.state == .locking || m.gnss.state == .locked
  | 2 => m.net.state == .locking || m.net.state == .locked
  | 4 => (match m.hostLast with
    | some h => decide (t < h + timHostTimeout cfg * 1000000000)
    | none => false)
  | _ => false

/-- Since when a source has been LOCKED, for the return to VESSEL_SRC; host time since it is present. -/
def srcLocked (cfg : Mem) (t : Nat) (m : Tim) (src : Nat) : Option Nat := match src with
  | 1 => m.gnss.lockedAt
  | 2 => m.net.lockedAt
  | _ => if srcPresent cfg t m src then some m.hostSince else none

/-- Whether VESSEL follows VESSEL_ALT (R253): entered where VESSEL_SRC's source is absent and it is present; left once VESSEL_SRC's source has been LOCKED for
60 s, or is present where the other is lost. -/
def timOnAlt (i : TimIn) (m : Tim) : Bool :=
  let src := timSrc i.cfg
  let alt := timAlt i.cfg
  let a := srcPresent i.cfg i.t m src
  let b := srcPresent i.cfg i.t m alt
  let long : Bool := match srcLocked i.cfg i.t m src with
    | some t => decide (t + 60000000000 ≤ i.t)
    | none => false
  if m.onAlt ∧ alt ≠ 0xFF then !(a && (long || !b)) else !a && b

/-- The source VESSEL follows, chosen anew (R253); each change raises TIM_SOURCE_SWITCH. -/
def timFollow (i : TimIn) (m : Tim) : Tim × List Fx :=
  let onAlt := timOnAlt i m
  let follow := if onAlt then timAlt i.cfg else timSrc i.cfg
  let m1 := { m with onAlt := onAlt, follow := follow }
  let det := u8 follow ++ u8 (b2n (!onAlt))
  if follow = m.follow then (m1, [])
  else if onAlt = m.onAlt then (m1, [.event 22 det])
  else if onAlt then (m1, [.start 22 0 det])
  else (m1, [.ended 22 0 det])

/-- VESSEL loses its reference where its source is absent (Table 10.2). -/
def vesselLoss (i : TimIn) (m : Tim) : Tim × List Fx :=
  if (m.vessel.state = .locking ∨ m.vessel.state = .locked) ∧ !srcPresent i.cfg i.t m m.follow then timMove i 3 .holdover m else (m, [])

/-- Eclipse and the holdover alarms as the states stand (R255, R256). -/
def timWatch (i : TimIn) (m : Tim) : Tim × List Fx :=
  let ecl := m.vessel.state == .holdover || m.vessel.state == .jumpPending
  let d := fun (e : Bool) => u8 (b2n e) ++ zeros 3 ++ u32 (timErr i m 3)
  let fx1 := if ecl = m.eclipse then [] else if ecl then [Fx.start 19 0 (d true)] else [Fx.ended 19 0 (d false)]
  let one := fun (k : Nat) (q : Tim × List Fx) =>
    let b := q.1.base k
    let set := if b.state = .master then q.1.vessel.state != .unset else b.state != .unset
    let exceeds := set && decide (timHoldAlarm i.cfg < timErrRaw i q.1 k)
    let det := u8 k ++ u8 (b2n exceeds) ++ zeros 2 ++ u32 (timErr i q.1 k)
    if exceeds = b.alarm then q
    else (q.1.setBase k { b with alarm := exceeds },
      q.2 ++ if exceeds then [Fx.flag Reg.timStatus 4, Fx.start 23 k det] else [Fx.ended 23 k det])
  one 3 (one 2 (one 1 ({ m with eclipse := ecl }, fx1)))

/-- Source choice, VESSEL's loss and the watches, after any change. -/
def timSettle (i : TimIn) (m : Tim) : Tim × List Fx :=
  let (m1, f1) := timFollow i m
  let (m2, f2) := vesselLoss i m1
  let (m3, f3) := timWatch i m2
  (m3, f1 ++ f2 ++ f3)

/-- The base-plate temperature moves: the largest changes since the last accepted measurements. -/
def timTemp (temp : Int) (m : Tim) : Tim :=
  let f := fun (b : Base) => { b with dT := Nat.max b.dT (temp - b.tempAt).natAbs }
  { m with gnss := f m.gnss, net := f m.net, vessel := f m.vessel }

/-! Measurements (R250, R251). -/

/-- Whether three measurements each lie within a span of their mean. -/
def tripleOk (lim : Nat) (xs : List Int) : Bool :=
  let s := xs.foldl (· + ·) 0
  decide (xs.length = 3) && xs.all (fun x => decide ((3 * x - s).natAbs ≤ 3 * lim))

/-- The measurement is accepted: its error becomes e_in. -/
def timAccept (i : TimIn) (k : Nat) (m : Tim) : Tim :=
  let e := timErr i m k
  m.setBase k { m.base k with ein := e, measMono := i.t, eOpen := 0, tempAt := i.temp, dT := 0 }

/-- The time constant of a base's servo in s (R250): 60 for GNSS, NET_TC for NET; that of VESSEL is not stated. -/
def timTc (cfg : Mem) (k : Nat) : Nat := match k with
  | 1 => 60
  | 2 => ptpNetTc cfg
  | _ => Config.freeNat 35 [-1] % 2 ^ 16

/-- The servo's answer to an x within the limit: the gains of its proportional-integral loop are not stated beside its time constant, so the frequency
estimate and the size of the correction are free functions of it, within the stated limits. -/
def timSlew (i : TimIn) (k : Nat) (x : Int) (lim : Nat) (b : Base) : Base :=
  let b := rebase b i.t
  let arg : List Int := [(k : Int), (timTc i.cfg k : Int), x, b.freq, (i.t : Int)]
  let size := 1 + Config.freeNat 35 arg % lim
  { b with
    freq := clampI (-100000000) 100000000 (Config.freeInt 36 arg)
    corr := if x < 0 then -(size : Int) else size
    rem := x * ((2 ^ 32 : Nat) : Int) }

/-- Results of TIM_SET: 0 slewed, 1 step, 2 refused, 3 first set, 4 held. -/
def timMeasure (i : TimIn) (k : Nat) (x : Int) (m : Tim) : Tim × Nat × List Fx :=
  let b := { m.base k with lastRef := some i.t }
  let host := k = 3 ∧ m.follow = 4
  let lim := if host then 1000000 else 1000
  let out := fun (n : Nat) => if n = 0 then [] else [Fx.count Reg.timCntOutlier n, Fx.flag Reg.timStatus 3]
  if b.state = .unset then
    let m1 := m.setBase k { b with pend := some (x, 0), x := x, everSet := true, settled := 0 }
    let (m2, fx) := timMove i k .locking m1
    (timAccept i k m2, 3, fx)
  else if x.natAbs ≤ lim then
    let near := decide (x.natAbs ≤ 100)
    let n := if near then b.settled + 1 else 0
    let b1 := timSlew i k x (if host then 10000000 else 100000) { b with x := x, held := [], settled := n }
    let m1 := m.setBase k b1
    let (m2, fx) := if b.state = .locking ∧ 10 ≤ n then timMove i k .locked m1
      else if b.state = .locked ∧ near then (m1, [])
      else if b.state = .locking then (m1, [])
      else timMove i k .locking m1
    let m2 := m2.setBase k { m2.base k with settled := n }
    (timAccept i k m2, 0, out b.held.length ++ fx)
  else if b.state = .jumpPending then (m.setBase k { b with x := x }, 2, [])
  else
    let h := x :: b.held
    if tripleOk lim h then
      if x.natAbs ≤ timJump i.cfg k then
        let (m1, fx) := timMove i k .locking (m.setBase k { b with held := [], pend := some (x, 1), x := x, settled := 0 })
        (timAccept i k m1, 1, fx)
      else
        let (m1, fx) := timMove i k .jumpPending (m.setBase k { b with held := [], x := x, settled := 0 })
        (m1, 2, [Fx.count Reg.timCntRefused 1, Fx.flag Reg.timStatus 1, Fx.event 17 (u8 k ++ zeros 7 ++ s64 x)] ++ fx)
    else
      let m1 := m.setBase k { b with held := h.take 2, x := x, settled := 0 }
      let (m2, fx) := if b.state = .locked then timMove i k .locking m1 else (m1, [])
      (m2, 4, out (h.length - 2) ++ fx)

/-- x of a base against a reference time at a MONO instant; a step that waits for its tick counts as made. -/
def timX (m : Tim) (k t : Nat) (ref : Int) : Int :=
  let b := m.base k
  ref - (baseTime b t + match b.pend with
    | some (d, _) => d
    | none => 0)

/-- A measurement and what follows from it; in moored standby GNSS and NET take none (R267). -/
def timMeasureAll (i : TimIn) (k : Nat) (x : Int) (m : Tim) : Tim × Nat × List Fx :=
  if i.asleep ∧ k ≠ 3 then (m, 4, []) else
  let (m1, r, f1) := timMeasure i k x m
  let (m2, f2) := timSettle i m1
  (m2, r, f1 ++ f2)

/-- An output's record of TIM_PPS. -/
def ppsBase (cfg : Mem) (k : Nat) : Nat := cfgU8 cfg 0x0102 (8 * k)
def ppsFlags (cfg : Mem) (k : Nat) : Nat := cfgU8 cfg 0x0102 (8 * k + 1)
def ppsWidth (cfg : Mem) (k : Nat) : Nat := cfgU16 cfg 0x0102 (8 * k + 2)
def ppsOffset (cfg : Mem) (k : Nat) : Int := cfgS32 cfg 0x0102 (8 * k + 4)

/-- Base `k` has stepped: noted for the outputs that run on it (R260). -/
def ppsStepped (cfg : Mem) (k : Nat) (m : Tim) : Tim :=
  let on := fun (o : Nat) => ppsBase cfg o == k || (ppsBase cfg o == 2 && k == 3 && m.net.state == .master)
  { m with out1 := { m.out1 with stepped := m.out1.stepped || on 0 }, out2 := { m.out2 with stepped := m.out2.stepped || on 1 } }

/-- A step that waits is applied (R250, R252, R254); the step where there was one. -/
def timStepBase (i : TimIn) (k : Nat) (m : Tim) : Tim × Option Int × List Fx :=
  let b := m.base k
  match b.pend with
  | none => (m, none, [])
  | some (d, cause) =>
    let b1 := rebase b i.t
    (ppsStepped i.cfg k (m.setBase k { b1 with ofs := b1.ofs + d * ((2 ^ 32 : Nat) : Int), pend := none }), some d,
     [.count Reg.timCntStep 1, .flag Reg.timStatus 0, .event 18 (u8 k ++ u8 cause ++ zeros 6 ++ s64 d)])

/-- A millisecond tick: the steps of GNSS and NET. -/
def timMsTick (i : TimIn) (m : Tim) : Tim × List Fx :=
  let (m1, _, f1) := timStepBase i 1 m
  let (m2, _, f2) := timStepBase i 2 m1
  (m2, f1 ++ f2)

/-- VESSEL's measurement at a whole second of MONO against its source base (Table 10.2). -/
def vesselMeasure (i : TimIn) (m : Tim) : Tim × List Fx :=
  if m.follow ≠ 4 ∧ srcPresent i.cfg i.t m m.follow then
    let (m1, _, fx) := timMeasureAll i 3 (timX m 3 i.t (timAt m m.follow i.t)) m
    (m1, fx)
  else timSettle i m

/-- Losses of references that have become due (Table 10.2). -/
def timLost (i : TimIn) (m : Tim) : Tim × List Fx :=
  let on := fun (b : Base) => b.state == .locking || b.state == .locked
  let late := fun (b : Base) (ns : Nat) => match b.lastRef with
    | some t => decide (t + ns ≤ i.t)
    | none => true
  let (m1, f1) := if on m.gnss && late m.gnss 3000000000 then timMove i 1 .holdover m else (m, [])
  let sync := (4 * 10 ^ 9 * 16) * 2 ^ (ptpLogSync i.cfg + 4).toNat / 256
  let annEnd := decide (m.ptp.lastAnnounce + ptpTimeout i.cfg * 10 ^ 9 * 2 ^ ptpLogAnnounce i.cfg ≤ i.t)
  let (m2, f2) := if on m1.net && (annEnd || decide (m1.ptp.lastSync + sync ≤ i.t)) then timMove i 2 .holdover m1 else (m1, [])
  let (m3, f3) := timSettle i m2
  (m3, f1 ++ f2 ++ f3)

/-- The acceptance of a pending jump (R252): refused, or the step. -/
def timAcceptJump (i : TimIn) (k : Nat) (expected : Int) (m : Tim) : Option (Tim × Int × List Fx) :=
  let b := m.base k
  if b.state ≠ .jumpPending ∨ timJump i.cfg k < (expected - b.x).natAbs then none else
  let (m1, f1) := timMove i k .locking (m.setBase k { b with pend := some (b.x, 2), held := [], settled := 0 })
  let (m2, f2) := timSettle i (timAccept i k m1)
  some (m2, b.x, f1 ++ f2)

/-! PPS (R259, R260, R264). -/

def ppsCable (cfg : Mem) : Nat := cfgU32 cfg 0x0102 20

/-- A PPS-in edge. -/
def ppsIn (i : TimIn) (m : Tim) : Tim × List Fx :=
  let e := i.t - ppsCable i.cfg
  let valid : Bool := match m.ppsEdge with
    | none => true
    | some p => decide (p + 999990000 ≤ e ∧ e ≤ p + 1000010000) || decide (p + 3000000000 ≤ e)
  if !valid then (m, [.count Reg.timCntPpsbad 1, .flag Reg.timStatus 2, .event 20 (u8 2 ++ zeros 7 ++ u64 e)]) else
  let m1 := { m with ppsEdge := some e, ppsTai := m.ppsTai.map (fun x => x + 1000000000), ppsCount := m.ppsCount + 1, ppsPresent := true }
  let f1 := if m.ppsPresent then [] else [Fx.ended 20 0 (u8 1 ++ zeros 7 ++ u64 e)]
  match m1.ppsTai with
  | some x =>
    if timGnssRef i.cfg = 1 then
      let (m2, _, f2) := timMeasureAll i 1 (timX m1 1 e x) m1
      (m2, f1 ++ f2)
    else (m1, f1)
  | none => (m1, f1)

/-- PPS-in lost: 3 s without a valid edge. -/
def ppsLost (i : TimIn) (m : Tim) : Tim × List Fx :=
  match m.ppsEdge with
  | some e => if m.ppsPresent ∧ e + 3000000000 ≤ i.t then ({ m with ppsPresent := false }, [.start 20 0 (u8 0 ++ zeros 7 ++ u64 e)]) else (m, [])
  | none => (m, [])

/-- TIM_SET target 0 (R264): refused, or the result and x. -/
def timSetPps (i : TimIn) (tai : Nat) (m : Tim) : Option (Tim × Nat × Int × List Fx) :=
  match m.ppsEdge with
  | some e =>
    if timGnssRef i.cfg = 0 ∨ e + 1100000000 < i.t then none else
    let x := timX m 1 e tai
    let (m1, r, fx) := timMeasureAll i 1 x { m with ppsTai := some tai }
    some (m1, r, x, fx)
  | none => none

/-- TIM_SET target 1 (R264): the value holds at the request's arrival. -/
def timSetHost (i : TimIn) (tai : Nat) (m : Tim) : Option (Tim × Nat × Int × List Fx) :=
  if timSrc i.cfg ≠ 4 ∧ timAlt i.cfg ≠ 4 then none else
  let was := srcPresent i.cfg i.t m 4
  let m1 := { m with hostLast := some i.t, hostSince := if was then m.hostSince else i.t }
  let (m2, f0) := timFollow i m1
  let x := timX m2 3 i.t tai
  if m2.follow ≠ 4 then some (m2, 4, x, f0) else
  let (m3, r, fx) := timMeasureAll i 3 x m2
  some (m3, r, x, f0 ++ fx)

/-- Whether output `k` gives an active edge at a MONO time: the whole second of its base plus OFFSET, within the oscillator period. -/
def ppsDue (i : TimIn) (m : Tim) (k : Nat) : Bool :=
  let b := ppsBase i.cfg k
  let on := b == 1 || b == 2 || b == 3
  let st := if b = 2 ∧ m.net.state = .master then m.vessel.state else (m.base b).state
  on && (st != .unset || bits (ppsFlags i.cfg k) 1 1 == 1) && decide ((timAt m b i.t - ppsOffset i.cfg k) % 1000000000 < 100)

/-- Whether an edge due at `t` is given (R260): not the same one again, and after a step of the base none less than 500 ms after the previous one. -/
def ppsFree (t : Nat) (o : PpsOut) : Bool := match o.edge with
  | some l => decide (l + 100 ≤ t) && (!o.stepped || decide (l + 500000000 ≤ t))
  | none => true

/-- An output at a MONO time: an edge begins a pulse of WIDTH, which nothing cuts short; whether it did. -/
def ppsEdgeAt (i : TimIn) (m : Tim) (k : Nat) (o : PpsOut) : PpsOut × Bool :=
  if ppsDue i m k && ppsFree i.t o then
    ({ edge := some i.t, until_ := Nat.max o.until_ (i.t + ppsWidth i.cfg k * 1000000), stepped := false }, true)
  else (o, false)

/-- The output edges at a MONO time, with the outputs that gave one. -/
def ppsOut (i : TimIn) (m : Tim) : Tim × List Nat :=
  let a := ppsEdgeAt i m 0 m.out1
  let b := ppsEdgeAt i m 1 m.out2
  ({ m with out1 := a.1, out2 := b.1 }, (if a.2 then [0] else []) ++ (if b.2 then [1] else []))

/-- The level of an output at a MONO time: active during its pulse. -/
def ppsLevel (cfg : Mem) (k t : Nat) (o : PpsOut) : Bool := decide (t < o.until_) != (bits (ppsFlags cfg k) 0 1 == 1)

/-! PTP (R257, R258). -/

/-- The own data set (R257); identity and variance are not stated: free. -/
def ptpOwn (i : TimIn) (m : Tim) : PtpMaster :=
  let v := m.vessel
  let cls := if v.state = .locked ∧ m.follow = 1 then 6 else if v.state = .holdover ∧ timErrRaw i m 3 ≤ timHoldAlarm i.cfg then 7 else 248
  { prio1 := cfgU8 i.cfg 0x0101 4, cls := cls, acc := if v.state = .locked then 0x21 else 0xFE, var := Config.freeNat 37 [0] % 2 ^ 16,
    prio2 := cfgU8 i.cfg 0x0101 5, ident := Config.freeNat 37 [1] % 2 ^ 64, steps := 0,
    src := if m.follow = 1 then 0x20 else 0xA0, utc := timUtcOffset i.cfg, ptpScale := true }

/-- The comparison of the best master clock algorithm: whether `a` is better than `b`. -/
def ptpBetter (a b : PtpMaster) : Bool :=
  let l := fun (p : PtpMaster) => [p.prio1, p.cls, p.acc, p.var, p.prio2, p.ident, p.steps]
  let rec go : List Nat → List Nat → Bool
    | x :: xs, y :: ys => if x < y then true else if y < x then false else go xs ys
    | _, _ => false
  if a.ident = b.ident then decide (a.steps < b.steps) else go (l a) (l b)

/-- The port enters a state; the NET base is MASTER exactly while the port is. Event 21 gives the grandmaster's clockIdentity as a little-endian u64, R3's
default order (DESIGN CHOICE, log 122). -/
def ptpMove (i : TimIn) (new : Nat) (m : Tim) : Tim × List Fx :=
  if m.ptp.portState = new then (m, []) else
  let gm := match m.ptp.master with
    | some p => p.ident
    | none => 0
  let m1 := { m with ptp := { m.ptp with portState := new } }
  let (m2, fx) := if new = 6 then timMove i 2 .master m1
    else if m.net.state = .master then
      -- NET leaves MASTER on VESSEL's time, with no reference of its own
      timMove i 2 (if m.vessel.state = .unset then .unset else .holdover)
        { m1 with net := { rebase m.vessel i.t with state := .master, pend := none, held := [], measMono := i.t, ein := timErr i m 3 } }
    else (m1, [])
  (m2, .event 21 (u8 m.ptp.portState ++ u8 new ++ zeros 2 ++ u64 gm) :: fx)

/-- The port as ROLE and PORT ask: DISABLED with ROLE 0, LISTENING where it starts. -/
def ptpRoleStep (i : TimIn) (m : Tim) : Tim × List Fx :=
  if ptpRole i.cfg = 0 then ptpMove i 3 { m with ptp := { m.ptp with master := none, delay := none, syncRx := none, reqTx := none, lastDown := none } }
  else if m.ptp.portState = 3 then ptpMove i 4 { m with ptp := { m.ptp with lastAnnounce := i.t } }
  else (m, [])

/-- Receive and transmit corrections of Table 10.5. -/
def ptpIngress (cfg : Mem) (mbps : Nat) : Nat := if bits (ptpFlags cfg) 1 1 = 1 then 0 else if mbps = 1000 then 196 else 286
def ptpEgress (cfg : Mem) (mbps : Nat) : Nat := if bits (ptpFlags cfg) 1 1 = 1 then 0 else if mbps = 1000 then 148 else 224

/-- A Sync whose times are complete: master time with correction, corrected receive stamp. -/
def ptpSync (i : TimIn) (down : Int) (rx : Nat) (m : Tim) : Tim × List Fx :=
  let p := { m.ptp with lastDown := some (down, rx) }
  match p.delay with
  | none => ({ m with ptp := p }, [])
  | some d =>
    let x := timX m 2 rx (down + (d : Int))
    let p := { p with offset := -x, offsets := pushMax 64 (-x) p.offsets }
    let (m1, _, fx) := timMeasureAll i 2 x { m with ptp := p }
    (m1, fx)

/-- A received PTP message; the module's answer where it has one. -/
def ptpRx (i : TimIn) (g : PtpMsg) (m : Tim) : Tim × Option PtpMsg × List Fx :=
  let p := m.ptp
  let disc := (m, none, [Fx.count Reg.timCntPtpdisc 1])
  let slave := p.portState == 8 || p.portState == 9
  let fromMaster : Bool := match p.master with
    | some q => q.ident == g.sender || q.ident == g.data.ident
    | none => false
  let rx := i.t - ptpIngress i.cfg g.mbps
  if ptpRole i.cfg = 0 ∨ !g.supported ∨ g.mbps = 10 ∨ g.domain ≠ ptpDomain i.cfg ∨ g.portB ≠ (ptpPort i.cfg == 1) then disc else
  match g.kind with
  | 11 =>
    let better : Bool := match p.master with
      | some q => q.ident == g.data.ident || ptpBetter g.data q
      | none => true
    let beats := ptpRole i.cfg == 1 || ptpBetter g.data (ptpOwn i m)
    if !(better && beats) then (m, none, []) else
    let same : Bool := match p.master with
      | some q => q.ident == g.data.ident && slave
      | none => false
    let p1 := { p with master := some g.data, lastAnnounce := i.t }
    if same then ({ m with ptp := p1 }, none, []) else
    let (m1, fx) := ptpMove i 8 { m with ptp := { p1 with delay := none, syncRx := none, reqTx := none, lastDown := none, lastSync := i.t } }
    let (m2, f2) := timSettle i m1
    (m2, none, fx ++ f2)
  | 0 =>
    if !slave || !fromMaster then (m, none, []) else
    let m1 := { m with ptp := { p with lastSync := i.t } }
    if g.twoStep then ({ m1 with ptp := { m1.ptp with syncRx := some (g.seq, rx, g.corr) } }, none, [])
    else let (m2, fx) := ptpSync i (g.stamp + g.corr) rx m1; (m2, none, fx)
  | 8 =>
    match p.syncRx with
    | some (q, r, c) =>
      if slave && fromMaster && q == g.seq then
        let (m1, fx) := ptpSync i (g.stamp + c + g.corr) r { m with ptp := { p with syncRx := none } }
        (m1, none, fx)
      else (m, none, [])
    | none => (m, none, [])
  | 9 =>
    match p.reqTx, p.lastDown with
    | some (q, t3), some (down, t2) =>
      if slave && fromMaster && q == g.seq && g.req == (ptpOwn i m).ident then
        let d := divTrunc (((t2 : Int) - down) + (g.stamp - g.corr - (t3 : Int))) 2
        let p1 := { p with reqTx := none, delay := some d.toNat }
        let (m1, fx) := if p.portState = 8 then ptpMove i 9 { m with ptp := p1 } else ({ m with ptp := p1 }, [])
        (m1, none, fx)
      else (m, none, [])
    | _, _ => (m, none, [])
  | 1 =>
    if p.portState = 6 then
      (m, some { g with kind := 9, sender := (ptpOwn i m).ident, req := g.sender, stamp := timAt m 3 rx, twoStep := false, data := ptpOwn i m }, [])
    else (m, none, [])
  | _ => disc

/-- A Sync the port sends as MASTER, with its Follow_Up where TWO_STEP is set, and the Announce of the same instant; none at 10 Mbit/s (R258). -/
def ptpTx (i : TimIn) (mbps : Nat) (m : Tim) : Tim × List PtpMsg :=
  let p := m.ptp
  if p.portState ≠ 6 ∨ mbps = 10 then (m, []) else
  let own := ptpOwn i m
  let two := bits (ptpFlags i.cfg) 0 1 == 1
  let st := timAt m 3 (i.t + ptpEgress i.cfg mbps)
  let base : PtpMsg := { portB := ptpPort i.cfg == 1, mbps := mbps, supported := true, kind := 0, domain := ptpDomain i.cfg, sender := own.ident, seq := p.seqSync,
                         twoStep := two, corr := 0, stamp := if two then 0 else st, req := 0, data := own }
  let ann := decide (p.lastAnnounce + 10 ^ 9 * 2 ^ ptpLogAnnounce i.cfg ≤ i.t)
  let p1 := { p with seqSync := (p.seqSync + 1) % 2 ^ 16, seqAnnounce := if ann then (p.seqAnnounce + 1) % 2 ^ 16 else p.seqAnnounce,
                     lastAnnounce := if ann then i.t else p.lastAnnounce }
  ({ m with ptp := p1 }, [base] ++ (if two then [{ base with kind := 8, twoStep := false, stamp := st }] else []) ++
    (if ann then [{ base with kind := 11, seq := p.seqAnnounce, twoStep := false, stamp := st }] else []))

/-- A Delay_Req the port sends while it follows a master. -/
def ptpReqTx (i : TimIn) (mbps : Nat) (m : Tim) : Tim × List PtpMsg :=
  let p := m.ptp
  if p.portState ≠ 8 ∧ p.portState ≠ 9 ∨ mbps = 10 then (m, []) else
  let own := ptpOwn i m
  let g : PtpMsg := { portB := ptpPort i.cfg == 1, mbps := mbps, supported := true, kind := 1, domain := ptpDomain i.cfg, sender := own.ident, seq := p.seqReq,
                      twoStep := false, corr := 0, stamp := 0, req := 0, data := own }
  ({ m with ptp := { p with seqReq := (p.seqReq + 1) % 2 ^ 16, reqTx := some (p.seqReq, i.t + ptpEgress i.cfg mbps) } }, [g])

/-- The master's silence (Table 10.2): after ANNOUNCE_TIMEOUT intervals the port listens, or becomes MASTER with ROLE 2. -/
def ptpTimeoutStep (i : TimIn) (m : Tim) : Tim × List Fx :=
  let p := m.ptp
  let exceeds := decide (p.lastAnnounce + ptpTimeout i.cfg * 10 ^ 9 * 2 ^ ptpLogAnnounce i.cfg ≤ i.t)
  if ptpRole i.cfg = 0 ∨ p.portState = 6 ∨ p.portState = 3 ∨ !exceeds then (m, []) else
  ptpMove i (if ptpRole i.cfg = 2 then 6 else 4) { m with ptp := { p with master := none, delay := none, syncRx := none, reqTx := none, lastDown := none } }

/-! Start and restart (R266, R267). -/

/-- The RC gives way to another reference: what it has added to a base's error stays. -/
def timRcEnd (i : TimIn) (m : Tim) : Tim :=
  let f := fun (b : Base) => { b with eOpen := b.eOpen + (holdErr i.warm i.rc b i.t - holdErr i.warm none b i.t) }
  { m with gnss := f m.gnss, net := f m.net, vessel := f m.vessel }

/-- The Time Unit at a cold start. -/
def timCold (i : TimIn) : Tim × List Fx := ptpRoleStep i { follow := timSrc i.cfg }

/-- A base over a warm restart: HOLDOVER, with the saved error and the uncertainty of the gap. -/
def timWarmBase (errSaved saved t : Nat) (b : Base) : Base :=
  if b.state = .unset then { b with lastRef := none } else
  { b with state := .holdover, ein := errSaved, measMono := saved, eOpen := (t - saved) * 50 / 1000000, dT := 0, lastRef := none, held := [], pend := none, settled := 0, lockedAt := none }

/-- The Time Unit after a warm restart at `i.t`, from the one saved at MONO `saved` with the estimated errors `errs` of that seal. -/
def timWarm (i : TimIn) (saved : Nat) (errs : List Nat) (m : Tim) : Tim × List Fx :=
  let m1 := { m with
    gnss := timWarmBase (errs.getD 0 0) saved i.t m.gnss
    net := timWarmBase (errs.getD 1 0) saved i.t (if m.net.state = .master then { m.vessel with state := .holdover } else m.net)
    vessel := timWarmBase (errs.getD 2 0) saved i.t m.vessel
    ppsEdge := none, ppsTai := none, ppsPresent := false, hostLast := none
    ptp := { m.ptp with portState := 3, master := none, delay := none, syncRx := none, reqTx := none, lastDown := none } }
  let (m2, f1) := ptpRoleStep i m1
  let (m3, f2) := timWatch i m2
  (m3, f1 ++ f2)

/-- Moored standby: GNSS and NET enter HOLDOVER (R267); NET stays MASTER while the port does (R257). -/
def timSleep (i : TimIn) (m : Tim) : Tim × List Fx :=
  let go := fun (k : Nat) (q : Tim × List Fx) =>
    let s := (q.1.base k).state
    if s = .locking ∨ s = .locked then let (a, f) := timMove i k .holdover q.1; (a, q.2 ++ f) else q
  let (m1, f1) := go 2 (go 1 (m, []))
  let (m2, f2) := timSettle i m1
  (m2, f1 ++ f2)

/-! Replies and views. -/

/-- TIM_STATUS bits [11:8]. -/
def timStatusView (m : Tim) : Nat := 256 * b2n m.eclipse + 512 * b2n m.onAlt + 1024 * b2n m.ppsPresent + 2048 * b2n (m.ptp.portState == 6)

def timBaseStat (cfg : Mem) (m : Tim) (k : Nat) : Nat :=
  let b := m.base k
  baseCode b.state + 8 * b2n b.everSet + 256 * (match k with
    | 1 => timGnssRef cfg
    | 2 => 0
    | _ => m.follow)

def ptpStatView (i : TimIn) (m : Tim) : Nat := m.ptp.portState + 256 * (ptpOwn i m).cls

/-- The reply of TIM_GET (Table 10.7); `status` is TIM_STATUS. -/
def timGet (i : TimIn) (status : Nat) (m : Tim) : List Byte :=
  let one := fun (k : Nat) =>
    let b := m.base k
    let hold := b.state == .holdover || (k == 3 && m.eclipse)
    s64 (timAt m k i.t) ++ u32 (timErr i m k) ++ u8 (baseCode b.state) ++
    u8 (b2n hold + 2 * b2n (b.state == .jumpPending) + 4 * b2n b.everSet + 8 * b2n (k == 3 && m.onAlt)) ++ zeros 2 ++
    s32 (baseRate b i.t) ++ s32 (satS 32 b.x)
  u64 i.t ++ u32 status ++ zeros 4 ++ one 1 ++ one 2 ++ one 3

/-- The RO registers of the TIM block. -/
def timView (i : TimIn) (m : Tim) (addr : Nat) : Option Nat :=
  let at_ := fun (base : Nat) => if base ≤ addr ∧ addr < base + 12 ∧ addr % 4 = 0 then some ((addr - base) / 4 + 1) else none
  match at_ Reg.timBaseStat, at_ Reg.timErr, at_ Reg.timOfs with
  | some k, _, _ => some (timBaseStat i.cfg m k)
  | none, some k, _ => some (timErr i m k)
  | none, none, some k => some (unsigned 32 (satS 32 (m.base k).x))
  | none, none, none =>
    if addr = Reg.timPtpStat then some (ptpStatView i m)
    else if addr = Reg.timPtpDelay then some (satN 32 (m.ptp.delay.getD 0))
    else none

/-- The mailbox values of Table 10.9. -/
def timMbx (i : TimIn) (m : Tim) (id : Nat) : Option (List Nat) :=
  let w : Int → List Nat := fun v => [unsigned 64 v % 2 ^ 32, unsigned 64 v / 2 ^ 32]
  let base := fun (k : Nat) => w (timAt m k i.t) ++ [timErr i m k, timBaseStat i.cfg m k, unsigned 32 (baseRate (m.base k) i.t), unsigned 32 (satS 32 (m.base k).x)]
  match id with
  | 0x0401 => some (base 1)
  | 0x0402 => some (base 2)
  | 0x0403 => some (base 3)
  | 0x0404 => some (w (m.ppsEdge.getD 0 : Nat) ++ w (m.ppsTai.getD 0 : Nat) ++ [m.ppsCount % 2 ^ 32, 0])
  | 0x0405 =>
    let gm := match m.ptp.master with
      | some p => (p.ident, p.steps)
      | none => (0, 0)
    some (w (gm.1 : Nat) ++ w m.ptp.offset ++ [satN 32 (m.ptp.delay.getD 0), gm.2])
  | _ => none

end Sys2Proof.Machine
end

