-- ==== Sys2Proof/Machine/Ops.lean ====
section
/-! DEFINITION. The named operations over the state: the register file, event occurrences and effects, packets, the end of a command. -/

namespace Sys2Proof.Machine

/-! The register file. -/

/-- A register's stored word. -/
def State.reg (s : State) (a : Nat) : Nat := (sparseGet regDflt s.regs a).toNat

/-- A register's stored word replaced. -/
def State.setReg (s : State) (a v : Nat) : State := { s with regs := sparseSet regDflt s.regs a (BitVec.ofNat 32 v) }

/-! Time and roles. -/

/-- What the Time Unit's computations read (s8.8 degrees as mK). -/
def State.timIn (s : State) (t : Nat) : TimIn :=
  { cfg := s.cfg.active, t := t, warm := s.clk.warm, temp := s.clk.baseTemp * 1000 / 256, rc := if s.clk.ref = .rc then some s.clk.rcSince else none,
    asleep := s.clk.phase == .standby }

/-- VESSEL at a MONO time. -/
def State.vessel (s : State) (t : Nat) : Nat := vesselNow s.tim t

/-- The Active role of R43: the Active of a group, or a module outside a group. -/
def State.active (s : State) : Bool := s.red.size == 0 || s.red.role == .active

/-- Whether the module follows the Active: it holds the Standby or Backup role. -/
def State.follows (s : State) : Bool := s.red.role == .standby || s.red.role == .backup

/-- Agreed time (R20): a MONO time of this module as the group counts it; the Active's record carries it (log 110). -/
def State.agreed (s : State) (t : Nat) : Nat := ((t : Int) + s.cyc.ofs).toNat

/-- The tick of the cycle in agreed time. -/
def State.agreedTick (s : State) : Nat := s.agreed s.cyc.tick

def roleCode (r : Role) : Nat := match r with
  | .none => 0
  | .active => 1
  | .standby => 2
  | .backup => 3

/-- Whether the module is in moored standby (R491). -/
def State.asleep (s : State) : Bool := s.clk.phase == .standby

/-- EVT_ACTIVE as one bitmap: the events that have a present condition. -/
def State.evActive (s : State) : Nat := bitmap 128 (fun n => s.evt.conds.any (fun c => c.1 == n))

/-! Packets (R29 to R33). -/

/-- A packet of Table 2.1; a key adds the trailer of R48. -/
def packet (op tagw seq status flags : Nat) (key : Option (List Byte)) (payload : List Byte) : List Byte :=
  let body := [0x56#8, 0x4C#8, 0x01#8, byteOf op] ++ u16 tagw ++ u16 payload.length ++ u32 seq ++
    [byteOf status, byteOf (flags + (if key.isSome then 2 else 0)), 0#8, 0#8] ++ payload
  let full := match key with
    | some k => body ++ (hmacSha256 k body).take 16
    | none => body
  full ++ u32 (crc32c full)

/-- The module's IPv4 address on a host port (R61, R416). -/
def State.ownIp (s : State) (portB : Bool) : Nat :=
  let cfg := s.cfg.active
  if s.red.size = 0 then beNat (cfgBytes cfg (if portB then 0x0012 else 0x0010) 0 4)
  else beNat (cfgBytes cfg 0x0D00 (28 + 12 * (s.red.modNum - 1) + (if portB then 4 else 0)) 4)

/-- A datagram leaves from a module port; nothing is sent before the channel is ready (R62). -/
def State.send (s : State) (from_ : Nat) (dst : Src) (bs : List Byte) : State :=
  if s.chan.ready || s.clk.phase == .bootLoader then
    { s with out := s.out ++ [.udp (s.ownIp dst.portB) from_ dst ipHdr bs], chan := { s.chan with txBytes := s.chan.txBytes + bs.length } }
  else s

/-- Something else is sent; nothing is before the channel is ready (R62). -/
def State.emit (s : State) (o : Out) : State := { s with out := s.out ++ (if s.chan.ready || s.clk.phase == .bootLoader then [o] else []) }

/-! Events (R50 to R53, R443, R444). -/

/-- An event record as sent (Table 2.8). -/
def evRecBytes (active retx : Bool) (r : EvRec) : List Byte :=
  [byteOf r.ev, byteOf (b2n active + 2 * b2n retx), 0, 0] ++ u32 r.count ++ u32 r.seq ++ zeros 4 ++ u64 r.vessel ++ u64 r.epoch ++
    (r.detail ++ zeros 16).take 16

/-- An event packet with some records of a destination goes to each of its ports (R51, Table 2.7); copies with RETX are counted. -/
def State.sendEvents (s : State) (d : Dest) (retx : Bool) (rs : List EvRec) : State :=
  let act := fun (r : EvRec) => s.evt.conds.any (fun c => c.1 == r.ev)
  let payload := u16 rs.length ++ u16 0 ++ rs.flatMap (fun r => evRecBytes (act r) retx r)
  let bs := packet 0xE0 0xC000 d.pktSeq 0 0 none payload
  let s1 := d.ports.foldl (fun (a : State) p => a.send 22481 p bs) s
  if retx then { s1 with chan := { s1.chan with cnt := { s1.chan.cnt with eventRetx := satN 32 (s1.chan.cnt.eventRetx + d.ports.length) } } } else s1

/-- A new record for destination `i` (R50), sent at once; `vessel` and `epoch` are those of its first occurrence (Table 2.8). -/
def State.newRecord (s : State) (i t ev count vessel epoch : Nat) (detail : List Byte) : State :=
  match s.evt.dests[i]? with
  | none => s
  | some d =>
    let sq := (s.evt.seq + 1) % 2 ^ 32
    let r : EvRec :=
      { ev := ev, count := count, seq := sq, vessel := vessel, epoch := epoch, detail := detail,
        born := t / 1000, step := t / 1000, inStep := 0, stepDetail := detail, stepVessel := vessel, stepEpoch := epoch }
    let d1 := { d with recs := d.recs ++ [r], pktSeq := (d.pktSeq + 1) % 2 ^ 32, nextRound := match d.nextRound with | some n => some n | none => some (t + 1000000000) }
    let s1 : State := { s with evt := { s.evt with seq := sq, dests := s.evt.dests.set i d1 } }
    s1.sendEvents d1 false [r]

/-- A further occurrence in a held record (R50): counted, with the detail, time and epoch of its step's first (R52). -/
def EvRec.again (step vessel epoch : Nat) (detail : List Byte) (r : EvRec) : EvRec :=
  let r1 := { r with count := satN 32 (r.count + 1) }
  if r.step = step ∧ r.inStep ≠ 0 then { r1 with inStep := r.inStep + 1 }
  else { r1 with step := step, inStep := 1, stepDetail := detail, stepVessel := vessel, stepEpoch := epoch }

/-- An occurrence at destination `i`: counted in the held record, or a new record where the event is not masked (R50, R51). -/
def State.reportTo (t ev : Nat) (detail : List Byte) (s : State) (i : Nat) : State :=
  match s.evt.dests[i]? with
  | none => s
  | some d =>
    if bits d.mask ev 1 = 0 then s
    else if d.recs.any (fun r => r.ev == ev) then
      let grow := fun (r : EvRec) => if r.ev = ev then r.again (t / 1000) (s.vessel t) s.cyc.number detail else r
      { s with evt := { s.evt with dests := s.evt.dests.set i { d with recs := d.recs.map grow } } }
    else s.newRecord i t ev 1 (s.vessel t) s.cyc.number detail

/-- Counters, status bits, hardware fields, maxima and minima (R75); the other effects are those of events. -/
def State.plainFx (s : State) : Fx → State
  | .count a n => s.setReg a ((s.reg a + n) % 2 ^ 32)
  | .flag a b => s.setReg a (setBits (s.reg a) b 1 1)
  | .field a lo w v => s.setReg a (setBits (s.reg a) lo w v)
  | .maxi a lo w v => s.setReg a (setBits (s.reg a) lo w (Nat.max (bits (s.reg a) lo w) (satN w v)))
  | .mini a lo w v => s.setReg a (setBits (s.reg a) lo w (Nat.min (bits (s.reg a) lo w) (satN w v)))
  | _ => s

/-- A record of the event recorder for what happens now. -/
def State.recRecord (s : State) (t kind num flags : Nat) (detail : List Byte) (reply : Option Nat) : RecRec :=
  { kind := kind, num := num, flags := flags + (if s.tim.vessel.state = .locked then 0 else 4), opTime := recOpTime s.recd t, count := 1,
    vessel := s.vessel t, epoch := s.cyc.number, detail := (detail ++ zeros 16).take 16, role := roleCode s.red.role, reply := reply,
    aon := aonClock t }

/-- An occurrence of an event: its latch bit, the recorder, the destinations. -/
def State.occur (s : State) (t ev : Nat) (detail : List Byte) : State :=
  let det := (detail ++ zeros 16).take 16
  let s1 := s.plainFx (.flag (Reg.evtLatch + 4 * (ev / 32)) (ev % 32))
  let s2 := if recSelected s1.cfg.active ev then
      let act := s1.evt.conds.any (fun c => c.1 == ev)
      let (r, fx) := recEvent t (s1.recRecord t 0 ev (b2n act) det none) s1.recd
      fx.foldl State.plainFx { s1 with recd := r }
    else s1
  (List.range s2.evt.dests.length).foldl (State.reportTo t ev det) s2

/-- One effect. -/
def State.apply1 (t : Nat) (s : State) (f : Fx) : State :=
  match f with
  | .event ev d =>
    if ev = 14 then
      if s.evt.colOvr then s else State.occur { s with evt := { s.evt with colOvr := true } } t ev d
    else s.occur t ev d
  | .start ev k d =>
    State.occur { s with evt := { s.evt with conds := if s.evt.conds.contains (ev, k) then s.evt.conds else (ev, k) :: s.evt.conds } } t ev d
  | .ended ev k d => State.occur { s with evt := { s.evt with conds := s.evt.conds.filter (fun c => c != (ev, k)) } } t ev d
  | .clear ev k => { s with evt := { s.evt with conds := s.evt.conds.filter (fun c => c != (ev, k)) } }
  | g => s.plainFx g

/-- Effects in order. -/
def State.apply (s : State) (t : Nat) (fx : List Fx) : State := fx.foldl (State.apply1 t) s

/-! IEC 61162-450 and alert sentences (R302 to R305). -/

/-- The joins of IN_GROUP on the host ports that PORTS names (R304). -/
def State.join450 (s : State) : State :=
  let cfg := s.cfg.active
  if s450In cfg = 0 then s else
    (List.range 2).foldl (fun (a : State) p => if bits (s450Ports cfg) p 1 = 1 then a.emit (.igmpJoin (p == 1) (s450In cfg)) else a) s

/-- Alert sentences on the ALERT_OUT ports and, where PORTS asks for it, as datagrams of IEC 61162-450. -/
def State.alerts (s : State) (txt : List (List Byte)) : State :=
  let cfg := s.cfg.active
  let s1 : State := { s with ser := { s.ser with ports := alertSend cfg txt s.ser.ports } }
  if s450Out cfg = 0 then s1 else
    txt.foldl (fun (a : State) x =>
      (List.range 2).foldl (fun (b : State) p =>
        if bits (s450Ports cfg) p 1 = 1 then
          (b.emit (.iec450 (p == 1) (s450Out cfg) (s450OutPort cfg) ipHdr (alertDatagram cfg x))).plainFx (.count (cnt450 7) 1)
        else b) a) s1

/-- Alert sentences leave the module in the Active role alone (R302). -/
def State.alertsOut (s : State) (txt : List (List Byte)) : State := if s.active && !s.asleep && s.chan.ready then s.alerts txt else s

/-- The end of a command: alerts follow EVT_ACTIVE (R303), MONO stands at the command's time, the queue is as it was. -/
def State.finish (s : State) (t : Nat) (q : List Instr) : State :=
  let (ser, txt) := alertScan s.cfg.active t (s.vessel t) s.evActive s.ser
  let s1 := State.alertsOut { s with ser := ser } txt
  { s1 with mono := Nat.max s.mono t, pending := q }

/-- A command's meaning from its effect on everything but the queue: what was sent before is gone, then the effect, then the end. -/
def runAt (t : Nat) (f : State → State) (s : State) : Host.Outcome State Fault Refusal :=
  .next ((f { s with out := [] }).finish t s.pending)

end Sys2Proof.Machine
end

