-- ==== Sys2Proof/Machine/Serve.lean ====
section
/-! DEFINITION. The path of a request: hosts, acceptance checks, tags, replies, numbered results (chapter 02). -/

namespace Sys2Proof.Machine

/-! Table 2.5. -/

def st.ok : Nat := 0x00
def st.accepted : Nat := 0x01
def st.pending : Nat := 0x02
def st.repeated : Nat := 0x03
def st.badOpcode : Nat := 0x04
def st.badLength : Nat := 0x05
def st.badCrc : Nat := 0x06
def st.tagInUse : Nat := 0x07
def st.noTag : Nat := 0x08
def st.wrongState : Nat := 0x09
def st.denied : Nat := 0x0A
def st.busError : Nat := 0x0B
def st.timeout : Nat := 0x0C
def st.busy : Nat := 0x0D
def st.range : Nat := 0x0E
def st.notInPersonality : Nat := 0x0F
def st.cfgConflict : Nat := 0x10
def st.internal : Nat := 0x11

/-! Table 2.6. -/

/-- The opcodes marked A. -/
def opAuth (op : Nat) : Bool :=
  [0x03, 0x06, 0x07, 0x08, 0x11, 0x23, 0x30, 0x31, 0x32, 0x33, 0x35, 0x42, 0x43, 0x44, 0x51, 0x53, 0x59, 0x60, 0x61, 0x62, 0x63, 0xA1, 0xA2, 0xC1, 0xD1,
   0xD2, 0xD9, 0xF0, 0xF1, 0xF2, 0xF3].contains op

/-- The opcodes of the Active role. -/
def opActive (op : Nat) : Bool :=
  [0x11, 0x20, 0x21, 0x23, 0x24, 0x30, 0x31, 0x32, 0x33, 0x35, 0x42, 0x43, 0x44, 0x51, 0x53, 0x59, 0x60, 0x61, 0x62, 0x63, 0xC0, 0xC1, 0xD1, 0xD2,
   0xD9].contains op

/-- Availability in PK-20 mode: in neither profile, in EXTENDED only, in both. -/
def opInPk (op : Nat) (p : Profile) : Bool :=
  if [0x30, 0x31, 0x32, 0x33, 0x35, 0x44, 0x51].contains op then false
  else if [0x42, 0x43, 0x52, 0x53].contains op then p == .extended else true

/-- The opcodes executed in moored standby (R492). -/
def opAsleep (op : Nat) : Bool :=
  [0x00, 0x01, 0x02, 0x03, 0x04, 0x05, 0x07, 0x10, 0x11, 0x12, 0x13, 0x22, 0x25, 0x70, 0x71, 0x72, 0x73, 0x80, 0x90, 0x91, 0x92, 0x93, 0x94, 0xA0].contains op

/-- The opcodes the boot loader answers (R524). -/
def opBoot (op : Nat) : Bool := [0x01, 0xF1, 0xF2, 0xF3].contains op

/-- The fixed payload lengths of the opcodes' payload tables. -/
def opLen (op : Nat) : Option Nat := match op with
  | 0x00 => some 0
  | 0x01 => some 0
  | 0x02 => some 4
  | 0x03 => some 4
  | 0x04 => some 16
  | 0x05 => some 8
  | 0x06 => some 4
  | 0x07 => some 4
  | 0x08 => some 4
  | 0x10 => some 4
  | 0x11 => some 8
  | 0x12 => some 8
  | 0x13 => some 4
  | 0x20 => some 0
  | 0x22 => some 12
  | 0x23 => some 4
  | 0x24 => some 4
  | 0x25 => some 0
  | 0x30 => some 4
  | 0x31 => some 24
  | 0x32 => some 24
  | 0x33 => some 8
  | 0x34 => some 8
  | 0x35 => some 4
  | 0x40 => some 8
  | 0x41 => some 4
  | 0x42 => some 4
  | 0x43 => some 8
  | 0x44 => some 36
  | 0x50 => some 8
  | 0x51 => some 4
  | 0x52 => some 8
  | 0x53 => some 36
  | 0x58 => some 4
  | 0x59 => some 516
  | 0x61 => some 4
  | 0x62 => some 4
  | 0x63 => some 16
  | 0x64 => some 12
  | 0x65 => some 0
  | 0x70 => some 8
  | 0x71 => some 4
  | 0x72 => some 12
  | 0x73 => some 20
  | 0x80 => some 0
  | 0x81 => some 12
  | 0x82 => some 12
  | 0x90 => some 20
  | 0x92 => some 4
  | 0x93 => some 4
  | 0x94 => some 4
  | 0xA0 => some 0
  | 0xA1 => some 4
  | 0xA2 => some 4
  | 0xB0 => some 8
  | 0xB1 => some 4
  | 0xB3 => some 4
  | 0xC0 => some 24
  | 0xC1 => some 8
  | 0xD0 => some 4
  | 0xD8 => some 4
  | 0xD9 => some 4
  | 0xF1 => some 8
  | 0xF3 => some 4
  | _ => none

/-- The opcodes whose payload carries a counted run of data: bytes before it, offset and width of the count, its least and greatest value. -/
def opVar (op : Nat) : Option (Nat × Nat × Nat × Nat × Nat) := match op with
  | 0x21 => some (12, 8, 2, 0, 1396)
  | 0x60 => some (12, 2, 2, 0, 1396)
  | 0x91 => some (4, 2, 2, 1, 512)
  | 0xB2 => some (4, 0, 2, 1, 1404)
  | 0xD1 => some (4, 2, 1, 0, 64)
  | 0xD2 => some (4, 2, 2, 1, 1024)
  | 0xF0 => some (4, 0, 2, 1, 128)
  | 0xF2 => some (8, 4, 2, 1, 1024)
  | _ => none

/-- Whether an opcode is defined as a request (R45). -/
def opDefined (op : Nat) : Bool := (opLen op).isSome || (opVar op).isSome

/-- Check 12. -/
def lenOk (op : Nat) (p : List Byte) : Bool := match opLen op, opVar op with
  | some n, _ => p.length == n
  | none, some (h, o, w, lo, hi) =>
    let n := leNat (slice p o w)
    decide (h ≤ p.length) && p.length == h + n && decide (lo ≤ n ∧ n ≤ hi)
  | none, none => false

/-! Hosts (R31, R527). -/

def Rq.from_ (rq : Rq) : Src := ⟨rq.portB, rq.mac, rq.ip, rq.udp⟩

/-- The entries of HOST_TABLE: number, address on A, on B, UDP port. -/
def hostEntries (cfg : Mem) : List (Nat × Nat × Nat × Nat) :=
  ((List.range 8).map (fun k =>
    (k, beNat (cfgBytes cfg 0x0018 (12 * k) 4), beNat (cfgBytes cfg 0x0018 (12 * k + 4) 4), cfgU16 cfg 0x0018 (12 * k + 8)))).filter
      (fun e => e.2.1 != 0 || e.2.2.1 != 0)

/-- The identity of a source, with its host index where a table lists it; none where the source is not listed. -/
def identOf (cfg : Mem) (src : Src) : Option (Ident × Option Nat) :=
  let es := hostEntries cfg
  if es.isEmpty then some (.addr src.ip src.udp, none)
  else (es.find? (fun e => let a := if src.portB then e.2.2.1 else e.2.1; a != 0 && a == src.ip && e.2.2.2 == src.udp)).map
    (fun e => (.entry e.2.1 e.2.2.1 e.2.2.2, some e.1))

/-- A change of the host of identity `w`. -/
def State.modHost (s : State) (w : Ident) (f : HostRec → HostRec) : State :=
  { s with chan := { s.chan with hosts := s.chan.hosts.map (fun h => if h.ident = w then f h else h) } }

def State.host? (s : State) (w : Ident) : Option HostRec := s.chan.hosts.find? (fun h => h.ident == w)

def boundBoth (w : Ident) : Bool := match w with
  | .entry a b _ => a != 0 && b != 0
  | .addr _ _ => false

/-- HOST_PATH_LOST judged at a time (R527): the conditions that start. -/
def State.pathScan (s : State) (t : Nat) : State :=
  let fx := s.chan.hosts.flatMap (fun h =>
    if !boundBoth h.ident then [] else
    ([false, true] : List Bool).flatMap (fun b =>
      let mine := if b then h.lastB else h.lastA
      let other := if b then h.lastA else h.lastB
      let silent := decide (mine.getD h.since + 2000000000 ≤ t)
      let heard : Bool := match other with
        | some o => decide (t < o + 2000000000)
        | none => false
      let key := 2 * h.idx + b2n b
      if silent && heard && !s.evt.conds.contains (8, key) then [Fx.start 8 key (u32 h.idx ++ u8 (b2n b))] else []))
  s.apply t fx

/-- The conditions of R527 of a host index end. -/
def pathEnds (s : State) (idx : Nat) (b : Bool) : List Fx :=
  if s.evt.conds.contains (8, 2 * idx + b2n b) then [.ended 8 (2 * idx + b2n b) (u32 idx ++ u8 (b2n b))] else []

/-- What tracking a source gives: discarded, BUSY, or its identity. -/
inductive Track where
  | drop
  | busy
  | host (w : Ident)
  deriving DecidableEq, Repr

/-- Hosts leave tracking: no destinations any more, their conditions of R527 at an end. -/
def State.untrack (s : State) (t : Nat) (gone : HostRec → Bool) : State :=
  let hs := s.chan.hosts.filter gone
  let s0 : State := { s with
    chan := { s.chan with hosts := s.chan.hosts.filter (fun h => !gone h) }
    evt := { s.evt with dests := s.evt.dests.filter (fun d => !hs.any (fun h => h.ident == d.ident)) } }
  s0.apply t (hs.flatMap (fun h => pathEnds s0 h.idx false ++ pathEnds s0 h.idx true))

/-- Whether a host is the command holder, which is never dropped (R31). -/
def State.holds (s : State) (h : HostRec) : Bool := s.ctl.holder.map Prod.snd == some h.ident

/-- Check 5 (R31): the source is tracked; a listed one takes its entry's index; another takes a free index, or that of the idle host with the oldest last packet. -/
def State.track (s : State) (t : Nat) (src : Src) : State × Track :=
  match identOf s.cfg.active src with
  | none => (s, .drop)
  | some (w, k) =>
    let fresh := fun (idx : Nat) (s : State) =>
      let h : HostRec :=
        { idx := idx, ident := w, high := none, seen := [], held := [], tickReplies := [], lastPkt := t, lastA := none, lastB := none, since := t, lastResult := [] }
      ({ s with chan := { s.chan with hosts := s.chan.hosts ++ [h] } }, Track.host w)
    if (s.host? w).isSome then (s, .host w) else
    match k with
    | some idx =>
      match s.chan.hosts.find? (fun h => h.idx == idx) with
      | none => fresh idx s
      | some old => if s.holds old then (s, .busy) else fresh idx (s.untrack t (fun h => h.idx == idx))
    | none =>
      match (List.range 8).find? (fun i => !s.chan.hosts.any (fun h => h.idx == i)) with
      | some idx => fresh idx s
      | none =>
        let idle := s.chan.hosts.filter (fun h => !s.holds h && decide (h.lastPkt + 60000000000 ≤ t))
        match idle.foldl (fun (a : Option HostRec) h => match a with
          | some b => if h.lastPkt < b.lastPkt then some h else a
          | none => some h) none with
        | none => (s, .busy)
        | some old => fresh old.idx (s.untrack t (fun h => h.ident == old.ident))

/-- Hosts that a new HOST_TABLE no longer gives leave tracking, the command holder excepted (R31; DEDUCED, log 115). -/
def State.rehost (s : State) (t : Nat) (new : Mem) : State :=
  let es := hostEntries new
  let kept := fun (h : HostRec) => match h.ident with
    | .addr _ _ => es.isEmpty
    | .entry a b u => es.contains (h.idx, a, b, u)
  s.untrack t (fun h => !kept h && !s.holds h)

/-- A packet of a tracked host arrives on a port. -/
def State.heard (s : State) (t : Nat) (portB : Bool) (w : Ident) : State :=
  let ends := match s.host? w with
    | some h => pathEnds s h.idx portB
    | none => []
  let s1 := s.modHost w (fun h => { h with lastPkt := t, lastA := if portB then h.lastA else some t, lastB := if portB then some t else h.lastB })
  (s1.apply t ends).pathScan t

/-! The sequence window (R36, R37). -/

/-- Whether a sequence number is new (0), a duplicate (1) or stale (2) for a host. -/
def seqKind (h : HostRec) (n : Nat) : Nat :=
  match h.high with
  | none => 0
  | some high =>
  let back := (high + 2 ^ 32 - n % 2 ^ 32) % 2 ^ 32
  if back < 256 then (if h.seen.contains n then 1 else 0) else if 2 ^ 31 < back then 0 else 2

/-- A host's window with a new number in it. -/
def seqTake (n : Nat) (h : HostRec) : HostRec :=
  let high := match h.high with
    | none => n
    | some x => if 2 ^ 31 < (x + 2 ^ 32 - n % 2 ^ 32) % 2 ^ 32 then n else x
  { h with high := some high, seen := n :: h.seen.filter (fun m => decide ((high + 2 ^ 32 - m) % 2 ^ 32 < 256)) }

/-! Replies (R33, R36, R48). -/

/-- The data of a reply in parts, with MORE for each. -/
def replyChunks (data : List Byte) : List (List Byte × Bool) :=
  if data.length ≤ 1408 then [(data, false)] else
  let n := (data.length + 1403) / 1404
  (List.range n).map (fun i => (u16 i ++ u16 n ++ slice data (1404 * i) 1404, decide (i + 1 < n)))

/-- The packets of a reply. -/
def replyParts (key : Option (List Byte)) (op tag seq status : Nat) (data : List Byte) : List (List Byte) :=
  (replyChunks data).map (fun c => packet op (0x8000 + tag) seq status (if c.2 then 4 else 0) key c.1)

def authKey (cfg : Mem) : List Byte := cfgBytes cfg 0x0021 0 32

def State.sendAll (s : State) (srcs : List Src) (parts : List (List Byte)) : State :=
  srcs.foldl (fun (a : State) d => parts.foldl (fun (b : State) p => b.send 22480 d p) a) s

/-- The replies of the 64 most recently completed requests. -/
def holdReply (x : Held) (h : HostRec) : HostRec := { h with held := pushMax 64 x (h.held.filter (fun y => y.seq != x.seq)) }

/-- The packets of an open request's final reply. -/
def State.partsOf (s : State) (o : Opn) (status : Nat) (data : List Byte) : List (List Byte) :=
  replyParts (if o.auth then some (authKey s.cfg.active) else none) o.op o.tag o.seq status data

/-- The final reply of an open request: sent to every source of a copy, held, the tag released. -/
def State.answerParts (s : State) (o : Opn) (parts : List (List Byte)) : State :=
  let s1 := s.sendAll o.srcs parts
  let s2 : State := { s1 with chan := { s1.chan with opens := s1.chan.opens.filter (fun x => x.id != o.id) } }
  s2.modHost o.ident (holdReply ⟨o.seq, parts⟩)

def State.answerOpn (s : State) (o : Opn) (status : Nat) (data : List Byte) : State := s.answerParts o (s.partsOf o status data)

/-- The open request of a number. -/
def State.opn? (s : State) (id : Nat) : Option Opn := s.chan.opens.find? (fun o => o.id == id)

/-- The final reply of an open request by its number; nothing where it is gone. -/
def State.answer (s : State) (id status : Nat) (data : List Byte) : State := match s.opn? id with
  | some o => s.answerOpn o status data
  | none => s

/-- One counter of Table 2.13 raised. -/
def State.cnt (s : State) (f : ChanCnt → ChanCnt) : State := { s with chan := { s.chan with cnt := f s.chan.cnt } }

def satInc (n : Nat) : Nat := satN 32 (n + 1)

/-- A final reply to a request that failed check 7 to 11: held like any other. -/
def State.refuseBare (s : State) (o : Opn) (status : Nat) : State := s.answerOpn o status []

/-- What a request's execution answers: refused at check 13; a final reply; ACCEPTED with the final reply later; ACCEPTED and at once the final reply; only
the final reply, later. -/
inductive Resp where
  | refuse (status : Nat)
  | reply (status : Nat) (data : List Byte)
  | later
  | twice (status : Nat) (data : List Byte)
  | wait
  deriving DecidableEq, Repr

/-- The copy of a request that has been seen before (R36, R51). -/
def State.duplicate (s : State) (rq : Rq) (w : Ident) : State :=
  let src := rq.from_
  let s0 := s.cnt (fun c => { c with duplicates := satInc c.duplicates })
  let addPort := fun (d : Dest) =>
    if d.ident = w ∧ d.setSeq = rq.seq then { d with ports := d.ports.filter (fun p => p.portB != src.portB) ++ [src] } else d
  let s1 : State := { s0 with evt := { s0.evt with dests := s0.evt.dests.map addPort } }
  match s1.chan.opens.find? (fun o => o.ident == w && o.seq == rq.seq) with
  | some o =>
    let add := fun (x : Opn) => if x.srcs.any (fun y => y.portB == src.portB && y.ip == src.ip && y.udp == src.udp) then x else { x with srcs := x.srcs ++ [src] }
    { s1 with chan := { s1.chan with opens := s1.chan.opens.map (fun x => if x.id = o.id then add x else x) } }
  | none =>
    match (s1.host? w).bind (fun h => h.held.find? (fun x => x.seq == rq.seq)) with
    | some x => s1.sendAll [src] x.parts
    | none => s1

/-- Check 9 (R48): refused, or passed with whether the request is authenticated. -/
def authCheck (cfg : Mem) (op : Nat) (rq : Rq) : Option Bool :=
  if cfgU8 cfg 0x0020 0 ≠ 1 then some false else
  match rq.trailer with
  | none => if opAuth op then none else some false
  | some tr =>
    let body := [0x56#8, 0x4C#8, 0x01#8, byteOf op] ++ u16 (rq.tag % 64) ++ u16 rq.payload.length ++ u32 rq.seq ++
      [0#8, byteOf (b2n rq.force + 2 + 8 * rq.rsv), 0#8, 0#8] ++ rq.payload
    if tr = (hmacSha256 (authKey cfg) body).take 16 then some true else none

/-- Length of the datagram of a request. -/
def Rq.size (rq : Rq) : Nat := 20 + rq.payload.length + (if rq.trailer.isSome then 16 else 0)

/-- The execution of a request at check 13 (`h`), and what follows from its answer. -/
def State.execute (o : Opn) (src : Src) (h : Opn → State → State × Resp) (s : State) : State :=
  match h o { s with chan := { s.chan with opens := s.chan.opens ++ [o] } } with
  | (s6, .refuse status) => (s6.cnt (fun c => { c with refused := satInc c.refused })).answer o.id status []
  | (s6, .reply status data) => s6.answer o.id status data
  | (s6, .later) => s6.sendAll [src] (s6.partsOf o st.accepted [])
  | (s6, .twice status data) => (s6.sendAll [src] (s6.partsOf o st.accepted [])).answer o.id status data
  | (s6, .wait) => s6

/-- A request with a new sequence number: checks 7 to 13. Event 9 gives the IPv4 address with its first octet first (DESIGN CHOICE, log 123). -/
def State.serveNew (op : Nat) (rq : Rq) (w : Ident) (hr : HostRec) (h : Opn → State → State × Resp) (s3 : State) : State :=
  let o : Opn :=
    { id := s3.chan.nextId, hostIdx := hr.idx, ident := w, seq := rq.seq, tag := rq.tag % 64, op := op, srcs := [rq.from_], auth := false, t := rq.t,
      force := rq.force }
  let s4 : State := { s3 with chan := { s3.chan with nextId := s3.chan.nextId + 1 } }
  if !opDefined op then (s4.cnt (fun c => { c with badOpcode := satInc c.badOpcode })).refuseBare o st.badOpcode
  else if s4.pers == .pk20 && !opInPk op s4.profile then
    (s4.cnt (fun c => { c with notInPersonality := satInc c.notInPersonality })).refuseBare o st.notInPersonality
  else match authCheck s4.cfg.active op rq with
    | none =>
      ((s4.cnt (fun c => { c with authFailures := satInc c.authFailures })).apply rq.t [.event 9 (beBytes 4 rq.ip ++ u8 op)]).refuseBare o st.denied
    | some au =>
      let o1 := { o with auth := au }
      if s4.chan.opens.any (fun x => x.ident == w && x.tag == o1.tag) then
        (s4.cnt (fun c => { c with tagInUse := satInc c.tagInUse })).refuseBare o1 st.tagInUse
      else if 64 ≤ s4.chan.opens.length then (s4.cnt (fun c => { c with noTag := satInc c.noTag })).refuseBare o1 st.noTag
      else if !lenOk op rq.payload then (s4.cnt (fun c => { c with badLength := satInc c.badLength })).refuseBare o1 st.badLength
      else if (s4.asleep && !opAsleep op) || (opActive op && !s4.active) then
        (s4.cnt (fun c => { c with refused := satInc c.refused })).answerOpn o1 st.wrongState []
      else s4.execute o1 rq.from_ h

/-- A request of a tracked host: check 6, then the rest. -/
def State.serveHost (op : Nat) (rq : Rq) (w : Ident) (h : Opn → State → State × Resp) (s2 : State) : State :=
  match s2.host? w with
  | none => s2
  | some hr =>
    let kind := seqKind hr rq.seq
    if kind = 2 then s2.cnt (fun c => { c with stale := satInc c.stale })
    else if kind = 1 then s2.duplicate rq w
    else (s2.modHost w (seqTake rq.seq)).serveNew op rq w hr h

/-- A request from check 5 on (Table 2.4): `h` is check 13 and the execution. -/
def State.serve (s0 : State) (op : Nat) (rq : Rq) (h : Opn → State → State × Resp) : State :=
  if !(s0.chan.ready || (s0.clk.phase == .bootLoader && opBoot op)) then s0 else
  let s : State := { s0 with chan := { s0.chan with rxBytes := s0.chan.rxBytes + rq.size } }
  match s.track rq.t rq.from_ with
  | (s1, .drop) => s1.cnt (fun c => { c with unlisted := satInc c.unlisted })
  | (s1, .busy) =>
    (s1.cnt (fun c => { c with busySources := satInc c.busySources })).sendAll [rq.from_] (replyParts none op (rq.tag % 64) rq.seq st.busy [])
  | (s1, .host w) => (s1.heard rq.t rq.portB w).serveHost op rq w h

/-! Numbered results (R46, R47). -/

/-- A numbered-result read: `kind` holds the held results, newest first, as (number, whole reply). -/
def State.numbered (s : State) (o : Opn) (n0 : Nat) (kind : List (Nat × List Byte)) : State × Resp :=
  match kind with
  | [] => (s, .reply st.pending [])
  | (newest, _) :: _ =>
    let pk := s.pers == .pk20
    let early := decide (newest < n0)
    if early && !pk then (s, .reply st.pending []) else
    let n := if n0 = 0 ∨ early then newest else n0
    match kind.find? (fun r => r.1 == n) with
    | none => (s, .refuse st.wrongState)
    | some (_, data) =>
      let again : Bool := match s.host? o.ident with
        | some h => h.lastResult.contains (o.op, n)
        | none => false
      let s1 := s.modHost o.ident (fun h => { h with lastResult := (o.op, n) :: h.lastResult.filter (fun r => r.1 != o.op) })
      let s2 := if pk then s1.cnt (fun c =>
          { c with earlyReads := if early then satInc c.earlyReads else c.earlyReads, repeatReads := if again then satInc c.repeatReads else c.repeatReads })
        else s1
      (s2, .reply (if again && !pk then st.repeated else st.ok) data)

/-- A result joins the 16 newest of its kind. -/
def pushResult (n : Nat) (data : List Byte) (rs : List (Nat × List Byte)) : List (Nat × List Byte) := pushMax 16 (n, data) (rs.filter (fun r => r.1 != n))

/-- A refusal at check 13 that leaves the state. -/
def refuseWith (s : State) (status : Nat) : State × Resp := (s, .refuse status)

end Sys2Proof.Machine
end

