-- ==== Sys2Proof/Machine/Servo.lean ====
section
/-! DEFINITION. The servo loops: set-points, control laws, friction tables, validation (chapter 09). -/

namespace Sys2Proof.Machine

/-! Loop records (Table 9.2). -/

def srvU8 (cfg : Mem) (n o : Nat) : Nat := cfgU8 cfg 0x0B00 (64 * n + o)
def srvU16 (cfg : Mem) (n o : Nat) : Nat := cfgU16 cfg 0x0B00 (64 * n + o)
def srvU32 (cfg : Mem) (n o : Nat) : Nat := cfgU32 cfg 0x0B00 (64 * n + o)

/-- A field of a loop record: outside its encoding the result is unpredictable (R247), and `top` bounds what stands for it (log 121). -/
def srvField (n o v top : Nat) : Nat := if v ≤ top then v else Config.freeNat 121 [(n : Int), (o : Int), (v : Int)] % (top + 1)

def srvMode (cfg : Mem) (n : Nat) : Nat := srvField n 0 (srvU8 cfg n 0) 2
def srvConv (cfg : Mem) (n : Nat) : Nat := srvField n 1 (srvU8 cfg n 1) 1
/-- INT_LIM as u16.16, at most 1.0. -/
def srvIntLim (cfg : Mem) (n : Nat) : Int := (srvField n 32 (srvU32 cfg n 32) 65536 : Nat)
/-- FAIL_COUNT, 1 to 1,000. -/
def srvFailCount (cfg : Mem) (n : Nat) : Nat :=
  let v := srvU16 cfg n 10
  if 1 ≤ v ∧ v ≤ 1000 then v else 1 + Config.freeNat 121 [(n : Int), 10, (v : Int)] % 1000
def srvAngle (n : Nat) : Bool := n % 2 == 0
def srvThruster (n : Nat) : Nat := n / 2 + 1

/-- MODE, feedback source and output destination: what stops a loop when it changes (R242). -/
def srvSource (cfg : Mem) (n : Nat) : List Byte := cfgBytes cfg 0x0B00 (64 * n) 1 ++ cfgBytes cfg 0x0B00 (64 * n + 2) 8

/-- The speed-or-pitch set-point of a thrust set-point, s16.16 % (R229). -/
def srvSpeedSet (cfg : Mem) (n : Nat) (thrust : Int) : Int :=
  let t := srvThruster n
  let ref := if 0 ≤ thrust then thrTmaxPos cfg t else thrTmaxNeg cfg t
  if ref = 0 then 0
  else if srvConv cfg n = 1 then satS 32 (divNearAway (thrust * 100 * 65536) ref)
  else
    let r := isqrt (10000 * 2 ^ 32 * thrust.natAbs / ref)
    if thrust < 0 then -(r : Int) else (r : Int)

/-- Feed-forward of a table (R234) at a feedback. -/
def srvTable (cfg : Mem) (n : Nat) (fb : Int) : Int :=
  let c := fun k => cfgS16 cfg (0x0B10 + n) (2 * k)
  if srvAngle n then
    let a := bamOf fb
    let k := a / 2 ^ 24
    c k + asrRound ((c ((k + 1) % 256) - c k) * ((a % 2 ^ 24 : Nat) : Int)) 24
  else
    let x := (clampI 0 (255 * 65536) (fb + 128 * 65536)).toNat
    let k := x / 65536
    c k + asrRound ((c (Nat.min (k + 1) 255) - c k) * ((x % 65536 : Nat) : Int)) 16

/-- What a loop reads at a tick: its feedback where there is new one, a signal fault of its resolver or input. -/
structure FbIn where
  fb : Option Int
  fault : Bool
  deriving DecidableEq, Repr

def signI (x : Int) : Int := if x < 0 then -1 else if x = 0 then 0 else 1

/-- h·k·e with the product's fraction bits `f` brought to 48. -/
def hProd (k e : Int) (f : Nat) : Int := divNearAway (k * e * 2 ^ (48 - f)) 1000

/-- An integrator's tick (R233): held where no new feedback exists (R238) or where it would deepen the clamp of its stage. -/
def srvInteg (held : Bool) (cl err lim step i : Int) : Int :=
  if held || (decide (cl ≠ 0) && decide (cl = signI err)) then i else clampI (-lim) lim (i + step)

/-- A closed angle loop's tick (R231, R233); `held` in a feedback hold. -/
def srvAngleLaw (cfg : Mem) (n : Nat) (held : Bool) (x : Loop) (fb prev : Int) : Loop :=
  let g := fun o => ((srvU32 cfg n o : Nat) : Int)
  let az := ((thrAzRate cfg (srvThruster n) : Nat) : Int)
  let ea := asrRound (bamDiff x.sp fb * 360) 10
  let ia := srvInteg held x.clA ea (az * 2 ^ 32) (hProd (g 16) ea 38) x.ia
  let w0 := asrRound (g 12 * ea * 2 ^ 10 + ia) 28
  let w := clampI (-(az * 16)) (az * 16) w0
  let om := satS 32 (asrRound (bamDiff fb prev * 360000) 12)
  let ew := satS 32 (w - om)
  let iw := srvInteg held x.clC ew (srvIntLim cfg n * 2 ^ 32) (hProd (g 24) ew 36) x.iw
  let c0 := asrRound (g 20 * ew * 2 ^ 12 + iw + srvTable cfg n fb * 2 ^ 33) 33
  let clC : Int := if c0 < -32768 then -1 else if 32768 < c0 then 1 else 0
  { x with ia := ia, iw := iw, cmd := satS 16 c0, clA := (if w = w0 then 0 else signI w0), clC := clC }

/-- A closed speed-or-pitch loop's tick (R232, R233); `held` in a feedback hold. -/
def srvSpeedLaw (cfg : Mem) (n : Nat) (held : Bool) (x : Loop) (fb : Int) : Loop :=
  let g := fun o => ((srvU32 cfg n o : Nat) : Int)
  let e := satS 32 (x.sp - fb)
  let i := srvInteg held x.clC e (srvIntLim cfg n * 2 ^ 32) (hProd (g 16) e 32) x.iw
  let c0 := asrRound (g 12 * e * 2 ^ 16 + i + g 28 * x.sp * 2 ^ 16 + srvTable cfg n fb * 2 ^ 33) 33
  let clC : Int := if c0 < -32768 then -1 else if 32768 < c0 then 1 else 0
  { x with iw := i, cmd := satS 16 c0, clC := clC }

/-- Difference of two feedback values: signed bam32 for an angle loop. -/
def srvDiff (n : Nat) (a b : Int) : Int := if srvAngle n then bamDiff a b else a - b

/-- y_m of R236 after a tick. -/
def srvModel (cfg : Mem) (n : Nat) (x : Loop) : Int :=
  let d := srvDiff n x.sp x.ym
  let tau := srvU32 cfg n 44
  let step := if tau = 0 then d else divNearAway (d * 65536) (1000 * tau)
  let lim := if srvAngle n then degToBam (thrAzRate cfg (srvThruster n) : Nat) (65536 * 1000) else divNearAway (srvU32 cfg n 48 : Nat) 1000
  let y := x.ym + clampI (-lim) lim step
  if srvAngle n then ((bamOf y : Nat) : Int) else satS 32 y

/-- Counts of the three checks after a tick with new feedback (R236): range, rate, model. Where y_m is set at this tick it is the feedback. -/
def srvChecks (cfg : Mem) (n : Nat) (x : Loop) (fb : Int) (fault running : Bool) : Loop :=
  let range := fault || (!srvAngle n && decide (srvU32 cfg n 40 < fb.natAbs))
  let d := (srvDiff n fb x.fb).natAbs
  let rate := !x.skip && (if srvAngle n then decide (srvU32 cfg n 36 * 2 ^ 16 < d * 360000) else decide (srvU32 cfg n 36 < d * 1000))
  let ym := if x.snap then fb else if running then srvModel cfg n x else x.ym
  let m := (srvDiff n fb ym).natAbs
  let model := running && (if srvAngle n then decide (srvU32 cfg n 52 * 2 ^ 16 < m * 360) else decide (srvU32 cfg n 52 < m))
  { x with
    ym := ym
    cRange := if range then satN 16 (x.cRange + 1) else 0
    cRate := if rate then satN 16 (x.cRate + 1) else 0
    cModel := if running then (if model then satN 16 (x.cModel + 1) else 0) else x.cModel
    pass := !range && !rate }

/-- The causes whose counts have reached their limits: SRV_LOOP_STAT [4:2] as a number. -/
def srvFailed (cfg : Mem) (n : Nat) (x : Loop) : Nat :=
  let fc := srvFailCount cfg n
  b2n (decide (fc ≤ x.cRange)) + 2 * b2n (decide (fc ≤ x.cRate)) + 4 * b2n (decide (Nat.max 1 (srvU16 cfg n 56) ≤ x.cModel))

def srvFbWord (x : Loop) : List Byte := s32 x.fb

/-- The failure of a loop at a tick (R237). -/
def srvFail (n : Nat) (x : Loop) (causes : Nat) : Loop × List Fx :=
  ({ x with state := 3, causes := causes, cmd := 0, ia := 0, iw := 0, clA := 0, clC := 0 },
   [.flag Reg.srvStatus 0, .count Reg.srvCntValfail 1, .start 64 n ([byteOf n, 1#8, byteOf causes, 0#8] ++ srvFbWord x)])

/-- The outputs of a loop that does not run: command 0, set-point at feedback for an angle, 0 for speed or pitch (R230). -/
def srvStill (n : Nat) (x : Loop) : Loop :=
  { x with cmd := 0, ia := 0, iw := 0, clA := 0, clC := 0, sp := if srvAngle n then x.fb else 0 }

/-- The return of a FAILED loop on ENABLE at a tick at which its range and rate checks pass (R237). -/
def srvReturn (n : Nat) (x : Loop) : Loop × List Fx :=
  if x.state = 3 ∧ x.pass then
    ({ x with state := 1, causes := 0, cRange := 0, cRate := 0, cModel := 0 }, [.ended 64 n ([byteOf n, 0#8, 0#8, 0#8] ++ srvFbWord x)])
  else (x, [])

/-- The set-point a running loop takes from the latched set-points of its thruster. -/
def srvSet (cfg : Mem) (n : Nat) (thrust : Int) (az : Nat) : Int := if srvAngle n then (az : Int) else srvSpeedSet cfg n thrust

/-- The state of R230 for a loop that has not failed: STOPPED where `stop` holds, else RUNNING, entered with zero integrators and y_m at the feedback `fb`. -/
def srvEnter (stop : Bool) (fb : Int) (x : Loop) : Loop :=
  if x.state = 3 then x
  else if stop then { x with state := 1 }
  else if x.state = 2 then x
  else { x with state := 2, ia := 0, iw := 0, clA := 0, clC := 0, ym := fb, snap := true, cModel := 0 }

/-- The law of a running loop (R231, R232); a set-point-only loop has none. -/
def srvLaw (cfg : Mem) (n : Nat) (held : Bool) (fb prev : Int) (x : Loop) : Loop :=
  if srvMode cfg n ≠ 2 then x else if srvAngle n then srvAngleLaw cfg n held x fb prev else srvSpeedLaw cfg n held x fb

/-- What a loop delivers in its state (R230). -/
def srvDeliver (cfg : Mem) (n : Nat) (held : Bool) (thrust : Int) (az : Nat) (fb prev : Int) (x : Loop) : Loop :=
  if x.state = 2 then srvLaw cfg n held fb prev { x with sp := srvSet cfg n thrust az } else srvStill n x

/-- A tick without new feedback (R238): feedback, integrators, y_m and counts are held, and neither check passes. -/
def srvHold (cfg : Mem) (n : Nat) (stop : Bool) (thrust : Int) (az : Nat) (x : Loop) : Loop × List Fx :=
  (srvDeliver cfg n true thrust az x.fb x.fb { srvEnter stop x.fb x with hold := true, pass := false, snap := false }, if x.hold then [] else [.start 67 n [byteOf n, 1#8]])

/-- The checks of a tick with new feedback `fb` (R236): the loop with its counts, its feedback and what the tick has used up. -/
def srvValidate (cfg : Mem) (n : Nat) (sp fb : Int) (fault : Bool) (x : Loop) : Loop :=
  let y := srvChecks cfg n { x with sp := if x.state = 2 then sp else x.sp } fb fault (x.state = 2)
  { y with fb := fb, skip := false, first := false, snap := false, hold := false }

/-- An ENABLE of this tick that waited for the tick's checks (R237). -/
def srvBack (tick n : Nat) (x : Loop) : Loop × List Fx :=
  if x.back = some tick then srvReturn n { x with back := none } else ({ x with back := none }, [])

/-- A tick with new feedback. -/
def srvFeed (cfg : Mem) (tick n : Nat) (stop : Bool) (thrust : Int) (az : Nat) (fb : Int) (fault : Bool) (x0 : Loop) : Loop × List Fx :=
  let x := { x0 with skip := x0.skip || x0.hold || x0.first }
  let prev := if x.first then fb else x.fb
  let y := srvValidate cfg n (srvSet cfg n thrust az) fb fault (srvEnter stop fb x)
  let bad := srvFailed cfg n y
  let (z, f1) := if y.state ≠ 3 ∧ bad ≠ 0 then srvFail n y bad else (y, [])
  let (w, f2) := srvBack tick n z
  (srvDeliver cfg n false thrust az fb prev { srvEnter stop fb w with snap := false }, (if x0.hold then [Fx.ended 67 n [byteOf n, 0#8]] else []) ++ f1 ++ f2)

/-- One tick of a loop. `stop`: a condition of STOPPED holds; `thrust`, `az` are the latched set-points of its thruster. -/
def srvTick (cfg : Mem) (tick n : Nat) (stop0 : Bool) (thrust : Int) (az : Nat) (i : FbIn) (x : Loop) : Loop × List Fx :=
  if srvMode cfg n = 0 then ({}, []) else
  let stop := stop0 || decide (x.stopAt = some tick)
  match i.fb with
  | none => srvHold cfg n stop thrust az x
  | some fb => srvFeed cfg tick n stop thrust az (if srvAngle n then ((bamOf fb : Nat) : Int) else fb) i.fault x

/-- The loops at the boundary of a new configuration (R242): one whose MODE, feedback source or output destination changes enters STOPPED. -/
def srvConfig (old new : Mem) (tick : Nat) (xs : List Loop) : List Loop :=
  xs.zipIdx.map (fun x =>
    if srvSource old x.2 = srvSource new x.2 then x.1
    else if srvMode new x.2 = 0 then {}
    else srvStill x.2 { x.1 with state := 1, causes := 0, cRange := 0, cRate := 0, cModel := 0, skip := true, first := true, stopAt := some tick, back := none })

/-- The servo state a warm restart resumes with (R246): states and causes stay; counts 0, rate check skipped, integrators zero, y_m at the feedback of the
first tick. -/
def srvWarm (x : Loop) : Loop :=
  { x with ia := 0, iw := 0, clA := 0, clC := 0, cRange := 0, cRate := 0, cModel := 0, skip := true, snap := true, ym := x.fb, back := none }

/-- The servo state a takeover resumes with (R246). -/
def srvTakeover (x : Loop) : Loop := { x with skip := true, snap := true, ym := x.fb, back := none }

/-- SRV_LOOP_STAT_n. -/
def srvStat (x : Loop) : Nat :=
  x.state + x.causes * 4 + b2n x.hold * 32 + b2n (decide (x.clC ≠ 0)) * 64 + satN 16 (Nat.max x.cRange (Nat.max x.cRate x.cModel)) * 65536

/-- The 16 bytes of SRV_GET_STATE for a loop (Table 9.3). -/
def srvBytes (x : Loop) : List Byte := u32 (srvStat x) ++ s32 x.sp ++ s32 x.fb ++ s16 x.cmd ++ u16 0

/-- Duration of a pass in 10 ns units for a NUM clock in kHz: 30,720 clocks (R239). -/
def srvPassTime (khz : Nat) : Nat := if khz = 0 then 0xFFFF else satN 16 (30720 * 100000 / khz)

end Sys2Proof.Machine
end

