-- ==== Sys2Proof/Machine/View.lean ====
section
/-! DEFINITION. What registers and mailbox values read as: the read-only fields of every block from its unit's state (chapter 03 and the chapters' register lists). -/

namespace Sys2Proof.Machine

/-- Index of an address among `n` registers a step apart. -/
def regIdx (base step n addr : Nat) : Option Nat :=
  if base ≤ addr ∧ (addr - base) % step = 0 ∧ (addr - base) / step < n then some ((addr - base) / step) else none

/-- The first view that has an address. -/
def firstView : List (Option Nat) → Option Nat
  | [] => none
  | some v :: _ => some v
  | none :: r => firstView r

/-- Domain of a block (Table 3.4): index in CLK_DOMAIN; none for AON. -/
def blockDomain (b : Nat) : Option Nat :=
  if [0, 2, 3, 13, 16, 21].contains b then some 0
  else if [12, 14, 15].contains b then some 1
  else if b = 11 then some 2
  else if [5, 6, 7, 8, 9, 18, 20].contains b then some 3
  else if b = 10 then some 4
  else if b = 17 then some 5
  else none

/-- The blocks of Table 20.8 that moored standby powers down. -/
def sleepBlocks : List Nat := [6, 7, 8, 9, 10, 11, 12, 14, 15, 18, 20]

/-- Whether a block is powered down (R73, R485). -/
def State.blockDown (s : State) (b : Nat) : Bool :=
  (s.clk.phase == .standby && sleepBlocks.contains b) ||
  (match blockDomain b with
   | some d => (s.clk.domains.getD d {}).src == 0
   | none => false)

def profCode (p : Profile) : Nat := if p = .extended then 1 else 0
def persCode (p : Pers) : Nat := if p = .pk20 then 1 else 0

/-- The running firmware image. -/
def Fw.running (f : Fw) : Img := if f.runB then f.imgB else f.imgA

/-- Whether the words of a snapshot arrive in the very clock of MONO `t`. -/
def Mbx.backAt (m : Mbx) (t : Nat) : Bool := match m.back with
  | some (d, _) => d == t
  | none => false

/-- The mailbox at MONO `t`: a snapshot whose words have arrived is complete (R76). -/
def Mbx.at_ (m : Mbx) (t : Nat) : Mbx := match m.pend, m.back with
  | some id, some (d, ws) => if d ≤ t then { pend := none, back := none, data := ws, cur := id, valid := true } else m
  | _, _ => m

/-- SYS, EVT, MBX. -/
def State.sysView (s : State) (t addr : Nat) : Option Nat :=
  let m := s.mbx.at_ t
  if addr = Reg.sysRev then some (0x42 + 256 * persCode s.pers + (if s.pers = .pk20 then 512 * profCode s.profile else 0))
  else if addr = Reg.sysFwver then some (s.fw.running.patch + 65536 * s.fw.running.minor + 0x1000000 * s.fw.running.major)
  else if addr = Reg.sysStatus then some (256 * roleCode s.red.role + 1024 * s.clk.op)
  else if addr = Reg.evtSeq then some s.evt.seq
  else if addr = Reg.evtDest then some s.evt.dests.length
  else if addr = Reg.mbxStat then some (b2n m.valid + 2 * b2n m.pend.isSome + 65536 * m.cur)
  else firstView
    [(regIdx Reg.evtActive 4 4 addr).map (fun k => bits s.evActive (32 * k) 32),
     (regIdx Reg.mbxData 4 8 addr).map (fun k => m.data.getD k 0)]

/-- CTL. -/
def State.ctlView (s : State) (addr : Nat) : Option Nat :=
  if addr = Reg.ctlStatus then some (ctlStatusView s.ctl)
  else if addr = Reg.ctlMode then some (ctlModeView s.ctl)
  else (regIdx Reg.ctlOsc 4 3 addr).map (fun d => oscReg d (s.ctl.osc.getD d {}))

/-- ALC. -/
def State.alcView (s : State) (addr : Nat) : Option Nat :=
  let a := s.alc
  let grp := fun (k : Nat) => a.groups.getD k {}
  let sec := fun (k : Nat) => a.secs.getD k {}
  if addr = Reg.alcStatus then
    some (256 * a.lastKind.getD 0 + 2097152 * b2n (a.groups.any (·.alarm)) + 4194304 * b2n (a.secs.any (fun x => !x.inService)))
  else if addr = Reg.alcRes then some (alcResWord a.res)
  else if addr = Reg.alcSig then some a.sig
  else if addr = Reg.alcIter then some (satN 16 a.lastIters)
  else if addr = Reg.alcCfgErr then some (a.cfgErrCode + 256 * a.cfgErrThr + 65536 * a.cfgErrItem)
  else if addr = Reg.alcCqAlarm then some (cqAlarmMask a.groups)
  else firstView
    [(regIdx Reg.alcThrStat 4 24 addr).map (fun k => (a.res.thr.getD k {}).stat),
     (regIdx Reg.alcThrAz 8 24 addr).map (fun k => (a.res.thr.getD k {}).az),
     (regIdx Reg.alcThrF 8 24 addr).map (fun k => unsigned 32 (a.res.thr.getD k {}).thrust),
     (regIdx Reg.alcCqStat 16 16 addr).map (fun k => cqStat (grp k)),
     (regIdx Reg.alcCqTimer 16 16 addr).map (fun k => satN 32 (grp k).pers),
     (regIdx Reg.alcCqClear 16 16 addr).map (fun k => satN 32 (grp k).clear),
     (regIdx Reg.alcCqIter 16 16 addr).map (fun k => satN 32 (grp k).iters),
     (regIdx Reg.alcBusStat 8 8 addr).map (fun k => secStat (sec k) (bits a.res.powerBind k 1 == 1)),
     (regIdx Reg.alcBusBudget 8 8 addr).map (fun k => budgetWord (sec k).budget)]

/-- Frequency of a domain in kHz; domain 1 is NUM. -/
def State.domKhz (s : State) (d : Nat) : Nat := (s.clk.domains.getD d {}).khz

/-- SRV. -/
def State.srvView (s : State) (addr : Nat) : Option Nat :=
  let lp := fun (k : Nat) => s.srv.loops.getD k {}
  if addr = Reg.srvStatus then
    some (256 * b2n (s.srv.loops.any (fun x => x.state == 3)) + 512 * b2n (s.srv.loops.any (·.hold)))
  else firstView
    [(regIdx Reg.srvLoopStat 16 48 addr).map (fun k => srvStat (lp k)),
     (regIdx Reg.srvLoopSp 16 48 addr).map (fun k => unsigned 32 (lp k).sp),
     (regIdx Reg.srvLoopFb 16 48 addr).map (fun k => unsigned 32 (lp k).fb),
     (regIdx Reg.srvLoopCmd 16 48 addr).map (fun k => unsigned 32 (lp k).cmd)]

/-- GNS. -/
def State.gnsView (s : State) (t addr : Nat) : Option Nat :=
  if addr = Reg.gnsStatus then some (gnsStatusView s.gns)
  else if addr = Reg.gnsBaseStat then some (gnsBaseStat s.gns)
  else if addr = Reg.gnsStation then some (gnsStation s.gns t)
  else firstView
    [(regIdx Reg.gnsAntStat 4 2 addr).map (gnsAntStat s.gns),
     (regIdx Reg.gnsFixStat 4 2 addr).map (gnsFixStat s.gns),
     (regIdx Reg.gnsChStat1 4 24 addr).map (fun c => gnsChanStat ((gnsChans s.gns 0).getD c {})),
     (regIdx Reg.gnsChStat2 4 24 addr).map (fun c => gnsChanStat ((gnsChans s.gns 1).getD c {}))]

/-- SER and CRC. -/
def State.serView (s : State) (addr : Nat) : Option Nat :=
  if addr = Reg.serStatus then some (serStatusView s.ser.ports)
  else firstView
    [(regIdx Reg.serPortStat 4 8 addr).map (fun k => serPortStat s.cfg.active s.ser.ports (k + 1)),
     (regIdx Reg.crcStat 64 4 addr).map (fun u => b2n (s.crc.getD u {}).busy),
     (regIdx Reg.crcResult 64 4 addr).map (fun u => crcResult (bits (s.reg (Reg.crcCtrl + 64 * u)) 0 3) (s.reg (Reg.crcValue + 64 * u)))]

/-- Whether the module originates Chain frames (R341): in the Active role, holding the token. -/
def State.fldMaster (s : State) : Bool := s.red.token && s.active && !(s.clk.phase == .standby)

/-- FLD. -/
def State.fldView (s : State) (addr : Nat) : Option Nat :=
  let stn := fun (k : Nat) => s.fld.stations.getD k {}
  if addr = Reg.fldStatus then some (fldStatusView s.fld s.fldMaster)
  else if addr = Reg.fldCycle then some s.fld.lastCyc
  else if addr = Reg.fldRtt then some (satN 16 s.fld.rttLast)
  else if addr = Reg.fldCmdEpoch then some s.fld.cmdEpoch
  else firstView
    [(regIdx Reg.fldStnStat 16 64 addr).map (fun k => stnStat (stn k)),
     (regIdx Reg.fldStnLastcyc 16 64 addr).map (fun k => (stn k).lastCyc),
     (regIdx Reg.fldIn 4 1024 addr).map (fun k => leNat (slice (s.fld.col.out.getD (k / 16) []) (4 * (k % 16)) 4)),
     (regIdx Reg.fldOut 4 1024 addr).map (fun k => leNat (slice (stn (k / 16)).outs (4 * (k % 16)) 4))]

/-- AIO. -/
def State.aioView (s : State) (addr : Nat) : Option Nat :=
  let cfg := s.cfg.active
  let ch := fun (k : Nat) => (s.aio.chans.getD k {}).new.w
  if addr = Reg.aioStatus then some (aioStatusView cfg s.aio)
  else if addr = Reg.aioDi then some (diFiltered s.aio)
  else if addr = Reg.aioDiRaw then some (diRaw s.aio)
  else if addr = Reg.aioDo then some (doCmd s.aio)
  else if addr = Reg.aioDoFlt then some (doFlt s.aio)
  else firstView
    [(regIdx Reg.aioAiVal 8 32 addr).map ch,
     (regIdx Reg.aioAiFlg 8 32 addr).map (aioFlagView cfg s.aio),
     (regIdx Reg.aioResVal 8 8 addr).map (fun k => ch (32 + k)),
     (regIdx Reg.aioResFlg 8 8 addr).map (fun k => aioFlagView cfg s.aio (32 + k)),
     (regIdx Reg.aioAo 4 16 addr).map (fun k => aoView (s.aio.ao.getD k {}))]

/-- LGC. -/
def State.lgcView (s : State) (addr : Nat) : Option Nat :=
  let cfg := s.cfg.active
  let here := lgcInstalled cfg
  if addr = Reg.lgcStatus then
    some (256 * lgcState cfg + 1024 * b2n (!s.lgc.pending.isEmpty) + 2048 * b2n (s.lgc.bufSize == some s.lgc.buf.length))
  else if addr = Reg.lgcProgramId then some (if here then lgcProgramId cfg else 0)
  else if addr = Reg.lgcImageCrc then some (if here then lgcCrc cfg else 0)
  else if addr = Reg.lgcCost then some s.lgc.cost
  else if addr = Reg.lgcPeriod then some (if here then lgcPeriod cfg % 16 + 65536 * (lgcNInst cfg % 8192) else 0)
  else if addr = Reg.lgcIdle then some (satN 16 s.lgc.idle)
  else if addr = Reg.lgcExec then some (satN 16 s.lgc.exec)
  else none

/-- SAF. -/
def State.safView (s : State) (t addr : Nat) : Option Nat :=
  let f := s.saf
  if addr = Reg.safStatus then some (safStatusView f t)
  else if addr = Reg.safCfgCrc then some (crc32c f.cfg)
  else if addr = Reg.safCfgErr then some (f.errCode + 256 * f.errFn)
  else if addr = Reg.safInhThr then some f.sent.thr
  else if addr = Reg.safInhAo then some f.sent.ao
  else if addr = Reg.safInhDo then some f.sent.dout
  else if addr = Reg.safInhStn0 then some f.sent.stn0
  else if addr = Reg.safInhStn1 then some f.sent.stn1
  else if addr = Reg.safSiRaw then some (safRawView f)
  else if addr = Reg.safClk then some (unsigned 16 f.dev)
  else firstView
    [(regIdx Reg.safFuncStat 4 8 addr).map (safFnView f),
     (regIdx Reg.safCfg 4 128 addr).map (fun k => getU32 f.cfg (4 * k))]

/-- Ns since midnight of nothing: whole days between two VESSEL times. -/
def daysBetween (a b : Nat) : Nat := (b - a) / 86400000000000

/-- RED_FLAGS (Table 17.4): the latched flags, and those that follow conditions. -/
def State.flagsNow (s : State) (t : Nat) : Nat :=
  let d := fun (k : Nat) => s.clk.domains.getD k {}
  let slow := ((d 0).src != 0 && decide ((d 0).khz < 1000000)) || ((d 1).src != 0 && decide ((d 1).khz < 800000))
  let noLink : Bool := match s.red.noLink with
    | some x => fldTopology s.cfg.active != 0 && decide (x + 10000000 ≤ t)
    | none => false
  let safety := s.saf.intFlt || s.saf.cons.any (·.failed)
  let ao := s.aio.ao.zipIdx.any (fun x => x.1.flt && aoRange s.cfg.active x.2 != 0)
  bits s.red.flags 0 5 + 32 * b2n slow + 64 * b2n noLink + 128 * b2n safety + 256 * b2n ao + 512 * b2n (s.aio.dout.any (·.flt)) + 1024 * bits s.red.flags 10 1

/-- READY (R415): CMD and NUM at OP2, no fatal flag, the newest sealed epoch held, the last 100 compared cycles agreed; not while LATENT (R436). -/
def State.redReady (s : State) (t : Nat) : Bool :=
  let f := s.flagsNow t
  s.red.role != .none && bits f 0 6 == 0 && !s.red.faulted && !s.red.latent && !s.red.join && s.red.fit

/-- RED. -/
def State.redView (s : State) (t addr : Nat) : Option Nat :=
  let r := s.red
  if addr = Reg.redStatus then
    some (256 * roleCode r.role + 1024 * b2n (s.redReady t) + 2048 * b2n r.token + 4096 * b2n r.unres + 8192 * b2n r.rlLost + 16384 * b2n r.faulted +
      32768 * b2n r.latent + 65536 * r.modNum + 262144 * r.size + 1048576 * b2n r.testDue)
  else if addr = Reg.redFlags then some (s.flagsNow t)
  else if addr = Reg.redIl then
    some (satN 8 r.loop + 256 * satN 8 r.demand + 65536 * b2n r.driver + 131072 * b2n r.sink + 262144 * b2n r.idleSince.isSome)
  else if addr = Reg.redTest then
    some ((match r.lastTest with
      | some v => satN 16 (daysBetween v (s.vessel t))
      | none => 0xFFFF) + 65536 * r.testResult)
  else (regIdx Reg.redPeer 4 3 addr).map (fun k =>
    let p := r.peers.getD k {}
    roleCode p.role + 4 * b2n p.present + 8 * b2n p.ready + 16 * b2n p.faulted + 32 * b2n p.agree + 64 * b2n p.latent + 256 * p.flags)

/-- REC. -/
def State.recView (s : State) (addr : Nat) : Option Nat :=
  let r := s.recd
  if addr = Reg.recStatus then some (recStatusView r)
  else if addr = Reg.recSeqClear then some r.c
  else if addr = Reg.recSeqNewest then some r.newest
  else if addr = Reg.recPower then some r.power
  else (regIdx Reg.recWin 4 16 addr).map (fun k => leNat (slice r.win (4 * k) 4))

/-- Alarm 19's condition (Table 19.6): no valid frame for 5 s. -/
def State.pkSilent (s : State) (t : Nat) : Bool := s.pers == .pk20 && decide (s.pk.lastFrame + 5000000000 ≤ t)

/-- CMP. -/
def State.cmpView (s : State) (addr : Nat) : Option Nat :=
  if addr = Reg.cmpStatus then
    some (256 * persCode s.pers + (if s.pers = .pk20 then 512 * profCode s.profile else 0) + 1024 * bits s.pk.cond 18 1)
  else if addr = Reg.cmpCycle then some s.pk.cycle
  else if addr = Reg.cmpAlarm then some s.pk.alarms
  else if addr = Reg.cmpAlarmUnack then some s.pk.unack
  else none

def refCode (r : MainRef) : Nat := match r with
  | .oven => 0
  | .ext => 1
  | .rc => 2

def startCode (k : StartKind) : Nat := match k with
  | .cold => 0
  | .warm => 1
  | .wake => 2

/-- CLK. -/
def State.clkView (s : State) (t addr : Nat) : Option Nat :=
  let c := s.clk
  if addr = Reg.clkStatus then
    some (256 * refCode c.ref + 1024 * b2n c.extsel + 2048 * b2n c.warm + 4096 * c.op + 16384 * b2n c.throttle + 32768 * b2n (c.phase == .standby) +
      65536 * b2n c.dpReady + 131072 * startCode c.start)
  else if addr = Reg.clkOsc then
    some (unsigned 16 c.ovenErr + 65536 * (match c.inBandSince with
      | some x => satN 16 (((t : Int) - x) / 1000000000).toNat
      | none => 0))
  else if addr = Reg.clkTemp then some (unsigned 16 c.dieTemp + 65536 * unsigned 16 c.baseTemp)
  else if addr = Reg.clkGap then some (satN 32 c.gapMs)
  else if addr = Reg.clkGate then
    some ((Config.freeNat 57 [(t : Int)] % 2 ^ 22) &&& bitmap 22 (fun b => !s.blockDown b))
  else (regIdx Reg.clkDomain 4 6 addr).map (fun k =>
    let d := c.domains.getD k {}
    d.src + 4 * b2n d.lock + 256 * d.khz)

/-- The read-only fields of a register as its unit holds them; none where the register file holds them. -/
def State.view (s : State) (t addr : Nat) : Option Nat :=
  match blockOf addr with
  | 0 => s.sysView t addr
  | 1 => s.clkView t addr
  | 2 => s.sysView t addr
  | 3 => s.sysView t addr
  | 4 => if addr = Reg.timStatus then some (timStatusView s.tim) else timView (s.timIn t) s.tim addr
  | 6 => canView s.can0 (addr - 0x60000)
  | 7 => canView s.can1 (addr - 0x68000)
  | 8 => s.serView addr
  | 9 => s.fldView addr
  | 10 => s.aioView addr
  | 11 => s.gnsView t addr
  | 12 => if addr = Reg.fusStatus then some (fusStatusView s.fus) else fusView s.cfg.active s.fus addr
  | 13 => s.ctlView addr
  | 14 => s.alcView addr
  | 15 => s.srvView addr
  | 16 => s.lgcView addr
  | 17 => s.safView t addr
  | 18 => s.redView t addr
  | 19 => s.recView addr
  | 20 => s.serView addr
  | 21 => s.cmpView addr
  | _ => none

/-- The bits of a register that its listed fields of some classes cover. -/
def RegGroup.mask (g : RegGroup) (p : Acc → Bool) : Nat :=
  g.flds.foldl (fun m f => if p f.cls then m ||| setBits 0 f.lo f.w (2 ^ f.w - 1) else m) 0

/-- What a read of a register returns: fields of class RO from the unit, WO as 0, the others as they stand (R70, R75). -/
def State.readReg (s : State) (t addr : Nat) : Nat :=
  match regFind addr with
  | none => 0
  | some g =>
    let soft := g.mask (fun _ => true)
    let wo := g.mask (fun c => c == .wo)
    let ro := (s.view t addr).getD (s.reg addr)
    ((s.reg addr &&& (soft - (soft &&& wo))) ||| (ro &&& (0xFFFFFFFF - soft))) % 2 ^ 32

/-! Mailbox values. -/

def lo32 (n : Nat) : Nat := n % 2 ^ 32
def hi32 (n : Nat) : Nat := n / 2 ^ 32 % 2 ^ 32

/-- Two words of a u64, low word first. -/
def w64 (n : Nat) : List Nat := [lo32 n, hi32 n]

/-- The SYS values (Table 3.3, R533). -/
def State.sysMbx (s : State) (id : Nat) : Option (List Nat) :=
  match id with
  | 0x0001 => match s.cyc.last with
    | some e => some (w64 e.number ++ w64 e.tick ++ [e.cfgHash, 0])
    | none => some [0, 0, 0, 0, s.cfg.hash, 0]
  | 0x0002 => some (w64 s.chan.rxBytes ++ w64 s.chan.txBytes ++ [0, 0])
  | _ => none

/-- A word of a mailbox value that the spec does not state (log 48). -/
def freeWord (id k t : Nat) : Nat := Config.freeNat 48 [(id : Int), (k : Int), (t : Int)] % 2 ^ 32

def freeWords (id k t n : Nat) : List Nat := (List.range n).map (fun i => freeWord id (k + i) t)

/-- A signed value as one word. -/
def sw (x : Int) : Nat := unsigned 32 x

def V3.words (v : V3) : List Nat := [sw v.x, sw v.y, sw v.n]

/-- FUS values (Tables 4.10, 5.9); before the first solution or closed epoch its words are not stated. -/
def State.fusMbxNow (s : State) (t id : Nat) : Option (List Nat) :=
  let f := s.fus
  match id with
  | 0x0C02 => (fusMbx s.cfg.active f 0 s.cyc.tickV id).map (fun ws =>
    (if f.newest.isSome then ws.take 2 else freeWords id 0 t 2) ++ (if f.history.isEmpty then freeWords id 2 t 2 else slice' ws 2 2) ++ ws.drop 4)
  | 0x0C03 => some ((fusMbx s.cfg.active f 0 s.cyc.tickV id).getD (freeWords id 0 t 5 ++ [f.flags]))
  | 0x0C04 => some ((fusMbx s.cfg.active f 0 s.cyc.tickV id).getD (freeWords id 0 t 5 ++ [0]))
  | _ => fusMbx s.cfg.active f (s.reg Reg.fusStrmSel % 256) s.cyc.tickV id
where
  slice' (ws : List Nat) (i n : Nat) : List Nat := (ws.drop i).take n

/-- TIM values (Table 10.9); the newest edge before any edge and the grandmaster while there is none are not stated. -/
def State.timMbxNow (s : State) (t id : Nat) : Option (List Nat) :=
  let ws := timMbx (s.timIn t) s.tim id
  match id with
  | 0x0404 => ws.map (fun w => (if s.tim.ppsEdge.isSome then w.take 2 else freeWords id 0 t 2) ++ w.drop 2)
  | 0x0405 => ws.map (fun w => match s.tim.ptp.master with
    | some _ => w
    | none => freeWords id 0 t 4 ++ (w.drop 4).take 1 ++ freeWords id 5 t 1)
  | _ => ws

def feedCode (f : FeedState) : Nat := match f with
  | .absent => 0
  | .low => 1
  | .valid => 2
  | .high => 3
  | .reversed => 4

/-- The value named by an identifier at a MONO time, six words; none where the identifier is not defined. -/
def State.mbxValue (s : State) (t id : Nat) : Option (List Nat) :=
  match id / 256 with
  | 0 => s.sysMbx id
  | 1 => match id with
    | 0x0101 => some (w64 s.clk.readyMono ++ (if s.clk.dpReady then w64 s.clk.dpReadyMono else freeWords id 2 t 2) ++ [satN 32 s.clk.gapMs, startCode s.clk.start])
    | 0x0102 =>
      let p := s.sup
      some [sw p.feedA.mv, satN 32 p.feedA.ma, sw p.feedB.mv, satN 32 p.feedB.ma,
        feedCode p.feedA.state + 16 * feedCode p.feedB.state + 256 * b2n p.storeCharged + 512 * b2n p.aonCharged + 1024 * b2n p.auxS.valid +
          2048 * b2n p.auxDo.valid + 4096 * b2n s.clk.rideMono.isSome,
        satN 32 p.inputMw]
    | 0x0103 => some [satN 32 s.sup.lossA, satN 32 s.sup.lossB, satN 32 s.sup.rideReturn, satN 32 s.sup.rideOther, satN 32 s.sup.highCnt, satN 32 s.sup.reversedCnt]
    | _ => none
  | 4 => s.timMbxNow t id
  | 9 => if id = 0x0901 then
      let st := s.fld.stations
      let opn := bitmap 64 (fun k => (st.getD k {}).state == 3)
      let gone := bitmap 64 (fun k => [1, 2, 5, 6].contains (st.getD k {}).state)
      some (w64 opn ++ w64 gone ++ [s.fld.cyc % 2 ^ 32, s.readReg t Reg.fldStatus])
    else none
  | 11 => match id with
    | 0x0B01 => some (w64 s.gns.fixNum ++ w64 s.gns.tai ++ [gnsFixStat s.gns 0, gnsFixStat s.gns 1])
    | 0x0B02 => some (w64 s.gns.fixNum ++ [s.gns.heading % 2 ^ 32, s.gns.pitch % 2 ^ 32, s.gns.length % 2 ^ 32, gnsBaseStat s.gns])
    | _ => none
  | 12 => s.fusMbxNow t id
  | 13 => match id with
    | 0x0D01 => some (s.ctl.tauCmd.words ++ s.ctl.satUsed.words)
    | 0x0D02 =>
      let (n, e, psi) := ctlTarget s.ctl
      some (w64 (unsigned 64 n) ++ w64 (unsigned 64 e) ++ [sw psi, 0])
    | 0x0D03 => some ((ctlIntegReduced s.ctl).words ++ (ctlResid s.ctl).words)
    | _ => none
  | 14 => match id with
    | 0x0E01 => some (s.alc.res.bu.words ++ s.alc.res.s.words)
    | 0x0E02 => some (w64 s.alc.res.num ++ w64 s.alc.res.j ++ [s.alc.res.sig, alcResWord s.alc.res])
    | _ => none
  | 15 => if id = 0x0F01 then
      let n := s.reg Reg.srvLoopSel % 64
      match s.srv.loops[n]? with
      | some x =>
        some (w64 (if srvAngle n then unsigned 64 x.ia else 0) ++ w64 (unsigned 64 x.iw) ++ [sw x.ym, srvStat x])
      | none => some (freeWords id 0 t 6)
    else none
  | 16 => if id = 0x1001 then
      some (w64 s.lgc.rel.num ++ (if s.lgc.rel.num = 0 then freeWords id 2 t 2 else w64 s.lgc.rel.tick) ++ [s.lgc.cost, s.readReg t Reg.lgcStatus])
    else none
  | 18 => match id with
    | 0x1201 => some (w64 s.red.intact ++ w64 s.red.announced ++ [satN 32 s.red.agreeRun, s.readReg t Reg.redStatus])
    | 0x1202 =>
      some ((match s.red.lastTest with
        | some v => w64 v
        | none => freeWords id 0 t 2) ++ (if s.red.lastCause = 0 then freeWords id 2 t 2 else w64 s.red.lastTake) ++
        [if s.red.lastCause = 0 then freeWord id 4 t else s.red.lastCause, s.red.testResult])
    | _ => none
  | 19 => if id = 0x1301 then some (w64 (recOpTime s.recd t) ++ w64 s.recd.clearVessel ++ [s.recd.power, recCount s.recd]) else none
  | _ => none

/-- The eight data words of a snapshot: the value and the MONO time of the snapshot. -/
def State.mbxWords (s : State) (t id : Nat) : Option (List Nat) := (s.mbxValue t id).map (fun ws => (ws.take 6).map (fun n => n % 2 ^ 32) ++ w64 t)

end Sys2Proof.Machine
end

