-- ==== Sys2Proof/Machine/CfgTxn.lean ====
section
/-! DEFINITION. Configuration transactions up to their tick (R54 to R60), and the queue of boundary actions. -/

namespace Sys2Proof.Machine

/-- A host action joins those that wait for their tick (R41), in acceptance order; `staged` over `base` for a transaction. -/
def State.queueBnd (s : State) (o : Opn) (rq : Rq) (base : Nat) (staged : Mem) : State :=
  let b : Bnd :=
    { id := o.id, at_ := rq.t, op := o.op, payload := rq.payload, ident := o.ident, hostIdx := o.hostIdx, seq := o.seq, tag := o.tag, force := rq.force,
      auth := o.auth, base := base, staged := staged, pk := none }
  { s with cyc := { s.cyc with bnds := s.cyc.bnds ++ [b] } }

/-- A boundary command without further checks at acceptance. -/
def boundary (rq : Rq) (o : Opn) (s : State) : State × Resp := (s.queueBnd o rq 0 [], .later)

/-- Items their owning chapters close to CFG_WRITE (R235, R354, R366, R383). -/
def itemClosed (item : Nat) : Bool := [0x0601, 0x0605, 0x0C00, 0x0C01].contains item || decide (0x0B10 ≤ item ∧ item < 0x0B40)

def State.txn? (s : State) (h : Nat) : Option Txn := s.cfg.txns.find? (fun x => x.handle == h)

def State.setTxns (s : State) (xs : List Txn) : State := { s with cfg := { s.cfg with txns := xs } }

/-- A request that names a handle restarts its 600 s (R59). -/
def State.touchTxn (s : State) (t h : Nat) : State := s.setTxns (s.cfg.txns.map (fun x => if x.handle = h then { x with lastUse := t } else x))

def State.closeTxn (s : State) (h : Nat) : State := s.setTxns (s.cfg.txns.filter (fun x => x.handle != h))

/-- CFG_OPEN (R54): the lowest free handle. -/
def cfgOpenH (rq : Rq) (_ : Opn) (s : State) : State × Resp :=
  if 4 ≤ s.cfg.txns.length then refuseWith s st.busy else
  match (List.range 5).find? (fun i => (s.txn? (i + 1)).isNone) with
  | none => refuseWith s st.busy
  | some i =>
    let x : Txn := { handle := i + 1, base := s.cfg.hash, staged := [], lastUse := rq.t, committed := false }
    (s.setTxns (s.cfg.txns ++ [x]), .reply st.ok (u16 (i + 1) ++ u16 0 ++ u32 s.cfg.hash))

/-- Staging space of a transaction (R54). -/
def stagingSpace : Nat := 262144

/-- CFG_WRITE (R55). -/
def cfgWriteH (rq : Rq) (_ : Opn) (s0 : State) : State × Resp :=
  let h := getU16 rq.payload 0
  let item := getU16 rq.payload 2
  let off := getU32 rq.payload 4
  let bs := rq.payload.drop 12
  let s := s0.touchTxn rq.t h
  match s.txn? h with
  | none => refuseWith s st.wrongState
  | some x =>
    if x.committed then refuseWith s st.wrongState else
    match itemSize item with
    | none => refuseWith s st.wrongState
    | some size =>
      if itemClosed item then refuseWith s st.wrongState
      else if size < off + bs.length then refuseWith s st.badLength
      else
        let staged := stageBytes x.staged (cfgKey item off) bs
        if stagingSpace < staged.length then refuseWith s st.busy
        else (s.setTxns (s.cfg.txns.map (fun y => if y.handle = h then { y with staged := staged } else y)), .reply st.ok [])

/-- CFG_READ (R49, R55). -/
def cfgReadH (rq : Rq) (_ : Opn) (s0 : State) : State × Resp :=
  let h := getU16 rq.payload 0
  let item := getU16 rq.payload 2
  let off := getU32 rq.payload 4
  let n := getU16 rq.payload 8
  let s := s0.touchTxn rq.t h
  let staged : Option Mem := if h = 0xFFFF then some [] else (s.txn? h).map (fun x => x.staged)
  match staged with
  | none => refuseWith s st.wrongState
  | some m =>
    match itemSize item with
    | none => refuseWith s st.wrongState
    | some size =>
      if size < off + n then refuseWith s st.badLength
      else if item = 0x0021 then (s, .reply st.ok (zeros n))
      else (s, .reply st.ok ((List.range n).map (fun i => stagedByte s.cfg.active m item (off + i))))

/-- Whether a stream is an enabled THR stream in a configuration. -/
def thrStream (cfg : Mem) (n : Nat) : Bool := strEnable cfg n && strType cfg n == 7

/-- Whether a transaction stages an item of the thruster tables. -/
def stagesThr (staged : Mem) : Bool := [0x0A00, 0x0A01, 0x0A02, 0x0A03].any (stagesItem staged)

/-- The state conditions of a staged item (R56, R121). -/
def State.txnStateOk (s : State) (staged : Mem) : Bool := !stagesItem staged 0x0806 || s.ctl.mode == 0

/-- A staged GROUP_SIZE is one of those the module supports (R440). -/
def groupSizeOk (cfg : Mem) (staged : Mem) : Bool :=
  !(staged.any (fun c => c.1 == cfgKey 0x0D00 0)) || [0, 2, 3].contains (cfgU8 (cfgApply cfg staged) 0x0D00 0)

/-- The checks of a commit after its handle, in R56's order: the status of the first that fails, with the finding of R185. -/
def State.commitCheck (s : State) (base : Nat) (staged : Mem) : Option (Nat × Option (Nat × Nat × Nat)) :=
  if base ≠ s.cfg.hash then some (st.cfgConflict, none) else
  let after := cfgApply s.cfg.active staged
  let find : Option (Nat × Nat × Nat) := if stagesThr staged then alcPlausible after (thrStream after) else none
  match find with
  | some f => some (st.range, some f)
  | none =>
    if !groupSizeOk s.cfg.active staged then some (st.wrongState, none)
    else if !s.txnStateOk staged then some (st.wrongState, none) else none

/-- The finding of R185 recorded. -/
def State.noteCfgErr (s : State) (f : Option (Nat × Nat × Nat)) : State := match f with
  | none => s
  | some (code, thr, item) =>
    State.plainFx { s with alc := { s.alc with cfgErrCode := code, cfgErrThr := thr, cfgErrItem := item } } (.flag Reg.alcStatus 6)

/-- CFG_COMMIT (R56). -/
def cfgCommitH (rq : Rq) (o : Opn) (s0 : State) : State × Resp :=
  let h := getU16 rq.payload 0
  let s := s0.touchTxn rq.t h
  match s.txn? h with
  | none => refuseWith s st.wrongState
  | some x =>
    if x.committed then refuseWith s st.wrongState else
    match s.commitCheck x.base x.staged with
    | some (status, f) => refuseWith ((s.closeTxn h).noteCfgErr f) status
    | none =>
      let s1 := s.setTxns (s.cfg.txns.map (fun y => if y.handle = h then { y with committed := true } else y))
      (s1.queueBnd o rq x.base x.staged, .later)

/-- CFG_ABORT (R58). -/
def cfgAbortH (rq : Rq) (_ : Opn) (s : State) : State × Resp :=
  let h := getU16 rq.payload 0
  match s.txn? h with
  | none => refuseWith s st.wrongState
  | some x => if x.committed then refuseWith s st.wrongState else (s.closeTxn h, .reply st.ok [])

/-- CFG_GET_HASH (R57). -/
def cfgHashH (_ : Rq) (_ : Opn) (s : State) : State × Resp := (s, .reply st.ok (u32 s.cfg.hash ++ u32 0 ++ u64 s.cfg.hashEpoch))

/-- Transactions without a request for 600 s (R59). -/
def State.expireTxns (s : State) (t : Nat) : State :=
  let old := fun (x : Txn) => !x.committed && decide (x.lastUse + 600000000000 ≤ t)
  (s.setTxns (s.cfg.txns.filter (fun x => !old x))).apply t ((s.cfg.txns.filter old).map (fun x => .event 10 (u16 x.handle)))

/-- Every open transaction and every host action that waits for its tick is discarded, with the requests that wait (R60). -/
def State.dropTxns (s : State) : State := { s with cfg := { s.cfg with txns := [] } }

/-- CFG_OPEN (R54). -/
def execCfgOpen (rq : Rq) (s : State) : Host.Outcome State Fault Refusal := runAt rq.t (State.serve · 0x20 rq (cfgOpenH rq)) s

/-- CFG_WRITE (R55). -/
def execCfgWrite (rq : Rq) (s : State) : Host.Outcome State Fault Refusal := runAt rq.t (State.serve · 0x21 rq (cfgWriteH rq)) s

/-- CFG_READ (R55). -/
def execCfgRead (rq : Rq) (s : State) : Host.Outcome State Fault Refusal := runAt rq.t (State.serve · 0x22 rq (cfgReadH rq)) s

/-- CFG_COMMIT (R56): its effect follows at the tick (R57). -/
def execCfgCommit (rq : Rq) (s : State) : Host.Outcome State Fault Refusal := runAt rq.t (State.serve · 0x23 rq (cfgCommitH rq)) s

/-- CFG_ABORT (R58). -/
def execCfgAbort (rq : Rq) (s : State) : Host.Outcome State Fault Refusal := runAt rq.t (State.serve · 0x24 rq (cfgAbortH rq)) s

/-- CFG_GET_HASH (R57). -/
def execCfgGetHash (rq : Rq) (s : State) : Host.Outcome State Fault Refusal := runAt rq.t (State.serve · 0x25 rq (cfgHashH rq)) s

/-- CFG_TXN_EXPIRED (R59). -/
def execCfgTxnExpired (t : Nat) (s : State) : Host.Outcome State Fault Refusal := runAt t (fun s => s.expireTxns t) s

end Sys2Proof.Machine
end

