-- ==== Sys2Proof/Machine/Channel.lean ====
section
/-! DEFINITION. NOP, identity and status, event destinations and their packets, ARP and ICMP (chapter 02). -/

namespace Sys2Proof.Machine

/-- GET_IDENTITY's reply. -/
def State.identityBytes (s : State) : List Byte :=
  let f := s.fw.running
  u16 0x5753 ++ u16 0x0480 ++ u8 0x42 ++ u8 0 ++ u8 f.major ++ u8 f.minor ++ u16 f.patch ++ u8 (persCode s.pers) ++
    u8 (if s.pers = .pk20 then profCode s.profile else 0) ++ u64 Config.serial

/-- The summary of GET_STATUS. -/
def State.summaryBytes (s : State) : List Byte :=
  u64 s.cyc.number ++ u32 s.cfg.hash ++ u8 (roleCode s.red.role) ++ u8 s.ctl.mode ++ u16 0

/-- The channel counters in the order of Table 2.13. -/
def ChanCnt.bytes (c : ChanCnt) : List Byte :=
  [c.foreignDg, c.badVersion, c.badLength, c.badCrc, c.unlisted, c.duplicates, c.stale, c.ipDiscards, c.notInPersonality, c.authFailures, c.earlyReads,
   c.repeatReads, c.eventRetx, c.busySources, c.badOpcode, c.tagInUse, c.noTag, c.refused].flatMap (fun n => u32 (satN 32 n))

def nopH (_ : Rq) (_ : Opn) (s : State) : State × Resp := (s, .reply st.ok [])

def identityH (_ : Rq) (_ : Opn) (s : State) : State × Resp := (s, .reply st.ok s.identityBytes)

/-- GET_STATUS (R529). -/
def statusH (rq : Rq) (_ : Opn) (s : State) : State × Resp :=
  match getU8 rq.payload 0 with
  | 0 => (s, .reply st.ok s.summaryBytes)
  | 1 => (s, .reply st.ok s.chan.cnt.bytes)
  | _ => refuseWith s st.wrongState

/-- SET_EVENT_MASK (R51): a new destination, or a known one's mask and ports replaced. -/
def eventMaskH (rq : Rq) (o : Opn) (s : State) : State × Resp :=
  let mask := leNat (slice rq.payload 0 16)
  let ports := match s.opn? o.id with
    | some x => x.srcs
    | none => [rq.from_]
  let fresh : Dest :=
    { ident := o.ident, hostIdx := o.hostIdx, mask := mask, setSeq := rq.seq, ports := ports, recs := [], pktSeq := 0, rounds := 0, nextRound := none }
  let known := s.evt.dests.any (fun d => d.ident == o.ident)
  let dests := if known then s.evt.dests.map (fun d => if d.ident = o.ident then { d with mask := mask, setSeq := rq.seq, ports := ports } else d)
    else s.evt.dests ++ [fresh]
  ({ s with evt := { s.evt with dests := dests } }, .reply st.ok [])

/-- What an acknowledgement of event `n` means outside the destination: alerts (R303), first violations (R339), first failures (Table 12.13), the first overrun (Table 1.8). -/
def State.acknowledged (s : State) (n : Nat) : State :=
  let s1 : State := if bits s.evActive n 1 = 1 then { s with ser := { s.ser with acked := n :: s.ser.acked.filter (fun m => m != n) } } else s
  if n = 80 then
    { s1 with ser := { s1.ser with ports := s1.ser.ports.map (fun p => { p with errRaised := false }), p450 := { s1.ser.p450 with errRaised := false } } }
  else if n = 74 then { s1 with fld := { s1.fld with seen := [] } }
  else if n = 14 then { s1 with evt := { s1.evt with colOvr := false } }
  else s1

/-- ACK_EVENT (R52): occurrences of the acknowledgement's own step make a new record. -/
def ackEventH (rq : Rq) (o : Opn) (s : State) : State × Resp :=
  let ev := getU8 rq.payload 0
  let sq := getU32 rq.payload 4
  let ok := (s, Resp.reply st.ok [])
  match s.evt.dests.findIdx? (fun d => d.ident == o.ident) with
  | none => ok
  | some i =>
    match s.evt.dests[i]? with
    | none => ok
    | some d =>
      match d.recs.find? (fun r => r.ev == ev) with
      | none => ok
      | some r =>
        if sq < r.seq ∨ r.born = rq.t / 1000 then ok else
        let recs := d.recs.filter (fun x => x.ev != ev)
        let d1 := { d with recs := recs, rounds := 0, nextRound := if recs.isEmpty then none else d.nextRound }
        let s1 := State.acknowledged { s with evt := { s.evt with dests := s.evt.dests.set i d1 } } ev
        let s2 := if r.step = rq.t / 1000 ∧ r.inStep ≠ 0 then s1.newRecord i rq.t ev r.inStep r.stepVessel r.stepEpoch r.stepDetail else s1
        (s2, .reply st.ok [])

/-- Records in packets of at most 29. -/
def recordRuns : Nat → List EvRec → List (List EvRec)
  | 0, _ => []
  | k + 1, rs => if rs.isEmpty then [] else rs.take 29 :: recordRuns k (rs.drop 29)

/-- A round of a destination (R53). -/
def State.retxRound (t : Nat) (s : State) (i : Nat) : State :=
  match s.evt.dests[i]? with
  | none => s
  | some d =>
    if d.recs.isEmpty || decide (10 ≤ d.rounds) || !(d.nextRound.any (fun n => decide (n ≤ t))) then s else
    let d1 := { d with rounds := d.rounds + 1, nextRound := d.nextRound.map (fun n => n + 1000000000) }
    let s1 : State := { s with evt := { s.evt with dests := s.evt.dests.set i d1 } }
    (recordRuns d.recs.length d.recs).foldl (fun (a : State) run =>
      match a.evt.dests[i]? with
      | none => a
      | some e =>
        let e1 := { e with pktSeq := (e.pktSeq + 1) % 2 ^ 32 }
        State.sendEvents { a with evt := { a.evt with dests := a.evt.dests.set i e1 } } e1 true run) s1

/-- The IPv4 address of a destination (Table 2.9): that of its first port. -/
def Dest.ip (d : Dest) : Nat := match d.ports.head? with
  | some p => p.ip
  | none => 0

/-- Destinations whose eleventh round falls due are removed (R53). Event 11 gives the IPv4 address with its first octet first (DESIGN CHOICE, log 123). -/
def State.destsLost (s : State) (t : Nat) : State :=
  let gone := fun (d : Dest) => decide (10 ≤ d.rounds) && !d.recs.isEmpty && d.nextRound.any (fun n => decide (n ≤ t))
  let lost := s.evt.dests.filter gone
  State.apply { s with evt := { s.evt with dests := s.evt.dests.filter (fun d => !gone d) } } t (lost.map (fun d => .event 11 (beBytes 4 d.ip)))

/-- NOP (R45). -/
def execNop (rq : Rq) (s : State) : Host.Outcome State Fault Refusal := runAt rq.t (State.serve · 0x00 rq (nopH rq)) s

/-- GET_IDENTITY (R45). -/
def execGetIdentity (rq : Rq) (s : State) : Host.Outcome State Fault Refusal := runAt rq.t (State.serve · 0x01 rq (identityH rq)) s

/-- GET_STATUS (R529). -/
def execGetStatus (rq : Rq) (s : State) : Host.Outcome State Fault Refusal := runAt rq.t (State.serve · 0x02 rq (statusH rq)) s

/-- SET_EVENT_MASK (R51). -/
def execSetEventMask (rq : Rq) (s : State) : Host.Outcome State Fault Refusal := runAt rq.t (State.serve · 0x04 rq (eventMaskH rq)) s

/-- ACK_EVENT (R52). -/
def execAckEvent (rq : Rq) (s : State) : Host.Outcome State Fault Refusal := runAt rq.t (State.serve · 0x05 rq (ackEventH rq)) s

/-- EVENT_RETX_ROUND (R53): the rounds that are due. -/
def execEventRetxRound (t : Nat) (s : State) : Host.Outcome State Fault Refusal :=
  runAt t (fun s => (List.range s.evt.dests.length).foldl (State.retxRound t) s) s

/-- EVT_DEST_LOST (R53). -/
def execEvtDestLost (t : Nat) (s : State) : Host.Outcome State Fault Refusal := runAt t (fun s => s.destsLost t) s

/-- HOST_PATH_LOST (R527). -/
def execHostPathLost (t : Nat) (s : State) : Host.Outcome State Fault Refusal := runAt t (fun s => s.pathScan t) s

/-- ARP_REQUEST (R30): answered where it asks for the port's address. -/
def execArpRequest (t : Nat) (portB : Bool) (mac ip target : Nat) (s : State) : Host.Outcome State Fault Refusal :=
  runAt t (fun s => if s.chan.ready && s.ownIp portB == target then s.emit (.arp portB mac ip) else s) s

/-- ICMP_ECHO (R30). -/
def execIcmpEcho (t : Nat) (portB : Bool) (mac ip : Nat) (data : List Byte) (s : State) : Host.Outcome State Fault Refusal :=
  runAt t (fun s => if s.chan.ready then s.emit (.echo portB mac ip data) else s) s

/-- IP_DISCARD (R30): a fragment, a datagram with options or a tagged frame, whichever it is, is counted. -/
def execIpDiscard (t : Nat) (_portB : Bool) (_why : DiscardWhy) (s : State) : Host.Outcome State Fault Refusal :=
  runAt t (fun s => if s.chan.ready then s.cnt (fun c => { c with ipDiscards := satInc c.ipDiscards }) else s) s

end Sys2Proof.Machine
end

