-- ==== Sys2Proof/Machine/Image.lean ====
section
/-! DEFINITION. What a cycle reads: phase offsets, the process image, availability of thrusters and sections, the inputs of the control law and of the allocation problem (chapters 01, 06, 07, 08). -/

namespace Sys2Proof.Machine

/-! Periods and offsets (R9 to R14, Table 1.2). -/

/-- P in ms: 10 in PK-20 mode (R19), else item 0x0001. Another value than the four is an unchecked host error: some one of the four (log 53). -/
def cyclePms (cfg : Mem) (pers : Pers) : Nat :=
  if pers = .pk20 then 10 else
  let p := cfgU16 cfg 0x0001 0
  if [5, 10, 20, 50].contains p then p else [5, 10, 20, 50].getD (Config.freeNat 53 [(p : Int)] % 4) 10

/-- The offset of `k` hundredths of the period, in ns. -/
def phaseOfs (pms k : Nat) : Nat := pms * k * 10000

/-- The SL0 deadline's offset (R12). A fraction outside its range is an unchecked host error: some value of the range (log 53). -/
def sl0Deadline (cfg : Mem) (pms : Nat) : Nat :=
  let f := cfgU16 cfg 0x0002 0
  let g := if 350 ≤ f ∧ f ≤ 700 then f else 350 + Config.freeNat 53 [(f : Int), 1] % 351
  pms * g * 1000

/-- Iterations of SL0 and of a lane: 720 NUM clocks of 800 MHz are 900 ns (R13). -/
def sl0Budget (cfg : Mem) (pms : Nat) : Nat := (sl0Deadline cfg pms - phaseOfs pms 30) / 900
def laneIters (pms : Nat) : Nat := (phaseOfs pms 80 - phaseOfs pms 30) / 900

/-! The millisecond tick (R10). -/

/-- VESSEL milliseconds of an instant, rounded (R10). -/
def roundMs (v : Int) : Nat := ((v + 500000) / 1000000).toNat

/-- How far an instant of VESSEL lies from a whole millisecond, ns. -/
def offMs (v : Int) : Nat :=
  let r := (v % 1000000).toNat
  if r ≤ 500000 then r else 1000000 - r

/-- The millisecond ticks from the newest one to a MONO time; the first tick of a start counts as one. -/
def State.msAhead (s : State) (t : Nat) : Nat :=
  if s.cyc.ms = 0 then 1 else if t ≤ s.cyc.ms then 0 else (t - s.cyc.ms + 500000) / 1000000

/-- Whether a millisecond tick may fall at a MONO time: intervals of 1 ms since the newest tick, each at most 1 µs longer or shorter, steered toward a whole
millisecond of VESSEL and never away from it (R10). The first tick of a start falls where it falls; ticks that no command reported count as passed (log 111). -/
def State.msDue (s : State) (t : Nat) : Bool :=
  let k := s.msAhead t
  let even := s.cyc.ms + k * 1000000
  s.cyc.ms == 0 ||
    (decide (1 ≤ k) && decide (((t : Int) - (even : Nat)).natAbs ≤ 1000 * k) && decide (offMs (s.vessel t) ≤ offMs (s.vessel even)))

/-! The process image (R18, R331). -/

/-- An image whose millisecond has ended: what its Chain cycle left. -/
def State.imgClose (s : State) (t : Nat) (i : ProcImg) : ProcImg :=
  { i with
    stn := s.fld.stations.map (·.state)
    stnCyc := s.fld.stations.map (·.lastCyc)
    inp := (colSettle t s.fld.col).out }

/-- The image a millisecond tick opens: analogue values of windows that ended before it, and what the 1 kHz units hold after it. -/
def State.imgOpen (s : State) (t : Nat) : ProcImg :=
  { tick := s.agreed t
    di := diFiltered s.aio
    ai := (List.range 40).map (fun c => (aioBefore s.aio t c).w)
    failed := s.srv.loops.map (fun x => x.state == 3)
    inhThr := (consMasks s.saf 3).thr
    so := safSoView s.saf
    fb := s.srv.loops.map (·.fb)
    fns := s.saf.fns.map (·.state) }

/-- The image a cycle tick takes: that of the last millisecond tick completed before it, with the sections as they stand. -/
def State.takeImage (s : State) (t : Nat) : ProcImg :=
  let i := if s.cyc.ms = t then s.cyc.whole else s.imgClose t s.cyc.next
  { i with
    secs := s.alc.secs.map (fun x =>
      { lostDi := x.lostDi, lostChain := x.lostChain, detect := x.detect, back := x.back, inService := x.inService, clear := x.clear, lossSrc := x.lossSrc }) }

/-! Held values of thruster and power streams. -/

/-- t_v of the newest solution. -/
def State.solTv (s : State) : Int := match s.fus.sol with
  | some x => x.tv
  | none => s.cyc.tickV

/-- A stream's non-void held value at the solution (R128). -/
def State.heldNow (s : State) (n : Nat) : Option HeldVal := if n < 256 then heldAt s.cfg.active (fusNow s.fus) s.solTv n else none

/-- α_t and T_t of a thruster from its FEEDBACK stream (R180). -/
def State.thrFeed (s : State) (t : Nat) : Option ThrIn := (s.heldNow (thrFeedback s.cfg.active t)).map (fun h =>
  { t := t, al := bamOf (h.v.getD 0 0), tt := signed 32 (unsigned 32 (h.v.getD 2 0)) })

/-- The azimuth at feedback of every thruster, void or not; of one that never had feedback it is not stated (log 55). -/
def State.feedAngles (s : State) : List Nat := thrNums.map (fun t =>
  if !thrConfigured s.cfg.active t then 0 else
  match ((fusNow s.fus).streams.getD (thrFeedback s.cfg.active t) {}).held with
  | some h => bamOf (h.v.getD 0 0)
  | none => Config.freeNat 55 [(t : Int)] % 2 ^ 32)

/-- The available power of a section's PWR stream `k` (R207): V2 of its held value, kW with 16 fraction bits; 0xFF names none (Table 8.3). -/
def State.pwrOf (s : State) (sec k : Nat) : Option Int :=
  let n := cfgU8 s.cfg.active 0x0A11 (16 * sec + k)
  if n = 0xFF then none else (s.heldNow n).map (fun h => signed 32 (unsigned 32 (h.v.getD 2 0)))

/-! Thrusters (R180). -/

/-- Whether a loop is stopped (R230). -/
def State.srvStop (s : State) (n : Nat) : Bool :=
  let k := srvThruster n - 1
  s.ctl.mode == 0 || bits s.alc.disabled k 1 == 1 || bits (consMasks s.saf 3).thr k 1 == 1 || !s.active

def thrLoops (t : Nat) : List Nat := [2 * (t - 1), 2 * (t - 1) + 1]

/-- The Chain stations a loop uses. -/
def loopStations (cfg : Mem) (n : Nat) : List Nat :=
  if srvMode cfg n = 0 then [] else
  (if srvU8 cfg n 2 = 0 then [srvU8 cfg n 3] else []) ++ (if srvU8 cfg n 6 = 0 then [srvU8 cfg n 7] else [])

/-- The Chain stations of a thruster, those of its loops. -/
def thrStations (cfg : Mem) (t : Nat) : List Nat := ((thrLoops t).flatMap (loopStations cfg)).filter (fun x => decide (1 ≤ x ∧ x ≤ 64))

/-- ALC_THR_STAT [6:1] of a thruster at a tick. -/
def State.whyOf (s : State) (img : ProcImg) (t : Nat) : Nat :=
  let cfg := s.cfg.active
  if !thrConfigured cfg t then 0 else
  let sec := thrBus cfg t
  b2n (bits s.alc.disabled (t - 1) 1 == 1) +
  2 * b2n ((thrLoops t).any (fun n => srvMode cfg n != 0 && img.failed.getD n false)) +
  4 * b2n ((thrStations cfg t).any (fun x => stnWithdrawn { state := img.stn.getD (x - 1) 0 })) +
  8 * b2n (decide (sec < 8) && !(img.secs.getD sec {}).inService) +
  16 * b2n (bits img.inhThr (t - 1) 1 == 1) +
  32 * b2n (s.thrFeed t).isNone

/-- ALC_THR_STAT [15:0] of a thruster: [6:0] as the cycle has them, the rest of the newest result (Table 7.17). -/
def State.thrStatLow (s : State) (avail why k : Nat) : Nat := avail + 2 * why + (s.alc.res.thr.getD k {}).stat % 65536 / 128 * 128

/-- The thrusters' availability at a cycle tick: the words, the bitmap, ALC_THRUSTER for every change. -/
def State.availability (s : State) (img : ProcImg) : List Nat × Nat × List Fx :=
  let why := thrNums.map (s.whyOf img)
  let av := bitmap 24 (fun k => thrConfigured s.cfg.active (k + 1) && why.getD k 0 == 0)
  (why, av, (List.range 24).flatMap (fun k =>
    let a := bits av k 1
    if a = bits s.alc.avail k 1 then [] else
    [Fx.event 59 ([byteOf (k + 1), byteOf a] ++ u16 (s.thrStatLow a (why.getD k 0) k))]))

/-- Budgets of the sections at a cycle tick (R207). -/
def State.budgets (s : State) : State :=
  let r := s.alc.secs.zipIdx.map (fun x => secBudget s.cfg.active x.2 (s.pwrOf x.2 0) (s.pwrOf x.2 1) x.1)
  let s1 : State := { s with alc := { s.alc with secs := r.map (·.1) } }
  s1.apply s.cyc.tick (r.flatMap (·.2))

/-- Whether a section is in the cycle's problems: in service in the image and not lost before the SL0 start offset (R211). -/
def State.secIn (s : State) (k : Nat) : Bool :=
  (s.cyc.img.secs.getD k {}).inService &&
    (match (s.alc.secs.getD k {}).detect with
     | some m => decide (phaseOfs s.cyc.pms 30 ≤ m * 1000000)
     | none => true)

/-- The problem of a cycle at the entry stage, `pms` its period. -/
def State.alcProblem (s : State) (pms : Nat) : AlcProb :=
  let cfg := s.cfg.active
  let ins := thrNums.filter (fun t => bits s.alc.avail (t - 1) 1 == 1)
  { thr := ins.filterMap s.thrFeed
    inService := bitmap 8 s.secIn
    budgets := s.alc.secs.map (·.budget)
    tau := s.ctl.tauCmd
    pms := pms
    budget := sl0Budget cfg s.cyc.pms
    laneBudget := laneIters s.cyc.pms }

/-! The control law's inputs. -/

/-- The two values of a voted source; none where the class has none (0xFF, which no stream of another class stands for). -/
def State.votedPair (s : State) (cls : Nat) : Option (Int × Int) := match s.fus.sol with
  | some x =>
    let n := x.voted.getD cls 0xFF
    if strType s.cfg.active n = cls + 1 then (s.heldNow n).map (fun h => (h.v.getD 0 0, h.v.getD 1 0)) else none
  | none => none

/-- What the law reads in a cycle (R153, R200). -/
def State.lawIn (s : State) (pms : Nat) : LawIn :=
  let base : LawIn :=
    { tick := s.agreedTick, pms := pms, n := 0, e := 0, psi := 0, u := 0, v := 0, r := 0, init := true, drPos := false, drHdg := false,
      tauSat := s.alc.tauSat, released := s.cyc.before, wind := s.votedPair 3, draught := s.votedPair 5 }
  match s.fus.sol with
  | none => base
  | some x =>
    { base with
      n := x.nTick
      e := x.eTick
      psi := x.psiTick
      u := x.x.getD 3 0
      v := x.x.getD 4 0
      r := x.x.getD 5 0
      init := bits x.flags 1 1 == 1
      drPos := bits x.flags 2 1 == 1
      drHdg := bits x.flags 3 1 == 1 }

end Sys2Proof.Machine
end

