-- ==== Sys2Proof/Machine/PkNum.lean ====
section
/-! DEFINITION. The STRICT numerics of the PK-20 personality: input stage, law, allocation, command codes (R460 to R463). -/

namespace Sys2Proof.Machine

/-! CMP items (Table 19.10); a field outside its encoding acts as a free one within it (R477, log 126). -/

def cmpStation (cfg : Mem) : Nat := cfgU8 cfg 0x0F00 0
def cmpPath (cfg : Mem) : Nat := cfgWithin 0x0F00 1 0 2 (cfgU8 cfg 0x0F00 1)
def cmpPort (cfg : Mem) : Nat := cfgWithin 0x0F00 2 1 8 (cfgU8 cfg 0x0F00 2)
def cmpAlarmDo (cfg : Mem) : Nat := cfgWithin 0x0F00 3 0 24 (cfgU8 cfg 0x0F00 3)
def cmpExcPos (cfg : Mem) : Nat := cfgU32 cfg 0x0F00 4
def cmpExcHdg (cfg : Mem) : Nat := cfgU32 cfg 0x0F00 8
/-- The stream of slot `k`, 0 to 11; 0xFF none. -/
def cmpRef (cfg : Mem) (k : Nat) : Nat := cfgU8 cfg 0x0F00 (12 + k)
/-- AO_THRUST (`k` = 0) and AO_AZ (`k` = 1) of PK-20 thruster `n`. -/
def cmpAo (cfg : Mem) (n k : Nat) : Nat := cfgWithin 0x0F01 (4 * (n - 1) + k) 0 16 (cfgU8 cfg 0x0F01 (4 * (n - 1) + k))
/-- kp, kd, ki of an axis. -/
def pkGain (cfg : Mem) (d k : Nat) : Int := (cfgU32 cfg 0x0F02 (12 * d + 4 * k) : Nat)
def pkIntLim (cfg : Mem) : Int := (cfgU16 cfg 0x0F02 36 : Nat)
/-- α (`k` = 0) and β (`k` = 1) of N, E, ψ. -/
def pkAb (cfg : Mem) (c k : Nat) : Int := (cfgU16 cfg 0x0F02 (40 + 4 * c + 2 * k) : Nat)

/-! The input stage (R460). -/

/-- The usable slots of a stream type: (held value, weight 1/σ²) for a component. -/
def State.pkSlots (s : State) (typ comp : Nat) : List (Int × Rat) :=
  let cfg := s.cfg.active
  ((List.range 12).filter (fun k => bits s.pk.slots k 1 == 1 && cmpRef cfg k != 0xFF && strType cfg (cmpRef cfg k) == typ &&
    ((fusNow s.fus).streams.getD (cmpRef cfg k) {}).state == .active)).filterMap (fun k =>
      (s.heldNow (cmpRef cfg k)).map (fun h => (h.v.getD comp 0, voteWeight (cmpRef cfg k) comp (h.sg.getD comp (h.sg.getD 0 0)))))

/-- The weighted mean, rounded to nearest; none where nothing is usable. -/
def weightedMean (xs : List (Int × Rat)) : Option Int := match xs with
  | [] => none
  | _ =>
    let w := xs.foldl (fun (a : Rat) x => a + x.2) 0
    let n := xs.foldl (fun (a : Rat) x => a + x.1 * x.2) 0
    some (ratToFix (n / w) 0)

/-- z of the heading: differences from the first slot used. -/
def headingMean (xs : List (Int × Rat)) : Option Nat := match xs with
  | [] => none
  | (h0, _) :: _ => (weightedMean (xs.map (fun x => (bamDiff x.1 h0, x.2)))).map (fun d => bamOf (h0 + d))

/-- The α-β filter of a position coordinate: x s32.32, v s8.24, T = 0.2 s. -/
def abStep (cfg : Mem) (c : Nat) (x v : Int) (z : Option Int) : Int × Int :=
  let xp := satS 64 (x + divNearAway (v * 256) 5)
  match z with
  | none => (xp, v)
  | some z =>
    let r := z - xp
    (satS 64 (xp + asrRound (pkAb cfg c 0 * r) 16), satS 32 (v + asrRound (5 * pkAb cfg c 1 * r) 24))

/-- The filter of the heading: x bam32, v s4.28 rad/s. -/
def abHeading (cfg : Mem) (x : Nat) (v : Int) (z : Option Nat) : Nat × Int :=
  let xp := bamOf (x + radToBam (divNearAway v 5))
  match z with
  | none => (xp, v)
  | some z =>
    let r := bamDiff z xp
    (bamOf (xp + asrRound (pkAb cfg 2 0 * r) 16), satS 32 (v + asrRound (5 * pkAb cfg 2 1 * bamToRad r 28) 16))

/-- The input take of internal cycle 0: seeded from the first usable z. -/
def State.pkInput (s : State) : State :=
  let cfg := s.cfg.active
  let p := s.pk
  let zN := weightedMean (s.pkSlots 1 0)
  let zE := weightedMean (s.pkSlots 1 1)
  let zH := headingMean (s.pkSlots 2 0)
  let p1 := match p.seedPos, zN, zE with
    | false, some n, some e => { p with xN := n, xE := e, vN := 0, vE := 0, seedPos := true }
    | false, _, _ => p
    | true, _, _ =>
      let a := abStep cfg 0 p.xN p.vN zN
      let b := abStep cfg 1 p.xE p.vE zE
      { p with xN := a.1, vN := a.2, xE := b.1, vE := b.2 }
  let p2 := match p.seedHdg, zH with
    | false, some h => { p1 with xPsi := h, vPsi := 0, seedHdg := true }
    | false, none => p1
    | true, z => let a := abHeading cfg p.xPsi p.vPsi z; { p1 with xPsi := a.1, vPsi := a.2 }
  { s with pk := { p2 with noPos := zN.isNone, noHdg := zH.isNone } }

/-! The law (R461). -/

/-- What the PK-20 law reads: the estimates in place of the fused solution. -/
def State.pkLawIn (s : State) : LawIn :=
  let p := s.pk
  let i := s.lawIn 200
  let co := cosBam p.xPsi
  let si := sinBam p.xPsi
  { i with
    n := p.xN
    e := p.xE
    psi := p.xPsi
    u := satS 32 (asrRound (co * p.vN + si * p.vE) 30)
    v := satS 32 (asrRound (co * p.vE - si * p.vN) 30)
    r := p.vPsi }

/-- i and τ of an automatic axis; `i0` in τ's format. -/
def pkAxis (cfg : Mem) (d : Nat) (i0 e ed : Int) : Int × Int :=
  let lim := toFrac 16 (tauFr d) (pkIntLim cfg * ctlRated cfg d)
  let sh := if d = 2 then 24 else 16
  let i1 := clampI (-lim) lim (i0 + divNearAway (pkGain cfg d 2 * e) (5 * 2 ^ sh))
  let b := cmdBound cfg d
  (i1, clampI (-b) b (satS 32 (asrRound (pkGain cfg d 0 * e) sh) + satS 32 (asrRound (pkGain cfg d 1 * ed) 24) + i1))

/-- The law of internal cycle 0; integrators stand in the control state as multiples of 2^32. -/
def pkLaw (cfg : Mem) (i : LawIn) (c0 : Ctl) : Ctl × List Fx :=
  let (c1, fx) := joyTimeoutStep cfg i.tick c0
  let e := ctlErr i c1.n c1.e c1.psi
  let ed := ctlErrDot i {}
  let go := fun (d : Nat) => match axisKind c1.mode d with
    | .auto => pkAxis cfg d (asrRound (c1.integ.get d) 32) (e.get d) (ed.get d)
    | .manual => (0, joyForce cfg c1 i.tick d 0)
    | .off => (0, 0)
  let tau := V3.of (fun d => (go d).2)
  ({ c1 with integ := V3.of (fun d => (go d).1 * 2 ^ 32), tauLaw := tau, tauCmd := tau, satUsed := i.tauSat, err := e, moved := false }, fx)

/-- DP_SET_MODE in STRICT: R164 to R166 do not apply. -/
def pkSetMode (i : LawIn) (c : Ctl) (mode : Nat) : Ctl × Bool × V3 × List Fx :=
  if 3 < mode then (c, false, {}, [])
  else if mode = c.mode then (c, true, {}, [])
  else if (mode = 2 ∨ mode = 3) ∧ i.init then (c, false, {}, [])
  else
    let c1 := ctlEnter i c mode
    let keep := fun (d : Nat) => decide (axisKind c.mode d = .auto) && decide (axisKind mode d = .auto)
    (ctlManual i.tick { c1 with integ := V3.of (fun d => if keep d then c.integ.get d else 0), res := [{}, {}, {}] }, true, {},
     [modeEvent c.mode mode c.gainSet 0])

/-! The allocation (R462). -/

/-- A of R462 as s8.24: entry (a, b) over the columns with their weights. -/
def pkEntry (cols : List ((Int × Int × Int) × Nat)) (a b : Nat) : Int :=
  let comp := fun (c : Int × Int × Int) (k : Nat) => if k = 0 then c.1 else if k = 1 then c.2.1 else c.2.2
  let q := cols.foldl (fun (r : Rat) c => if c.2 = 0 then r else r + ((comp c.1 a * comp c.1 b * 2 ^ 24 : Int) : Rat) / ((c.2 * 2 ^ 60 : Nat) : Rat)) 0
  satS 32 (ratToFix q 24)

/-- y = A⁻¹·τ through the adjugate, s16.16; none where the determinant is 0. -/
def pkSolve (m : Nat → Nat → Int) (tau : V3) : Option V3 :=
  let cof := fun (i j : Nat) => satS 64 (m ((i + 1) % 3) ((j + 1) % 3) * m ((i + 2) % 3) ((j + 2) % 3) - m ((i + 1) % 3) ((j + 2) % 3) * m ((i + 2) % 3) ((j + 1) % 3))
  let det := satS 64 (asrRound (m 0 0 * cof 0 0 + m 0 1 * cof 0 1 + m 0 2 * cof 0 2) 24)
  if det = 0 then none else
  some (V3.of (fun j =>
    let n := cof 0 j * tau.x + cof 1 j * tau.y + cof 2 j * tau.n
    satS 32 (divNearAway (if det < 0 then -n else n) (det.natAbs * 256))))

/-- A thruster's force before clipping, s16.16 in internal units, to s8.24. -/
def pkForce (cfg : Mem) (y : V3) (t : Nat) : ThrForce :=
  let w := thrW cfg t
  let u := fun (c : Int × Int × Int) => if w = 0 then 0 else satS 32 (divNearAway (c.1 * y.x + c.2.1 * y.y + c.2.2 * y.n) (w * 64)) * 256
  match thrCols cfg t with
  | [a, b] => ⟨t, u a, u b⟩
  | [a] => ⟨t, u a, 0⟩
  | _ => ⟨t, 0, 0⟩

/-- The clip of a thruster, and whether it was clipped. -/
def pkClip (cfg : Mem) (f : ThrForce) : ThrForce × Bool :=
  let hi := toFU (thrTmaxPos cfg f.t)
  if thrAzimuth cfg f.t then
    let m2 := f.x * f.x + f.y * f.y
    if hi * hi < m2 then
      let m := isqrt m2.toNat
      (⟨f.t, divNearAway (f.x * hi) m, divNearAway (f.y * hi) m⟩, true)
    else (f, false)
  else
    let x := clampI (-(toFU (thrTmaxNeg cfg f.t))) hi f.x
    (⟨f.t, x, 0⟩, x != f.x)

/-- STRICT's result over the available thrusters of 1 to 12 (reason 7), `old` kept where the determinant is 0; whether a thruster was clipped, whether it was singular. -/
def pkAlloc (cfg : Mem) (num : Nat) (thr : List ThrIn) (tau : V3) (feed stats : List Nat) (old : AlcRes) : AlcRes × Bool × Bool :=
  let ts := thr.map (·.t)
  let cols := (ts.flatMap (fun t => (thrCols cfg t).map (fun c => (c, thrW cfg t))))
  match pkSolve (pkEntry cols) (tauToU tau) with
  | none => ({ old with num := num, reason := 7 }, false, true)
  | some y =>
    let cl := ts.map (fun t => pkClip cfg (pkForce cfg y t))
    let forces := cl.map (·.1)
    let bu := bTimes (bCols cfg ts) (flatForces cfg ts forces)
    let tu := tauToU tau
    let res := thrNums.map (fun t =>
      match thr.find? (fun i => i.t == t), forces.find? (fun f => f.t == t) with
      | some i, some f => let sp := thrSetpoint cfg i f; ({ stat := 1, az := sp.2, thrust := sp.1, tup := 0 } : ThrRes)
      | _, _ => restThr feed stats t)
    let sv := V3.of (fun d => bu.get d - tu.get d)
    ({ num := num, reason := 7, tau := tau, bu := tauOfU bu, s := tauOfU sv, norm := satN 32 (isqrt ((sv.x * sv.x + sv.y * sv.y + sv.n * sv.n).toNat)),
       thr := res, u := forces }, cl.any (·.2), false)

/-! Codes (R463). -/

/-- c_T and c_A of a thruster's set-points. -/
def pkCode (cfg : Mem) (t : Nat) (thrust : Int) (az : Nat) : Nat × Nat :=
  let sp := srvSpeedSet cfg (2 * (t - 1) + 1) thrust
  ((clampI 1 4095 (2048 + divNearAway (2047 * sp) 6553600)).toNat, ((az + 2 ^ 19) / 2 ^ 20) % 4096)

/-- The 24 codes of thrusters 1 to 12. -/
def pkCodes (cfg : Mem) (thr : List ThrRes) : List Nat :=
  (List.range 12).flatMap (fun k => let r := thr.getD k {}; let c := pkCode cfg (k + 1) r.thrust r.az; [c.1, c.2])

/-- The analogue outputs the codes go to: (output index, 16-bit code). -/
def pkOutputs (cfg : Mem) (codes : List Nat) : List (Nat × Nat) :=
  (List.range 12).flatMap (fun k => (List.range 2).flatMap (fun j =>
    let o := cmpAo cfg (k + 1) j
    if o = 0 then [] else [(o - 1, 16 * codes.getD (2 * k + j) 0)]))

end Sys2Proof.Machine
end

