-- ==== Sys2Proof/Machine/Actions.lean ====
section
/-! DEFINITION. Host actions at their tick (R41, R148): what each boundary command and internal transaction changes, and what it is answered. -/

namespace Sys2Proof.Machine

/-- The answer of a host action at its tick (R42). -/
def State.settle (s : State) (b : Bnd) (status : Nat) (payload : List Byte) : State :=
  { s with cyc := { s.cyc with answers := s.cyc.answers ++ [⟨b, status, payload⟩] } }

/-! A change of the active configuration (R57). -/

/-- The failure groups whose record changed start anew (R222). -/
def State.regroup (s : State) (old new : Mem) : State :=
  let r := s.alc.groups.zipIdx.map (fun x =>
    if cfgBytes old 0x0A10 (8 * x.2) 8 = cfgBytes new 0x0A10 (8 * x.2) 8 then (x.1, ([] : List Fx))
    else let q := cqRest x.2 x.1.state x.1; ({ q.1 with prev := none }, q.2))
  let s1 : State := { s with alc := { s.alc with groups := r.map (·.1) } }
  s1.apply s.cyc.tick (r.flatMap (·.2))

/-- The controllers whose record changed join anew (R307). -/
def State.rejoin (s : State) (old new : Mem) : State :=
  let go := fun (c : Nat) (k : Can) => if cfgBytes old 0x0300 (32 * c) 32 = cfgBytes new 0x0300 (32 * c) 32 then (k, ([] : List Fx)) else canReconfig new c k
  let (a, fa) := go 0 s.can0
  let (b, fb) := go 1 s.can1
  let s1 : State := { s with can0 := a, can1 := b }
  s1.apply s.cyc.tick (fa ++ fb)

/-- The new configuration stands, with what its units do at once; the hash's epoch moves where the hash does (R57). -/
def State.setConfig (s : State) (new : Mem) : State :=
  let old := s.cfg.active
  let t := s.cyc.tick
  let hash := crc32c (Config.image new)
  let s1 : State := { s with cfg := { s.cfg with active := new, hash := hash, hashEpoch := if hash = s.cfg.hash then s.cfg.hashEpoch else s.cyc.number } }
  let (fus, f1) := fusConfig old new s1.fus
  let (aio, f2) := aioApply old new s1.aio
  let (fld, f3) := fldApply old new s1.fld
  let moved := ptpRole old != ptpRole new || ptpPort old != ptpPort new
  let (tim0, f4) := if moved then ptpRoleStep (s1.timIn t) s1.tim else (s1.tim, [])
  let (tim, f6) := if cfgBytes old 0x0100 0 2 = cfgBytes new 0x0100 0 2 then (tim0, []) else timFollow (s1.timIn t) tim0
  let base := cfgBytes old 0x0701 0 12 != cfgBytes new 0x0701 0 12
  let (gns, f5) := if base ∧ s1.gns.base = 2 then gnsSetBase 1 { s1.gns with pass := 0 } else (s1.gns, [])
  let srv := { s1.srv with loops := srvConfig old new t s1.srv.loops }
  let next := s1.cyc.srvNext.zipIdx.map (fun x => if srvSource old x.2 = srvSource new x.2 then x.1 else 0)
  let s2 := ({ s1 with fus := fus, aio := aio, fld := fld, tim := tim, gns := gns, srv := srv, cyc := { s1.cyc with srvNext := next } } : State).apply t (f1 ++ f2 ++ f3 ++ f4 ++ f5 ++ f6)
  let s3 := (s2.regroup old new).rejoin old new
  let s3 := if cfgBytes old 0x0402 0 4 = cfgBytes new 0x0402 0 4 ∧ cfgU8 old 0x0402 6 = cfgU8 new 0x0402 6 then s3 else s3.join450
  if cfgBytes old 0x0018 0 96 = cfgBytes new 0x0018 0 96 then s3 else s3.rehost t new

/-- A transaction at its tick (R57): base check, state conditions, application; where it applies, `then_` goes on with the new state. -/
def State.commitAt (s : State) (b : Bnd) (base : Nat) (staged : Mem) (ok : Bool) (then_ : State → State) : State :=
  if base ≠ s.cfg.hash then s.settle b st.cfgConflict []
  else if !ok then s.settle b st.wrongState []
  else then_ (s.setConfig (cfgApply s.cfg.active staged))

/-- Hash, zero and epoch of a final reply. -/
def State.hashReply (s : State) : List Byte := u32 s.cfg.hash ++ u32 0 ++ u64 s.cyc.number

/-- The base against which an AIO action of this tick is checked: earlier AIO actions of the tick carry it forward (R354). -/
def State.aioBase (s : State) (b : Bnd) : Nat :=
  s.cyc.answers.foldl (fun h a =>
    if [0xC0, 0xC1].contains a.act.op ∧ a.status = st.ok ∧ a.act.base = b.base then s.cfg.hash else h) b.base

/-! Actions at the cycle tick. -/

/-- FUS_SET_STREAM_STATE (R139). -/
def State.actStream (s : State) (b : Bnd) : State :=
  let n := getU16 b.payload 0
  let op := getU8 b.payload 2
  if setStateOk s.cfg.active s.fus n op then ({ s with fus := fusQueue n op s.fus } : State).settle b st.ok [] else s.settle b st.wrongState []

/-- Whether a handle names an open transaction. -/
def State.handleOpen (s : State) (h : Nat) : Bool := match s.txn? h with
  | some x => !x.committed
  | none => false

/-- The gain and offset of an AIO_CAL COMMIT or FACTORY of which the staged bytes are known. -/
def stagedCal (m : Mem) : Nat × Int := (leNat ((m.take 4).map Prod.snd), signed 32 (leNat ((m.drop 4).map Prod.snd)))

/-- Whether SRV_TABLE_LOAD's conditions hold at its acceptance (R235). -/
def State.tableOk (s : State) (n : Nat) : Bool := decide (n ≤ 47) && srvMode s.cfg.active n == 2 && (s.srv.loops.getD n {}).state == 1

/-- Whether they still hold at the effective tick, after the host actions before it: the loop is STOPPED by the conditions of R230 as they then stand. -/
def State.tableStill (s : State) (n : Nat) : Bool :=
  decide (n ≤ 47) && srvMode s.cfg.active n == 2 && (s.srv.loops.getD n {}).state != 3 && s.srvStop n

/-- A host action as the record lists it (R21): with the outcome of the checks on state that the other members do not hold (an open transaction, the image buffer, the
calibration points, the states of the servo loops), and the bytes that it stages from there. -/
def State.listedAct (s : State) (b : Bnd) : Bnd :=
  if s.follows then b
  else if b.op = 0x43 ∧ getU8 b.payload 2 = 3 then { b with found := some (b2n (!s.handleOpen (getU16 b.payload 4))) }
  else if b.op = 0x59 then { b with found := some (b2n (!s.tableStill (getU8 b.payload 0))) }
  else if b.op = 0x60 then match lgcInstallCheck (lgcState s.cfg.active) s.lgc with
    | some c => { b with found := some (c + 1) }
    | none => { b with found := some 0, staged := lgcInstallStage s.cfg.active s.lgc }
  else if b.op = 0xC1 then
    let kind := getU8 b.payload 0
    let ch := getU8 b.payload 1 - 1
    match if getU8 b.payload 2 = 3 then some (0, 0) else calSolve s.aio kind ch with
    | some (g, o) => { b with found := some 0, staged := calStage kind ch g o }
    | none => { b with found := some 1 }
  else b

/-- FUS_CAL_CONTROL (R135 to R137, R139). -/
def State.actCal (s : State) (b : Bnd) : State :=
  let n := getU16 b.payload 0
  let a := getU8 b.payload 2
  let h := getU16 b.payload 4
  if !calOk s.cfg.active s.fus n a || (a == 3 && b.found.getD 0 != 0) then s.settle b st.wrongState [] else
  let slot0 := (slotOf (slotsNow s.cfg.active s.fus) n).getD 0
  let (vals, item, off, bytes) := calStaged s.cfg.active s.fus n
  let s1 : State := { s with fus := fusQueue n (10 + a) s.fus }
  let s2 := if a = 3 then s1.setTxns (s1.cfg.txns.map (fun y => if y.handle = h then { y with staged := stageBytes y.staged (cfgKey item off) bytes } else y)) else s1
  let slot := if a = 4 then slot0 else (slotOf (slotsNow s.cfg.active s2.fus) n).getD slot0
  s2.settle b st.ok ([byteOf slot, 0#8, 0#8, 0#8] ++ (if a = 3 then vals.flatMap s32 else zeros 12))

/-- FUS_INJECT (R112). -/
def State.actInject (s : State) (b : Bnd) : State :=
  let n := getU16 b.payload 0
  let own := getU64 b.payload 4
  if !injectOk s.cfg.active n own then s.settle b st.wrongState []
  else if s.cyc.answers.any (fun a => a.act.op == 0x44 && a.status == st.ok && getU16 a.act.payload 0 == n) then s.settle b st.busy []
  else
    let x := injectSample s.cfg.active s.cyc.tick s.cyc.number n own (slice b.payload 12 24)
    ({ s with fus := { s.fus with rx := s.fus.rx ++ [x] } } : State).settle b st.ok []

/-- ALC_SET_THRUSTER_STATE (R202, R237); the signature of its reply follows at the seal. A FAILED loop returns by the checks of this very tick: at once where
its pass is done, else in it. -/
def State.actThruster (s : State) (b : Bnd) : State :=
  let t := getU8 b.payload 0
  let on := getU8 b.payload 1 == 1
  if t = 0 ∨ 24 < t ∨ !thrConfigured s.cfg.active t then s.settle b st.wrongState [] else
  let s1 : State := { s with alc := { s.alc with disabled := setBit s.alc.disabled (t - 1) (!on) } }
  let s2 := if on then
      (thrLoops t).foldl (fun (a : State) n =>
        let x0 := a.srv.loops.getD n {}
        let (x, fx) := if a.srv.tick = s.cyc.tick then srvReturn n x0 else ({ x0 with back := some s.cyc.tick }, [])
        ({ a with srv := { a.srv with loops := a.srv.loops.set n x } } : State).apply s.cyc.tick fx) s1
    else s1
  s2.settle b st.ok []

/-- ALC_SET_POWER_LIMITS (R224); the budgets of its reply follow at the seal. -/
def State.actLimits (s : State) (b : Bnd) : State :=
  let mask := getU8 b.payload 0
  let lim := fun (k : Nat) => let v := getU32 b.payload (4 + 4 * k); if v = 0xFFFFFFFF then none else some v
  let secs := s.alc.secs.zipIdx.map (fun x => if bits mask x.2 1 = 1 then { x.1 with hostLimit := lim x.2 } else x.1)
  ({ s with alc := { s.alc with secs := secs } } : State).settle b st.ok []

/-- SRV_TABLE_LOAD. -/
def State.actTable (s : State) (b : Bnd) : State :=
  let n := getU8 b.payload 0
  let crc := crc32c (slice b.payload 4 512)
  s.commitAt b b.base b.staged (b.found.getD 0 == 0) (fun s1 =>
    (s1.apply s.cyc.tick [.count Reg.srvCntTblload 1, .event 65 ([byteOf n, 0#8, 0#8, 0#8] ++ u32 crc)]).settle b st.ok
      (u32 crc ++ u32 s1.cfg.hash ++ u64 s.cyc.number))

/-- AIO_FILTER_SET (R354). -/
def State.actFilter (s : State) (b : Bnd) : State :=
  let g := getU8 b.payload 0
  let a := getU8 b.payload 1
  let staged := if a = 0 then filterStop g else if a = 1 then filterLoad g (getU8 b.payload 2) (getU32 b.payload 4) (slice b.payload 8 16) else filterStart g
  s.commitAt b (s.aioBase b) staged (!(a == 1 && aioRun s.cfg.active g)) (fun s1 =>
    let (x, fx) := filterApplied s1.cfg.active g a s1.aio
    (({ s1 with aio := x } : State).apply s.cyc.tick fx).settle b st.ok s1.hashReply)

/-- AIO_CAL COMMIT and FACTORY (R366). -/
def State.actCalData (s : State) (b : Bnd) : State :=
  let kind := getU8 b.payload 0
  let ch := getU8 b.payload 1 - 1
  if b.found.getD 0 ≠ 0 then (if s.aioBase b = s.cfg.hash then s.settle b st.wrongState [] else s.settle b st.cfgConflict [])
  else
    let (g, o) := stagedCal b.staged
    s.commitAt b (s.aioBase b) b.staged true (fun s1 =>
      (s1.apply s.cyc.tick [.event 91 ([byteOf kind, byteOf (ch + 1), 0#8, 0#8] ++ u32 g)]).settle b st.ok (s32 0 ++ u32 g ++ s32 o ++ u32 s1.cfg.hash))

/-- The refusal of an INSTALL (R384). -/
def lgcLoadFx (cause : Nat) : List Fx := [.flag Reg.lgcStatus 3, .event 95 [byteOf cause]]

/-- LGC_LOAD_IMAGE INSTALL (R384). -/
def State.actInstall (s : State) (b : Bnd) : State :=
  if b.base ≠ s.cfg.hash then s.settle b st.cfgConflict [] else
  match b.found.getD 0 with
  | c + 1 => (s.apply s.cyc.tick (lgcLoadFx c)).settle b st.wrongState []
  | 0 =>
    let old := lgcState s.cfg.active
    s.commitAt b b.base b.staged true (fun s1 =>
      let id := lgcProgramId s1.cfg.active
      let s2 : State := { s1 with lgc := { s1.lgc with consts := [], data := [], num := 0, first := false } }
      (s2.apply s.cyc.tick (lgcStateFx old (lgcState s1.cfg.active) id)).settle b st.ok (u32 id ++ u32 s1.cfg.hash ++ u64 s.cyc.number))

/-- LGC_START and LGC_STOP (R385). -/
def State.actRun (s : State) (b : Bnd) (start : Bool) : State :=
  let old := lgcState s.cfg.active
  let staged := stageBytes [] (cfgKey 0x0C01 0) [if start then 1#8 else 0#8]
  s.commitAt b b.base staged (if start then old == 1 else old == 2) (fun s1 =>
    let (g, fx) := if start then (lgcStart s1.lgc, ([] : List Fx)) else lgcStop s1.cfg.active s1.lgc
    let s2 := ({ s1 with lgc := g } : State).apply s.cyc.tick (fx ++ lgcStateFx old (lgcState s1.cfg.active) (lgcProgramId s1.cfg.active))
    s2.settle b st.ok s1.hashReply)

/-- The word LGC_SET_VALUE names, where it applies (R387). -/
def State.lgcWord (s : State) (p : List Byte) : Option (Bool × Nat) :=
  if lgcState s.cfg.active ≠ 2 then none else lgcTarget s.cfg.active (getU8 p 0) (getU8 p 1) (getU32 p 4) (getU32 p 8)

/-- LGC_SET_VALUE (R387). -/
def State.actValue (s : State) (b : Bnd) : State :=
  match s.lgcWord b.payload with
  | none => s.settle b st.wrongState []
  | some (k, w) =>
    let s1 : State := { s with lgc := { s.lgc with pending := s.lgc.pending ++ [(k, w, lgcAs (some (getU8 b.payload 1)) (getU32 b.payload 12))] } }
    s1.settle b st.ok (u64 (if s.lgc.first then 1 else s.lgc.num + 1))

/-- CFG_COMMIT (R57): its handle closes in every case. -/
def State.actCommit (s : State) (b : Bnd) : State :=
  let s0 := s.closeTxn (getU16 b.payload 0)
  s0.commitAt b b.base b.staged (s0.txnStateOk b.staged) (fun s1 => s1.settle b st.ok s1.hashReply)

/-- Acknowledgement of PK-20 alarms (R472): `n` 0 for all. An alarm whose condition has ended leaves the list. -/
def State.pkAck (s : State) (n : Nat) : State :=
  let hit := if n = 0 then s.pk.alarms else 2 ^ (n - 1)
  let un := bitmap 28 (fun k => bits s.pk.unack k 1 == 1 && bits hit k 1 == 0)
  let gone := (List.range 28).filter (fun k => bits s.pk.alarms k 1 == 1 && bits un k 1 == 0 && bits s.pk.cond k 1 == 0)
  let s1 : State := { s with pk := { s.pk with unack := un, alarms := bitmap 28 (fun k => bits s.pk.alarms k 1 == 1 && !gone.contains k) } }
  s1.apply s.cyc.tick (gone.map (fun k => .event 121 [byteOf (k + 1), 0#8]))

/-- Internal codes of the PK-20 set frames that no opcode stands for: ACK_ALARM, and SELECT_REF in STRICT. -/
def opPkAck : Nat := 0x107
def opPkRef : Nat := 0x121

/-- A host action other than those of the control law. -/
def State.applyTick (s : State) (b : Bnd) : State :=
  if b.op = 0x23 then s.actCommit b
  else if b.op = 0x42 then s.actStream b
  else if b.op = 0x43 then s.actCal b
  else if b.op = 0x44 then s.actInject b
  else if b.op = 0x51 then s.actThruster b
  else if b.op = 0x53 then s.actLimits b
  else if b.op = 0x59 then s.actTable b
  else if b.op = 0xC0 then s.actFilter b
  else if b.op = 0xC1 then s.actCalData b
  else if b.op = 0x60 then s.actInstall b
  else if b.op = 0x61 then s.actRun b true
  else if b.op = 0x62 then s.actRun b false
  else if b.op = 0x63 then s.actValue b
  else if b.op = opPkAck then (s.pkAck (getU8 b.payload 0)).settle b st.ok []
  else if b.op = opPkRef then
    ({ s with pk := { s.pk with slots := setBit s.pk.slots (getU8 b.payload 0 - 1) (getU8 b.payload 1 == 1) } } : State).settle b st.ok []
  else s

/-! Actions of the control-law phase (R148). -/

/-- The opcodes whose turn comes in the control-law phase. -/
def lawOps : List Nat := [0x30, 0x31, 0x32, 0x33, 0x35, 0x06, 0x08]

/-- Whether an action's sender may operate DP at its turn (R146); the rule does not apply to PK-20 frames (R469). -/
def State.mayOperate (s : State) (b : Bnd) : Bool := b.pk.isSome || s.ctl.holder.map Prod.snd == some b.ident

/-- R147's condition in a process image. -/
def State.twoHandOk (s : State) (img : ProcImg) : Bool :=
  (List.range 8).all (fun k => !(isTwoHand s.saf.cfg k && bits (fnUse s.saf.cfg k) 0 1 == 1) || img.fns.getD k 0 == 2)

/-- Whether moored standby may be entered (R491). -/
def State.standbyOk (s : State) : Bool :=
  s.ctl.mode == 0 && s.fw.update.isNone && s.red.handover.isNone &&
    !(decide (s.red.size ≠ 0) && s.red.role == .active && s.red.peers.any (fun p => p.present && p.role != .none))

/-- Whether a selection lies in its lists and the mode allows it (R456). -/
def State.selectOk (s : State) (p : List Byte) : Bool :=
  s.ctl.mode == 0 && decide (getU8 p 0 ≤ 1) && decide (getU8 p 1 ≤ 1) && !(getU8 p 0 == 0 && getU8 p 1 == 1)

/-- The selection of a personality and a profile is stored (R456). -/
def State.storePers (s : State) (t : Nat) (p : List Byte) : State :=
  let pers := if getU8 p 0 = 1 then Pers.pk20 else .native
  let prof := if getU8 p 1 = 1 then Profile.extended else .strict
  ({ s with stored := (pers, prof) } : State).apply t [.event 123 [byteOf (getU8 p 0), byteOf (getU8 p 1), 1#8]]

/-- DP_SET_MODE (R148, R461). Δ is also given when the transfer is refused, the one refusal with an effect (R165, Table 6.4). -/
def State.actMode (s : State) (i : LawIn) (b : Bnd) : State :=
  let cfg := s.cfg.active
  let mode := getU8 b.payload 0
  let gains := if b.pk.isSome then s.ctl.gainSet else getU8 b.payload 1
  let strict := s.pers == .pk20 && s.profile == .strict
  let (c, ok, d, fx) := if !s.mayOperate b then (s.ctl, false, ({} : V3), ([] : List Fx))
    else if strict then pkSetMode i s.ctl mode else ctlSetMode cfg i s.ctl mode gains b.force
  (({ s with ctl := c, alc := if c.mode = 0 then alcForget s.alc else s.alc } : State).apply s.cyc.tick fx).settle b (if ok then st.ok else st.wrongState)
    (if ok || !fx.isEmpty then [byteOf c.mode, byteOf c.gainSet, 0#8, 0#8] ++ d.bytes else [])

/-- One host action of the phase. -/
def State.applyLaw (i : LawIn) (s : State) (b : Bnd) : State :=
  let cfg := s.cfg.active
  let p := b.payload
  let plain := fun (c : Ctl) (ok : Bool) (fx : List Fx) (data : List Byte) =>
    (({ s with ctl := c } : State).apply s.cyc.tick fx).settle b (if ok then st.ok else st.wrongState) (if ok then data else [])
  if b.op = 0x30 then s.actMode i b
  else if b.op = 0x31 then
    let r := if s.mayOperate b then ctlSetTarget cfg s.ctl (getS64 p 0) (getS64 p 8) (getU32 p 16 : Nat) (getU8 p 20) else (s.ctl, false)
    plain r.1 r.2 [] []
  else if b.op = 0x32 then
    if s.mayOperate b then
      let (c, ok, t, fx) := ctlTraverse cfg i s.ctl (getS64 p 0) (getS64 p 8) (getU32 p 16 : Nat)
      plain c ok fx (u32 t ++ u32 0)
    else s.settle b st.wrongState []
  else if b.op = 0x33 then
    let r := if s.mayOperate b then ctlJoystick s.agreedTick s.ctl (getS16 p 0) (getS16 p 2) (getS16 p 4) else (s.ctl, false)
    plain r.1 r.2 [] []
  else if b.op = 0x35 then
    let (c, ok, fx) := if getU8 p 0 = 0 then ctlTake s.ctl b.hostIdx b.ident b.force (s.twoHandOk s.cyc.img) else ctlRelease s.ctl b.ident
    plain c ok fx [byteOf (ctlHolderIdx c 0xFF), 0, 0, 0]
  else if b.op = 0x06 then
    if s.standbyOk then { s with clk := { s.clk with enterReq := some b.id, enterDue := true } } else s.settle b st.wrongState []
  else if b.op = 0x08 then
    if s.selectOk p then (s.storePers s.cyc.tick p).settle b st.ok [byteOf (getU8 p 0), byteOf (getU8 p 1), 0, 0]
    else s.settle b st.wrongState []
  else s

end Sys2Proof.Machine
end

