-- ==== Sys2Proof/Machine/Compare.lean ====
section
/-! DEFINITION. Roles and the token as every path needs them, and the comparison of results (R415, R419, R427 to R430, R436). -/

namespace Sys2Proof.Machine

/-! Roles and the token. -/

/-- A change of role (RED_ROLE, R433). -/
def State.roleTo (s : State) (t : Nat) (new : Role) (cause : Nat) : State :=
  if s.red.role = new then s else
  ({ s with red := { s.red with role := new } } : State).apply t
    [.event 108 [byteOf s.red.modNum, byteOf (roleCode s.red.role), byteOf (roleCode new), byteOf cause]]

/-- The token is given up, the output stage disabled (R420, R423). -/
def State.tokenOff (s : State) : State :=
  { s with
    red := { s.red with token := false, driver := false, onAt := none, giveUp := false, releaseAt := none, check := none }
    aio := { s.aio with drven := false } }

/-- A peer by its module number. -/
def State.peer (s : State) (m : Nat) : Peer := s.red.peers.getD (m - 1) {}

def State.setPeer (s : State) (m : Nat) (p : Peer) : State := { s with red := { s.red with peers := s.red.peers.set (m - 1) p } }

def State.modPeer (s : State) (m : Nat) (f : Peer → Peer) : State := s.setPeer m (f (s.peer m))

/-- The other members that are present and hold a role. -/
def State.mates (s : State) : List Nat := [1, 2, 3].filter (fun m => m != s.red.modNum && (s.peer m).present && (s.peer m).role != .none)

/-- The module that another member reports Active, 0 without one. -/
def State.activeMate (s : State) : Nat := (([1, 2, 3].filter (fun m => m != s.red.modNum && (s.peer m).role == .active)).head?).getD 0

/-- A control message goes out. -/
def State.control (s : State) (c : RlControl) : State := s.emit (.rl (.control { from_ := s.red.modNum, what := c, crcOk := true }))

/-- The member joins anew under R425: not READY, a Standby becomes Backup (R415). -/
def State.joinAnew (s : State) (t : Nat) : State :=
  let s1 : State := { s with red := { s.red with join := true, intactRun := 0, agreeRun := 0, fit := false, wasFit := false, recErr := false } }
  let s2 := if s1.red.role = .standby then s1.roleTo t .backup 0 else s1
  s2.control .join

/-- Whether one module ranks before another: newest saved epoch, preference, number (R424). -/
def ranksBefore (a b : Nat × Nat × Nat) : Bool :=
  decide (b.1 < a.1) || (a.1 == b.1 && (decide (a.2.1 < b.2.1) || (a.2.1 == b.2.1 && decide (a.2.2 < b.2.2))))

/-- The number of a saved epoch that passes R25, 0 without one. -/
def State.savedNumber (s : State) : Nat := match s.saved with
  | some e => e.number
  | none => 0

def State.rank (s : State) : Nat × Nat × Nat := (s.savedNumber, s.red.pref, s.red.modNum)
def Peer.rank (p : Peer) (m : Nat) : Nat × Nat × Nat := (p.saved, p.pref, m)

/-- Standby and Backup among the members that hold a role and do not hold the token (R415, R424). -/
def State.roleScan (s : State) (t : Nat) : State :=
  let better := fun (m : Nat) => ranksBefore ((s.peer m).rank m) s.rank
  match s.red.role with
  | .standby =>
    if !s.redReady t || s.mates.any (fun m => (s.peer m).role == .standby && better m) then s.roleTo t .backup 0 else s
  | .backup =>
    if s.redReady t && !s.red.driver && !s.mates.any (fun m => (s.peer m).role == .standby || ((s.peer m).role == .backup && (s.peer m).ready && better m)) then
      s.roleTo t .standby 0
    else s
  | _ => s

/-! The comparison of a pair (R427). -/

def redU32 (cfg : Mem) (o : Nat) : Nat := cfgU32 cfg 0x0D00 o

/-- The index of the first quantity beyond its tolerance. -/
def firstDiff (cfg : Mem) (skip : Bool) (a b : RlCompare) : Option Nat :=
  let off := fun (i : Nat) =>
    if i < 3 then decide (redU32 cfg (8 + 4 * i) < (a.tau.get i - b.tau.get i).natAbs)
    else
      let k := (i - 3) / 2
      if i % 2 = 1 then decide (redU32 cfg 24 < (signed 32 ((a.az.getD k 0 + 2 ^ 32 - b.az.getD k 0 % 2 ^ 32) % 2 ^ 32)).natAbs)
      else decide (redU32 cfg 20 < (a.thrust.getD k 0 - b.thrust.getD k 0).natAbs)
  (List.range (if skip then 3 else 51)).find? off

/-- The detail of RED_COMPARE. -/
def compareDetail (what faulty idx epoch : Nat) : List Byte := [byteOf what, byteOf faulty, byteOf idx, 0, 0, 0, 0, 0] ++ u64 epoch

/-- A pair agrees in a cycle. -/
def State.pairAgrees (s : State) (t m epoch : Nat) : State :=
  let p := s.peer m
  let s1 := s.setPeer m { p with judged := epoch, prior := p.run, run := 0, agree := true, fault := false }
  if p.run = 0 then s1 else s1.apply t [.event 110 (compareDetail 2 0 0 epoch)]

/-- A pair disagrees in a cycle, first at quantity `idx`. The third cycle in a row is a comparison fault (R428). -/
def State.pairDiffers (s : State) (t m epoch idx : Nat) : State :=
  let p := s.peer m
  let before := if p.judged = epoch then p.prior else p.run
  let run := before + 1
  let new := decide (s.red.discAt < epoch)
  let s1 := s.setPeer m
    { p with judged := Nat.max p.judged epoch, prior := before, run := run, agree := false, fault := decide (3 ≤ run), flags0 := if before = 0 then p.flags else p.flags0 }
  let s2 : State := { s1 with red := { s1.red with
    agreeRun := 0, fit := false, wasFit := s1.red.wasFit || s1.red.fit, discAt := Nat.max s1.red.discAt epoch, flags0 := if before = 0 then s1.flagsNow t else s1.red.flags0 } }
  let s3 := s2.apply t ([.flag Reg.redStatus 0] ++ (if new then [.count Reg.redCntDiscrep 1] else []) ++
    (if before = 0 then [.event 110 (compareDetail 0 0 idx epoch)] else []))
  if run = 3 then s3.apply t [.flag Reg.redStatus 1, .count Reg.redCntCmpfault 1, .event 110 (compareDetail 1 0 idx epoch)] else s3

/-- A cycle is counted once every other member with a role has been compared in it; an unresolved fault ends after 100 agreeing cycles. -/
def State.countCycle (s : State) (t epoch : Nat) : State :=
  let ms := s.mates
  if ms.isEmpty ∨ epoch ≤ s.red.counted ∨ !ms.all (fun m => decide (epoch ≤ (s.peer m).judged)) then s else
  let ok := ms.all (fun m => (s.peer m).agree)
  let run := if ok then s.red.agreeRun + 1 else 0
  let s1 : State := { s with red := { s.red with
    counted := epoch, agreeRun := run, fit := s.red.fit || decide (100 ≤ run), wasFit := s.red.wasFit && !ok, recErr := s.red.recErr && !ok } }
  let s2 := if s1.red.unres ∧ 100 ≤ run then ({ s1 with red := { s1.red with unres := false } } : State).apply t [.event 111 [0]] else s1
  if s2.red.join ∧ 100 ≤ run ∧ 3 ≤ s2.red.intactRun then { s2 with red := { s2.red with join := false } } else s2

/-- The verdict of a Standby or Backup once a cycle is counted. -/
def State.sendVerdict (s : State) (epoch : Nat) : State :=
  if s.red.counted = epoch ∧ (s.red.role = .standby ∨ s.red.role = .backup) then
    let agree := bitmap 3 (fun k => (s.peer (k + 1)).agree && decide (epoch ≤ (s.peer (k + 1)).judged))
    s.emit (.rl (.verdict { from_ := s.red.modNum, epoch := epoch, agree := agree, find := s.red.find, crcOk := true }))
  else s

/-! The fault decision (R428, R429, R436). -/

/-- This module is judged faulty. -/
def State.selfFaulty (s : State) (t cause : Nat) : State :=
  let s1 : State := { s with red := { s.red with faulted := true, join := false, arb := none, giveUp := s.red.token, cause := cause } }
  if s1.red.token then s1 else s1.roleTo t .none cause

/-- Member `m` is judged faulty: cycles compared with it no longer stand against READY; a faulty Active is to be relieved. -/
def State.mateFaulty (s : State) (t m cause : Nat) : State :=
  let s1 : State := { s with red := { s.red with fit := s.red.fit || s.red.wasFit, wasFit := false, arb := none } }
  if (s1.peer m).role = .active then { s1 with red := { s1.red with cause := cause, detectAt := t, due := some t } } else s1

/-- Module `m` is judged faulty. -/
def State.judgeFaulty (s : State) (t m cause epoch : Nat) : State :=
  let s1 := s.apply t [.event 110 (compareDetail 1 m 0 epoch)]
  if m = s.red.modNum then s1.selfFaulty t cause else s1.mateFaulty t m cause

/-- The fault stays unresolved. -/
def State.unresolved (s : State) (t : Nat) : State :=
  if s.red.unres then { s with red := { s.red with arb := none } } else
  ({ s with red := { s.red with unres := true, arb := none } } : State).apply t [.count Reg.redCntUnres 1, .event 111 [1]]

/-- The decision among three members, with the verdict of a cycle at hand. -/
def State.decideThree (s : State) (t epoch : Nat) : State :=
  if s.red.othersAt ≠ epoch ∨ s.red.faulted then s else
  match s.mates with
  | [a, b] =>
    let fa := (s.peer a).fault
    let fb := (s.peer b).fault
    let fo := decide (3 ≤ s.red.others)
    if fa && fb && fo then s.unresolved t
    else if fa && fb then s.judgeFaulty t s.red.modNum 5 epoch
    else if fa && fo then (if (s.peer a).faulted then s else s.judgeFaulty t a 5 epoch)
    else if fb && fo then (if (s.peer b).faulted then s else s.judgeFaulty t b 5 epoch)
    else s
  | _ => s

/-- Steps 2 and 3 of arbitration against member `m`. -/
def State.arbSelf (s : State) (t m : Nat) : State :=
  match s.red.arb with
  | none => s
  | some epoch =>
    let new := fun (a b : Nat) => decide (a - (a &&& b) ≠ 0)
    let mine := new (s.flagsNow t) s.red.flags0
    let theirs := new (s.peer m).flags (s.peer m).flags0
    if mine && theirs then s.unresolved t
    else if mine then s.judgeFaulty t s.red.modNum 6 epoch
    else if theirs then s.judgeFaulty t m 6 epoch
    else match s.red.ownArb, s.red.theirArb with
      | some a, some b =>
        let fa := a.1 || a.2
        let fb := b.1 || b.2
        if fa == fb then s.unresolved t else s.judgeFaulty t (if fa then s.red.modNum else m) 6 epoch
      | _, _ => s

/-- Two members: arbitration begins at the comparison fault; a Standby whose records came with an error rejoins (R429 step 1). -/
def State.arbitrate (s : State) (t epoch : Nat) : State :=
  match s.mates with
  | [m] =>
    if !(s.peer m).fault ∨ s.red.arb.isSome ∨ s.red.unres ∨ s.red.faulted then s else
    let first := epoch + 1 - (s.peer m).run
    if s.red.role = .active then { s with red := { s.red with arb := some first, ownArb := none, theirArb := none } }
    else
      let bad := s.red.recErr || decide (first ≤ s.red.repEpoch)
      let s1 := s.control (.inputs bad)
      if bad then s1.joinAnew t else
      ({ s1 with red := { s1.red with arb := some first, ownArb := none, theirArb := none } } : State).arbSelf t m
  | _ => s

/-- The decision after a cycle's comparison. -/
def State.settleFault (s : State) (t epoch : Nat) : State :=
  if s.mates.length = 2 then s.decideThree t epoch else (s.arbitrate t epoch)

/-- A pair's cycle is judged once both sides' quantities are known. The first quantity that differs is unstated where a repaired part makes the cycle disagree (log 60). -/
def State.judge (s : State) (t m epoch : Nat) : State :=
  let own := s.red.own.find? (fun c => c.epoch == epoch)
  let other := s.red.theirs.find? (fun c => c.epoch == epoch && c.from_ == m)
  match own, other with
  | some a, some b =>
    if !s.mates.contains m ∨ epoch ≤ (s.peer m).judged then s else
    let skip := a.tlim || b.tlim
    let s1 := if skip then s.plainFx (.count Reg.redCntSkiptl 1) else s
    let d := if s.red.repEpoch = epoch ∧ epoch ≠ 0 then some (Config.freeNat 60 [(epoch : Int)] % 51) else firstDiff s.cfg.active skip a b
    let s2 := match d with
      | none => s1.pairAgrees t m epoch
      | some i => s1.pairDiffers t m epoch i
    (((s2.countCycle t epoch).sendVerdict epoch).settleFault t epoch).roleScan t
  | _, _ => s

/-- The cycle is judged against every member whose quantities are here. -/
def State.judgeAll (s : State) (t epoch : Nat) : State := s.mates.foldl (fun a m => State.judge a t m epoch) s

/-- A part of the cycle was repaired, or repaired for member `m`: the cycle disagrees (R419, R427). -/
def State.repaired (s : State) (t m epoch : Nat) : State :=
  if !s.mates.contains m ∨ (epoch ≤ (s.peer m).judged ∧ !(s.peer m).agree) then s else
  ((s.pairDiffers t m epoch (Config.freeNat 60 [(epoch : Int)] % 51)).settleFault t epoch).roleScan t

end Sys2Proof.Machine
end

