-- ==== Sys2Proof/Machine/Cycle.lean ====
section
/-! DEFINITION. The cycle from its tick to its output deadline (chapters 01, 06, 07, 08). -/

namespace Sys2Proof.Machine

/-! Where a cycle stands. -/

/-- Whether cycles run: from the first tick after a start until the block stops them. -/
def State.inCycle (s : State) : Bool := s.clk.firstTick && (s.clk.phase == .running || s.clk.phase == .ending)

/-- The MONO time of a phase offset in hundredths of P; a Standby's phases are shifted (R418). -/
def State.phaseAt (s : State) (k : Nat) : Nat := s.cyc.tick + s.red.recordShift + phaseOfs s.cyc.pms k

/-- The output deadline of the cycle. -/
def State.outDeadline (s : State) : Nat := s.phaseAt 80

/-- The wall-clock deadline of SL0 (R12, R14). -/
def State.sl0Limit (s : State) : Nat := s.cyc.tick + s.red.recordShift + sl0Deadline s.cfg.active s.cyc.pms

/-- The output deadline as the logic's completion time is held against it: that of Table 1.2 in agreed time (R379). -/
def State.logicDeadline (s : State) : Nat := s.agreedTick + phaseOfs s.cyc.pms 80

def State.strict (s : State) : Bool := s.pers == .pk20 && s.profile == .strict

/-- The internal cycle of a PK-20 cycle, 0 to 19 (R464). -/
def State.inner (s : State) : Nat := roundMs s.cyc.tickV % 200 / 10

/-- Whether the cycle runs law and allocation: always in native mode, in internal cycle 0 in PK-20 mode (R169, R201). -/
def State.solves (s : State) : Bool := s.pers == .native || s.inner == 0

/-- The period of law and allocation in ms. -/
def State.lawPms (s : State) : Nat := if s.pers == .pk20 then 200 else s.cyc.pms

/-- A member of a formed group that holds a role. -/
def State.grouped (s : State) : Bool := s.red.size != 0 && s.red.role != .none

/-! Numeric results enter their collector (Table 1.7). -/

/-- Source `k` of the numeric collector completes (R28). -/
def State.numFill (s : State) (t k : Nat) (b : List Byte) : State :=
  let (c, full) := colFill t k b s.cyc.num
  let s1 : State := { s with cyc := { s.cyc with num := c } }
  if full then s1.apply t [if k = 0 then .flag Reg.alcStatus 4 else if k = 4 then .flag Reg.fusStatus 4 else .flag Reg.alcStatus (15 + k), .event 14 []] else s1

/-! The cycle tick. -/

/-- The sub-millisecond part of a step is taken up at 1 µs per millisecond (R10): milliseconds it takes. -/
def realignMs (d : Int) : Nat := (offMs d + 999) / 1000

/-- A VESSEL step that waits applies at the tick (R254). A Standby or Backup steps its own base; its fusion times move by the record's step alone. -/
def State.vesselStep (s : State) (t : Nat) : State :=
  let jump : Bool := match s.tim.vessel.pend with
    | some (_, c) => c == 2
    | none => false
  match timStepBase (s.timIn t) 3 s.tim with
  | (_, none, _) => s
  | (m, some d, fx) =>
    let s0 : State := if s.follows then { s with tim := m } else { s with tim := m, fus := fusVesselStep d s.fus, cyc := { s.cyc with step := d } }
    let s1 := s0.apply t fx
    let n := realignMs d
    if jump ∧ n ≠ 0 then ({ s1 with cyc := { s1.cyc with realign := true, realignEnd := t + n * 1000000 } } : State).apply t [.start 13 0 []] else s1

/-- The sections that return to service at the tick (R212); a Standby or Backup has them from the record. -/
def State.sectionReturns (s : State) (t : Nat) : State :=
  if s.follows then s else
  let r := s.alc.secs.zipIdx.map (fun x => secReturn s.cfg.active x.2 (s.msAhead t) x.1)
  ({ s with alc := { s.alc with secs := r.map (·.1) } } : State).apply t (r.flatMap (·.2))

/-- What follows the fusion phase at the tick: budgets, availability, the PK-20 input take. -/
def State.afterFusion (s0 : State) : State :=
  let s := s0.budgets
  let t := s.cyc.tick
  let (why, av, fx) := s.availability s.cyc.img
  let s1 := ({ s with alc := { s.alc with why := why, avail := av }, cyc := { s.cyc with ph := { s.cyc.ph with began := true } } } : State).apply t fx
  if s1.pers == .pk20 && s1.inner == 0 then
    { s1 with pk := { s1.pk with cycle := s1.pk.cycle + 1, inTick := some t, held := none, late := false } }.pkInput
  else s1

/-- The record of the cycle (R21, Table 1.4). -/
def State.recordOf (s : State) : RlRecord :=
  { from_ := s.red.modNum, epoch := s.cyc.number, tick := s.agreedTick, tickV := s.cyc.tickV, cfgHash := s.cfg.hash, pers := s.pers, pms := s.cyc.pms,
    plan := s.fus.plan, img := s.cyc.img, acts := s.cyc.done, step := s.cyc.step, crcOk := true, repaired := false }

/-- The Active of a group sends it. -/
def State.sendRecord (s : State) : State :=
  if s.red.size ≠ 0 ∧ s.red.role = .active then
    s.emit (.rl (.record (s.recordOf)))
  else s

/-- What the law of the personality reads. -/
def State.lawReads (s : State) : LawIn :=
  let i := if s.strict then s.pkLawIn else s.lawIn s.lawPms
  if s.pers == .pk20 then { i with released := !s.pk.late } else i

/-- One host action of the tick: one of the control law waits for it with the configuration it has met; any other applies, and its checks see what those before it
will have left: judged with the solution at hand (DEDUCED, log 112). The second part is the law's state as they leave it. -/
def State.takeAction (q : State × Ctl) (b0 : Bnd) : State × Ctl :=
  let b := q.1.listedAct b0
  let s : State := { q.1 with cyc := { q.1.cyc with done := q.1.cyc.done ++ [b] } }
  let ahead : State := { s with ctl := q.2 }
  if lawOps.contains b.op then
    ({ s with cyc := { s.cyc with law := s.cyc.law ++ [(b, s.cfg.active)] } }, (ahead.applyLaw s.lawReads b).ctl)
  else ({ ahead.applyTick b with ctl := s.ctl }, q.2)

/-- The host actions of the tick, in acceptance order (R41); those of the control law wait for it (R170). -/
def State.takeActions (s : State) (acts : List Bnd) : State :=
  (acts.foldl State.takeAction ({ s with cyc := { s.cyc with law := [], done := [] } }, s.ctl)).1

/-- A host action of the control law, with the configuration it has met at its tick. -/
def State.lawAction (s : State) (x : Bnd × Mem) : State :=
  let c := s.cfg.active
  let s1 := State.applyLaw s.lawReads { s with cfg := { s.cfg with active := x.2 } } x.1
  { s1 with cfg := { s1.cfg with active := c } }

/-- ENTER_STANDBY at the tick of a member that is not Active (R43, R491): its own cycle ends first. -/
def State.ownStandby (s : State) (b : Bnd) : State :=
  if s.standbyOk then { s with clk := { s.clk with enterReq := some b.id, enterDue := true } } else s.answer b.id st.wrongState []

/-- Whether a cycle tick may fall at a MONO time (R9 to R11): a millisecond tick whose VESSEL count is a multiple of the period in force from it. -/
def State.tickDue (s : State) (t : Nat) : Bool :=
  (s.clk.phase == .running || s.clk.phase == .ending) && !s.cyc.halt && (s.red.size == 0 || s.red.role != .none) && (s.cyc.ms == t || s.msDue t) &&
    roundMs (s.vessel t) % cyclePms s.cfg.active s.pers == 0 &&
    (!s.clk.firstTick || decide (s.cyc.tick + s.cyc.pms * 999000 ≤ t))

/-- The cycle opens: number, image, VESSEL step; in PK-20 mode τ_sat and the outputs go on as they were. The cycle of the tick that applies a commit still
has the period from before it, and the next boundary is the first after the commit (R11; DESIGN CHOICE, log 131). -/
def State.openCycle (s0 : State) (t : Nat) : State :=
  let pms := cyclePms s0.cfg.active s0.pers
  let s1 : State := { s0 with
    clk := { s0.clk with firstTick := true }
    red := { s0.red with
      recordShift := 0
      releaseAt := match s0.red.handover with
        | some h => if h.armed && s0.red.token then some (t + 500000) else s0.red.releaseAt
        | none => s0.red.releaseAt }
    cyc := { s0.cyc with
      number := s0.cyc.number + 1, tick := t, pms := pms, before := s0.cyc.released, released := false, ph := {}, answers := [], done := [], law := [],
      pendingSet := none, tlim := false, iters := [0, 0, 0, 0], step := 0, unsealed := false } }
  let s2 := (s1.vesselStep t).sectionReturns t
  let s3 : State := { s2 with cyc := { s2.cyc with tickV := s2.vessel t, img := s2.takeImage t } }
  let s4 : State := { s3 with alc := { s3.alc with secs := s3.alc.secs.map (fun x => { x with detect := none, back := none }) } }
  if s4.aio.running then s4 else
    let (a, fx) := aioStart s4.cfg.active s4.aio
    ({ s4 with aio := a } : State).apply t fx

/-- Whether a logic cycle starts at the tick, noted in the process image (R380). -/
def State.markLogic (s : State) : State :=
  let busy : Bool := match s.lgc.cur with
    | some c => !c.complete
    | none => false
  let go := lgcState s.cfg.active == 2 && isLogicTick s.cfg.active s.cyc.pms (roundMs s.cyc.tickV) && decide (s.lgc.nextStart ≤ s.agreedTick) && !busy
  { s with cyc := { s.cyc with img := { s.cyc.img with lgcStart := if go then some s.agreedTick else none, lgcGap := go && s.lgc.taken } } }

/-- CYCLE_TICK's effect. A Standby or Backup waits for the record of the cycle (R418). -/
def State.cycleTick (s0 : State) (t : Nat) : State :=
  if !s0.tickDue t then s0 else
  let s := s0.openCycle t
  let due := s.cyc.bnds.filter (fun b => decide (b.at_ + 1000000 ≤ t))
  let s1 : State := { s with cyc := { s.cyc with bnds := s.cyc.bnds.filter (fun b => !decide (b.at_ + 1000000 ≤ t)) } }
  if !s.active then due.foldl State.ownStandby s1 else
  let s2 := (s1.takeActions due).markLogic
  let (f, fx) := fuPhase s2.cfg.active t (vesselOfs s2.tim t) s2.cyc.number s2.fus
  (({ s2 with fus := f } : State).apply t fx).afterFusion.sendRecord

/-! The fusion phase ends. -/

/-- Length of the newest FU phase in µs (R108). -/
def State.fuMicros (s : State) : Nat := let k := s.domKhz 1; if k = 0 then 0xFFFF else s.fus.numClocks * 1000 / k

/-- FUSION_PHASE_DONE's effect (R109). -/
def State.fusionDone (s : State) (t : Nat) : State :=
  if !(s.inCycle && s.cyc.ph.began && !s.cyc.ph.fu) then s else
  let us := s.fuMicros
  let sol := match s.fus.sol with
    | some x => solutionBytes x
    | none => []
  let s1 : State := { s with
    cyc := { s.cyc with ph := { s.cyc.ph with fu := true } }
    chan := { s.chan with results := { s.chan.results with fus := pushResult s.cyc.number sol s.chan.results.fus } } }
  let ovr := if s.phaseAt 20 < t then [Fx.flag Reg.fusStatus 0, .event 35 (u32 us)] else []
  (s1.apply t ([.field Reg.fusPhase 0 16 (satN 16 us), .maxi Reg.fusPhase 16 16 us] ++ ovr)).numFill t 4 sol

/-! The control law (R170). -/

/-- The wind force of the cycle, for the observer (R159). -/
def State.storeWind (s : State) : State :=
  let w := s.ctl.fw
  { s with fus := { s.fus with winds := newRec ⟨floorEp ((roundMs s.cyc.tickV : Int) * 1000000), w.x, w.y, w.n⟩ s.fus.winds } }

/-- The law itself, after the host actions. -/
def State.runLaw (s : State) (i : LawIn) (t : Nat) : State :=
  if !s.solves then s else
  let (c, fx) := if s.strict then pkLaw s.cfg.active i s.ctl else ctlRun s.cfg.active i s.ctl
  ({ s with ctl := c } : State).apply t fx

/-- The DP result of the cycle (Table 6.5). -/
def State.pushDp (s : State) (t : Nat) : State :=
  let data := dpStateBytes s.cyc.number (s.readReg t Reg.ctlStatus) s.ctl
  { s with chan := { s.chan with results := { s.chan.results with dp := pushResult s.cyc.number data s.chan.results.dp } } }

/-- Duration of a control-law phase in µs: not stated (log 52). -/
def lawMicros (number : Nat) : Nat := Config.freeNat 52 [(number : Int)] % 2 ^ 16

/-- CONTROL_LAW's effect. -/
def State.controlLaw (s : State) (t : Nat) : State :=
  if !(s.inCycle && s.cyc.ph.fu && !s.cyc.ph.law && decide (s.phaseAt 20 ≤ t)) then s else
  let (c, fx) := if s.solves then ctlBegin s.cfg.active s.lawReads s.ctl else (s.ctl, [])
  let s1 := (({ s with ctl := c } : State).apply t fx)
  let s2 := if s1.solves then s1.storeWind else s1
  let s3 := s2.cyc.law.foldl State.lawAction s2
  let s4 := s3.runLaw s3.lawReads t
  let us := lawMicros s4.cyc.number
  let s5 := s4.apply t [.field Reg.ctlPhase 0 16 us, .maxi Reg.ctlPhase 16 16 us]
  ({ s5 with cyc := { s5.cyc with ph := { s5.cyc.ph with law := true } } } : State).pushDp t

/-! Allocation (R12 to R16, R193 to R201). -/

/-- The failure groups at SL0's start: those without a scenario in this cycle rest or hold. -/
def State.openGroups (s : State) (run idle : Bool) (t : Nat) : State :=
  let r := s.alc.groups.zipIdx.map (fun x =>
    if !grpEnabled s.cfg.active x.2 then cqRest x.2 0 x.1
    else if idle then cqRest x.2 1 x.1
    else ({ x.1 with done := !run }, []))
  ({ s with alc := { s.alc with groups := r.map (·.1) } } : State).apply t (r.flatMap (·.2))

/-- Thrusters whose section was lost between the tick and the SL0 start offset: BUS set, AVAIL 0, ALC_THRUSTER (R180, R211). -/
def State.dropLost (s : State) (t : Nat) : State :=
  let gone := thrNums.filter (fun k => bits s.alc.avail (k - 1) 1 == 1 && decide (thrBus s.cfg.active k < 8) && !s.secIn (thrBus s.cfg.active k))
  let why := (s.alc.why.zipIdx).map (fun x => if gone.contains (x.2 + 1) then x.1 + 8 else x.1)
  let av := bitmap 24 (fun k => bits s.alc.avail k 1 == 1 && !gone.contains (k + 1))
  ({ s with alc := { s.alc with why := why, avail := av } } : State).apply t
    (gone.map (fun k => .event 59 ([byteOf k, 0#8] ++ u16 (s.thrStatLow 0 (why.getD (k - 1) 0) (k - 1)))))

/-- SL0_START's effect: the problem of the cycle. -/
def State.sl0Start (s0 : State) (t : Nat) : State :=
  if !(s0.inCycle && s0.cyc.ph.law && !s0.cyc.ph.alloc && !s0.cyc.ph.deadline && decide (s0.phaseAt 30 ≤ t)) then s0 else
  let s := s0.dropLost t
  let on := s.ctl.mode != 0
  let prob := if on ∧ s.solves then some (s.alcProblem s.lawPms) else none
  let s1 : State := { s with alc := { s.alc with prob := prob }, cyc := { s.cyc with ph := { s.cyc.ph with alloc := true } } }
  s1.openGroups (prob.isSome && !s.strict) (!on || s.strict) t

/-- ALC_THR_STAT [6:0] of every thruster. -/
def State.thrStats (s : State) : List Nat := (List.range 24).map (fun k => bits s.alc.avail k 1 + 2 * s.alc.why.getD k 0)

/-- The signature of a cycle of the PK-20 numerics, which form no rows. -/
def State.strictSig (s : State) : Nat :=
  alcSignature (alcTableCrc s.cfg.active) (thrNums.filter (fun t => bits s.alc.avail (t - 1) 1 == 1)) 0 0

/-- What a solve leaves as the newest one's; a result without a thruster is none. -/
def State.noteSolve (s : State) : State :=
  if s.alc.res.reason = 6 then s else
  { s with alc := { s.alc with lastKind := some s.alc.res.kind, lastIters := s.alc.res.iters, sig := s.alc.res.sig } }

/-- SL0's result, ended by its budget or at `guard` iterations: the state, whether a solve was made. -/
def State.sl0Result (s : State) (guard : Option Nat) (t : Nat) : State :=
  let cfg := s.cfg.active
  let n := s.cyc.number
  let a := s.alc
  match a.prob with
  | none =>
    let p0 := s.alcProblem s.lawPms
    let p := if s.strict then { p0 with thr := [] } else p0
    let r0 := if s.ctl.mode = 0 then alcRest cfg n 5 p s.feedAngles s.thrStats else
      { a.res with
        num := n
        reason := if s.strict then 7 else 5
        thr := (a.res.thr.zipIdx).map (fun (x : ThrRes × Nat) => { x.1 with stat := x.1.stat / 128 * 128 + s.thrStats.getD x.2 0 }) }
    let res := if s.strict then { r0 with sig := s.strictSig, pwrFloor := false } else { r0 with sig := alcSigOf cfg p }
    let prev := if s.ctl.mode = 0 then none else a.prev
    ({ s with alc := { a with res := res, prev := prev } } : State).apply t (if res.pwrFloor && s.ctl.mode == 0 then [.flag Reg.alcStatus 5] else [])
  | some p =>
    if s.strict then
      let (res, clips, sing) := pkAlloc cfg n (p.thr.filter (fun x => x.t ≤ 12)) p.tau s.feedAngles s.thrStats a.res
      let s1 : State := { s with alc := { a with res := { res with sig := s.strictSig } }, pk := { s.pk with clips := clips, singular := sing } }
      if sing then s1.apply t [.flag Reg.cmpStatus 1, .count Reg.cmpCntSingular 1] else s1
    else
      let (res, pv, fx) := alcSolve cfg n a.prev a.lastKind p (guard.getD (p.budget + 1)) s.feedAngles s.thrStats
      ({ s with alc := { a with res := res, prev := pv } } : State).noteSolve.apply t fx

/-- The output set of a result (R15); the logic image enters at the release. -/
def State.setOf (s : State) : OutSet :=
  let r := s.alc.res
  { epoch := s.cyc.number, thrust := r.thr.map (·.thrust), az := r.thr.map (·.az), forces := r.u, tau := s.ctl.tauCmd, logic := [], pkAo := s.cyc.buf.pkAo,
    pkDo := s.cyc.buf.pkDo }

/-- The compared quantities of the cycle (R427), sent by every member with a role. -/
def State.sendCompare (s : State) (t : Nat) : State :=
  if s.grouped then
    let o := s.setOf
    let m : RlCompare :=
      { from_ := s.red.modNum, epoch := s.cyc.number, tau := o.tau, thrust := o.thrust, az := o.az, out := s.cyc.buf, released := s.cyc.released,
        tlim := s.cyc.tlim, iters := s.cyc.iters, crcOk := true }
    (({ s with red := { s.red with own := pushMax 16 m s.red.own }, cyc := { s.cyc with ph := { s.cyc.ph with compared := true } } } : State).emit
      (.rl (.compare m))).judgeAll t m.epoch
  else s

/-- COMPARE and trailer leave once the cycle has released and its lanes have finished (R21, Table 17.2; DEDUCED, log 113). -/
def State.lanesDone (s : State) (t : Nat) : State :=
  if s.cyc.released && !s.cyc.ph.compared && s.alc.groups.all (·.done) then s.sendCompare t else s

/-- OUTPUT_RELEASE (R15, R380): one exchange of the buffer. -/
def State.release (s : State) (t : Nat) (o : OutSet) : State :=
  let (g, passed) := lgcRelease t s.logicDeadline s.lgc
  let s1 : State := { s with
    lgc := g
    cyc := { s.cyc with buf := { o with logic := g.relOut }, released := true, relAt := t, pendingSet := none, tlim := s.cyc.tlim || passed } }
  s1.lanesDone t

/-- SL0's set complete: native sets are released once the logic is ready, at the latest at the deadline; of PK-20 sets only the logic part is, and
internal cycle 0's set is held for phase 120 ms (R19). -/
def State.offer (s : State) (t : Nat) : State :=
  if s.pers == .pk20 then
    let codes := pkCodes s.cfg.active s.alc.res.thr
    let r : PkResult := { cycle := s.pk.cycle, n := s.pk.xN, e := s.pk.xE, psi := s.pk.xPsi, codes := codes }
    let r1 : PkResult := match s.strict, s.fus.sol with
      | false, some x => { r with n := x.nTick, e := x.eTick, psi := bamOf x.psiTick }
      | _, _ => r
    let o : OutSet := { s.setOf with pkAo := if s.strict then pkOutputs s.cfg.active codes else [] }
    let s1 : State := if s.inner = 0 then { s with pk := { s.pk with held := some (o, r1) } } else s
    if lgcReady s1.lgc s1.logicDeadline then s1.release t s1.cyc.buf else { s1 with cyc := { s1.cyc with pendingSet := some s1.cyc.buf } }
  else if s.outDeadline < t then s
  else if lgcReady s.lgc s.logicDeadline then s.release t s.setOf
  else { s with cyc := { s.cyc with pendingSet := some s.setOf } }

/-- Whether SL0 may end at a MONO time (R14): by itself up to its wall-clock deadline, by the deadline from it on; without a problem nothing runs. -/
def State.sl0Ends (s : State) (t : Nat) (guard : Option Nat) : Bool := match guard with
  | none => s.alc.prob.isNone || decide (t ≤ s.sl0Limit)
  | some _ => decide (s.sl0Limit ≤ t)

/-- The end of SL0, at `guard` iterations where the wall clock ended it (R14). -/
def State.sl0End (s : State) (t : Nat) (guard : Option Nat) : State :=
  if !(s.inCycle && s.cyc.ph.alloc && !s.cyc.ph.solved && !s.cyc.ph.deadline && s.sl0Ends t guard) then s else
  let s1 := s.sl0Result guard t
  let r := s1.alc.res
  let s2 : State := { s1 with
    cyc := { s1.cyc with ph := { s1.cyc.ph with solved := true }, iters := s1.cyc.iters.set 0 r.iters, tlim := s1.cyc.tlim || r.tlim }
    chan := { s1.chan with results := { s1.chan.results with alc := pushResult s1.cyc.number (alcResBytes r) s1.chan.results.alc } } }
  (s2.numFill t 0 (alcResBytes r)).offer t

/-! Scenarios (R218 to R222). -/

/-- A group's scenario with its judgement. -/
def State.runGroup (s : State) (p : AlcProb) (lane g : Nat) (guard : Option Nat) (t : Nat) : State :=
  let cfg := s.cfg.active
  let lim := laneLimit cfg p lane
  let (x, f1) := cqSolve cfg (ctlRated cfg) g p lim (guard.getD (lim + 1)) (s.alc.groups.getD g {})
  let (y, f2) := cqJudge cfg g s.lawPms s.cyc.before x
  let s1 : State := { s with
    alc := { s.alc with groups := s.alc.groups.set g y }
    cyc := { s.cyc with iters := s.cyc.iters.modify lane (· + x.iters), tlim := s.cyc.tlim || x.reason == 2 } }
  s1.apply t (f1 ++ f2)

/-- The consequence result of the cycle, once (Table 8.7). -/
def State.pushCq (s : State) : State :=
  let rs := s.chan.results.cq
  if rs.any (fun r => r.1 == s.cyc.number) then s else
  { s with chan := { s.chan with results := { s.chan.results with cq := pushResult s.cyc.number (cqBytes s.cyc.number s.alc) rs } } }

/-- The groups of a lane whose scenario is still to be done. -/
def State.laneOpen (s : State) (lane : Nat) : List Nat := (laneGroups s.cfg.active lane).filter (fun g => !(s.alc.groups.getD g {}).done)

/-- SCENARIO_COMPLETE's effect: a lane has done its groups. -/
def State.laneDone (s : State) (t lane : Nat) : State :=
  match s.inCycle && s.cyc.ph.alloc && !s.cyc.ph.deadline, s.alc.prob, s.laneOpen lane with
  | true, some p, g :: gs =>
    let s1 := (g :: gs).foldl (fun a k => State.runGroup a p lane k none t) s
    let s2 := s1.numFill t lane (cqBytes s1.cyc.number s1.alc)
    if s2.alc.groups.all (·.done) then s2.pushCq.lanesDone t else s2
  | _, _, _ => s

/-- A group that has not started at the output deadline (R219): state GUARD, evaluated with its held margin (R221). -/
def State.guardGroup (t : Nat) (a : State) (k : Nat) : State :=
  let (y, fx) := cqJudge a.cfg.active k a.lawPms a.cyc.before { (a.alc.groups.getD k {}) with state := 4, reason := 2, iters := 0, done := true }
  ({ a with alc := { a.alc with groups := a.alc.groups.set k y }, cyc := { a.cyc with tlim := true } } : State).apply t fx

/-- A lane stopped at the output deadline (R219) with its progress `x`; the groups stopped or not started. Without a problem none has started. -/
def State.laneStop (s : State) (t : Nat) (prob : Option AlcProb) (x : LaneProg) : State × List Nat :=
  let gs := s.laneOpen x.lane
  match prob with
  | none => (gs.foldl (State.guardGroup t) s, gs)
  | some p =>
    let s1 := (gs.take x.groups).foldl (fun a k => State.runGroup a p x.lane k none t) s
    match gs.drop x.groups with
    | [] => (if gs.isEmpty then s1 else s1.numFill t x.lane (cqBytes s1.cyc.number s1.alc), [])
    | g :: rest =>
      let s2 := if x.started then s1.runGroup p x.lane g (some x.iters) t else s1.guardGroup t g
      (rest.foldl (State.guardGroup t) { s2 with cyc := { s2.cyc with tlim := true } }, g :: rest)

/-! The output deadline (R16, R168, R200, R219). -/

/-- Whether a thruster's commands are withheld at the deadline (R200). -/
def State.withheld (s : State) (t : Nat) : Bool :=
  inhThrAt s t || (thrStations s.cfg.active t).any (fun x => stnMissing (s.fld.stations.getD (x - 1) {})) ||
    (decide (thrBus s.cfg.active t < 8) && !(s.alc.secs.getD (thrBus s.cfg.active t) {}).inService)
where
  inhThrAt (s : State) (t : Nat) : Bool := bits (consMasks s.saf 3).thr (t - 1) 1 == 1

/-- τ_sat of the cycle, and the record the observer's later epochs meet (R118, R200). -/
def State.storeTauSat (s : State) (t : Nat) : State :=
  let o := s.cyc.buf
  let v := alcTauSat s.cfg.active (ctlRated s.cfg.active) o.tau o.forces s.withheld
  let at_ := s.vessel (if s.cyc.released then s.cyc.relAt else t)
  { s with alc := { s.alc with tauSat := v }, fus := { s.fus with taus := newRec ⟨at_, v.x, v.y, v.n⟩ s.fus.taus } }

/-- A native cycle without a release at its deadline. -/
def State.missDeadline (s : State) (t : Nat) : State :=
  if s.cyc.released then { s with ctl := { s.ctl with missRun := 0 } }
  else if s.pers == .pk20 then s
  else
    let n := s.ctl.missRun + 1
    ({ s with ctl := { s.ctl with missRun := n } } : State).apply t [.flag Reg.ctlStatus 0, .count Reg.ctlCntDlmiss 1, .event 50 (u32 n)]

/-- Whether the scenarios of a cycle run in this mode (R222). -/
def State.scenarios (s : State) : Bool := s.solves && !s.strict

/-- OUTPUT_DEADLINE's effect, with the lanes' progress. Where SL0 has not started, the groups stand as at its start, and none has run. -/
def State.deadline (s : State) (t : Nat) (prog : List LaneProg) : State :=
  if !(s.inCycle && s.cyc.ph.began && !s.cyc.ph.deadline && decide (s.outDeadline ≤ t)) then s else
  let s0 := match s.cyc.pendingSet with
    | some o => s.release t o
    | none => s
  let s1 := if s0.cyc.ph.alloc then s0 else s0.openGroups (s0.scenarios && s0.ctl.mode != 0) (!(s0.ctl.mode != 0) || s0.strict) t
  let prob := if s1.cyc.ph.alloc then s1.alc.prob else none
  let (s2, gone) := [1, 2, 3].foldl (fun (q : State × List Nat) lane =>
    let (a, g) := q.1.laneStop t prob ((prog.find? (fun (y : LaneProg) => y.lane == lane)).getD ⟨lane, 0, false, 0⟩)
    (a, q.2 ++ g)) (s1, [])
  let s3 := if gone.isEmpty then s2 else
    s2.apply t [.flag Reg.alcStatus 19, .count Reg.alcCntCqguard 1, .event 63 (u16 (bitmap 16 (fun g => gone.contains g)))]
  let s4 : State := { s3.pushCq with cyc := { s3.cyc with ph := { s3.cyc.ph with deadline := true } } }
  let s5 := s4.missDeadline t
  (if s5.cyc.ph.compared then s5 else s5.sendCompare t).storeTauSat t

/-! Commands. -/

/-- CYCLE_TICK (R10). -/
def execCycleTick (t : Nat) (s : State) : Host.Outcome State Fault Refusal := runAt t (fun s => s.cycleTick t) s

/-- FUSION_PHASE_DONE (R107, R109). -/
def execFusionPhaseDone (t : Nat) (s : State) : Host.Outcome State Fault Refusal := runAt t (fun s => s.fusionDone t) s

/-- CONTROL_LAW (R170). -/
def execControlLaw (t : Nat) (s : State) : Host.Outcome State Fault Refusal := runAt t (fun s => s.controlLaw t) s

/-- OSCILLATION_TIMEOUT (R167): the detector's end by time, at the cycle's tick. -/
def execOscillationTimeout (t : Nat) (s : State) : Host.Outcome State Fault Refusal :=
  runAt t (fun s =>
    if !s.inCycle ∨ s.strict then s else
    let r := s.ctl.osc.zipIdx.map (fun x => oscTimeout s.cfg.active s.agreedTick x.2 x.1)
    ({ s with ctl := { s.ctl with osc := r.map (·.1) } } : State).apply t (r.flatMap (·.2))) s

/-- CTL_JOY_TIMEOUT (R152). -/
def execCtlJoyTimeout (t : Nat) (s : State) : Host.Outcome State Fault Refusal :=
  runAt t (fun s =>
    if !s.inCycle then s else
    let (c, fx) := joyTimeoutStep s.cfg.active s.agreedTick s.ctl
    ({ s with ctl := c } : State).apply t fx) s

/-- CTL_TRAVERSE_DONE (R162). -/
def execCtlTraverseDone (t : Nat) (s : State) : Host.Outcome State Fault Refusal :=
  runAt t (fun s =>
    if !s.inCycle then s else
    let (c, fx) := travFinish s.agreedTick s.ctl
    ({ s with ctl := c } : State).apply t fx) s

/-- WIND_HOLD_EXPIRY (R158): the feed-forward of the cycle, formed again from the fading force. -/
def execWindHoldExpiry (t : Nat) (s : State) : Host.Outcome State Fault Refusal :=
  runAt t (fun s =>
    if !s.inCycle ∨ !s.ctl.windLost then s else
    let w := windFade s.ctl s.agreedTick
    { s with ctl := { s.ctl with fw := w, tauFf := windFf s.cfg.active w } }) s

/-- SL0_START (R12). -/
def execSl0Start (t : Nat) (s : State) : Host.Outcome State Fault Refusal := runAt t (fun s => s.sl0Start t) s

/-- SL0_COMPLETE (R193). -/
def execSl0Complete (t : Nat) (s : State) : Host.Outcome State Fault Refusal := runAt t (fun s => s.sl0End t none) s

/-- SL0_DEADLINE (R14): the lane stops at `iters` iterations. -/
def execSl0Deadline (t iters : Nat) (s : State) : Host.Outcome State Fault Refusal := runAt t (fun s => s.sl0End t (some iters)) s

/-- SCENARIO_COMPLETE (R218). -/
def execScenarioComplete (t lane : Nat) (s : State) : Host.Outcome State Fault Refusal := runAt t (fun s => s.laneDone t lane) s

/-- ALC_CONSEQUENCE (R221): alarms whose conditions stand start. -/
def execAlcConsequence (t : Nat) (s : State) : Host.Outcome State Fault Refusal :=
  runAt t (fun s =>
    let r := s.alc.groups.zipIdx.map (fun x => if s.inCycle && x.1.done && 2 ≤ x.1.state then cqAlarmStart s.cfg.active x.2 x.1 else (x.1, []))
    ({ s with alc := { s.alc with groups := r.map (·.1) } } : State).apply t (r.flatMap (·.2))) s

/-- CONSEQUENCE_CLEAR (R221): alarms whose clear time has run end. -/
def execConsequenceClear (t : Nat) (s : State) : Host.Outcome State Fault Refusal :=
  runAt t (fun s =>
    let r := s.alc.groups.zipIdx.map (fun x => if s.inCycle && x.1.done && 2 ≤ x.1.state then cqAlarmEnd s.cfg.active x.2 x.1 else (x.1, []))
    ({ s with alc := { s.alc with groups := r.map (·.1) } } : State).apply t (r.flatMap (·.2))) s

/-- OUTPUT_DEADLINE (R16). -/
def execOutputDeadline (t : Nat) (prog : List LaneProg) (s : State) : Host.Outcome State Fault Refusal := runAt t (fun s => s.deadline t prog) s

/-- BUS_SECTION_RETURN (R212): at a cycle tick, before its phases. -/
def execBusSectionReturn (t : Nat) (s : State) : Host.Outcome State Fault Refusal :=
  runAt t (fun s => if s.inCycle && s.cyc.tick == t then s.sectionReturns t else s) s

end Sys2Proof.Machine
end

