-- ==== Sys2Proof/Machine/Clocks.lean ====
section
/-! DEFINITION. The Clock and Power Manager: references, domains, operating points, loss of lock (R479 to R485). -/

namespace Sys2Proof.Machine

/-! The main reference (R479). -/

/-- CLK_STATUS bits. -/
def clkRefsw : Nat := 0
def clkLocklost : Nat := 1
def clkThermal : Nat := 2
def clkSavefail : Nat := 3

/-- The reference changes, for cause 0 failure, 1 external lost, 2 external regained. -/
def State.setRef (s : State) (t : Nat) (new : MainRef) (cause : Nat) : State :=
  let old := s.clk.ref
  if new = old then s else
  let tim := if old = .rc then timRcEnd (s.timIn t) s.tim else s.tim
  let s1 : State := { s with
    tim := tim
    clk := { s.clk with ref := new, rcSince := if new = .rc then t else s.clk.rcSince } }
  s1.apply t [.flag Reg.clkStatus clkRefsw, .count Reg.clkCntRefsw 1, .event 0 [byteOf (refCode old), byteOf (refCode new), byteOf cause]]

/-- The reference taken where the oven has failed. -/
def Clk.spare (c : Clk) : MainRef := if c.extsel && c.extValid then .ext else .rc

/-- The oven fails or the external input is lost. -/
def State.refLost (s : State) (t : Nat) (why : RefWhy) : State :=
  match why with
  | .ovenFailed =>
    let s1 : State := { s with clk := { s.clk with ovenFailed := true } }
    if s1.clk.ref = .oven then s1.setRef t s1.clk.spare 0 else s1
  | .extLost =>
    let s1 : State := { s with clk := { s.clk with extValid := false } }
    if s1.clk.ref = .ext then s1.setRef t (if s1.clk.ovenFailed then .rc else .oven) 1 else s1

/-- The external input has been valid again for 10 s. -/
def State.extBack (s : State) (t : Nat) : State :=
  let s1 : State := { s with clk := { s.clk with extValid := true } }
  if s1.clk.extsel then s1.setRef t .ext 2 else s1

/-! Domains (R482 to R485). -/

/-- The frequency of a domain in kHz at an operating point (Tables 20.2, 20.3). -/
def opKhz (op d : Nat) : Nat := match d with
  | 0 => if op = 0 then 200000 else if op = 1 then 500000 else 1000000
  | 1 => if op = 0 then 200000 else if op = 1 then 500000 else 800000
  | 2 => 65472
  | 3 => 125000
  | 4 => 20480
  | _ => 50000

/-- A domain on one of its sources; both PLLs of a running domain are locked. -/
def domOn (op d src : Nat) : Domain := { src := src, lock := true, khz := opKhz op d, pllA := true, pllB := decide (d < 2) }

/-- A domain with its clock stopped. -/
def domOff : Domain := {}

def State.setDom (s : State) (d : Nat) (x : Domain) : State := { s with clk := { s.clk with domains := s.clk.domains.set d x } }

def State.dom (s : State) (d : Nat) : Domain := s.clk.domains.getD d {}

/-- Source switches counted (R484). -/
def State.switched (s : State) (n : Nat) : State := s.plainFx (.count Reg.clkCntSrcsw n)

/-- The idle PLL of CMD or NUM. -/
def idlePll (x : Domain) : Nat := if x.src = 2 then 3 else 2

/-- CMD and NUM switch to their idle PLLs at an operating point; a stopped domain stays stopped. -/
def State.toPoint (s : State) (op : Nat) : State :=
  let go := fun (s : State) (d : Nat) => if (s.dom d).src = 0 then s else (s.setDom d (domOn op d (idlePll (s.dom d)))).switched 1
  let s1 := [0, 1].foldl go s
  { s1 with clk := { s1.clk with op := op } }

/-- A change of operating point is complete. -/
def State.opDone (s : State) (t old : Nat) : State :=
  let s1 : State := { s with clk := { s.clk with opFrom := none } }
  s1.apply t [.count Reg.clkCntOpchg 1, .event 2 ([byteOf old, byteOf s.clk.op, byteOf s.clk.opCause, 0] ++ s16 s.clk.dieTemp)]

/-- Whether a change of operating point may begin: after the mirror-complete offset of a cycle, or while no cycle runs. -/
def State.opMayBegin (s : State) (t : Nat) : Bool := !s.inCycle || decide (s.phaseAt 95 ≤ t)

/-- One step of a change of operating point (R482). -/
def State.opStep (s : State) (t : Nat) : State :=
  let c := s.clk
  if c.op = c.opTarget then s
  else if c.opFrom.isNone && !s.opMayBegin t then s
  else
    let old := c.opFrom.getD c.op
    let s1 := s.toPoint (if c.op < c.opTarget then c.op + 1 else c.op - 1)
    let s2 : State := { s1 with clk := { s1.clk with opFrom := some old } }
    if s2.clk.op = s2.clk.opTarget then s2.opDone t old else s2

/-- Step-down begins (R483). -/
def State.stepDown (s : State) (t : Nat) (die : Int) : State :=
  let s1 : State := { s with clk := { s.clk with dieTemp := die } }
  if 105 * 256 < die ∧ !s1.clk.throttle then
    State.apply { s1 with
      clk := { s1.clk with throttle := true, throttleAt := t, opTarget := if s1.clk.phase = .standby then 0 else 1, opCause := 1 } }
      t [.flag Reg.clkStatus clkThermal, .count Reg.clkCntThrottle 1]
  else s1

/-- The die has stayed below 95 °C for 60 s (R483). -/
def State.stepUp (s : State) (t : Nat) (die : Int) : State :=
  let s1 : State := { s with clk := { s.clk with dieTemp := die } }
  if die < 95 * 256 ∧ s1.clk.throttle ∧ s1.clk.throttleAt + 60000000000 ≤ t then
    { s1 with clk := { s1.clk with throttle := false, opTarget := if s1.clk.phase = .standby then 0 else 2, opCause := 1 } }
  else s1

/-- The inputs report signal fault while the AIO clock is stopped (R485). -/
def aioLost (cfg : Mem) (a : Aio) : Aio × List Fx :=
  let go := fun (q : Aio × List Fx) (ch : Nat) =>
    let c := q.1.chans.getD ch {}
    if !aioActive cfg q.1 ch then q else
    let o := { c.new with sig := true }
    ({ q.1 with chans := q.1.chans.set ch { c with new := o } }, q.2 ++ aioFaultFx (64 + ch) ch c.new.sig true o)
  (List.range 40).foldl go (a, [])

/-- What the units of a stopped domain lose (R485). -/
def State.domainLost (s : State) (t d : Nat) : State :=
  let cfg := s.cfg.active
  match d with
  | 2 =>
    let all := (List.range 2).flatMap (fun a => (List.range 24).map (fun k => (a, k)))
    { s with gns := all.foldl (fun g p => gnsLose p.1 p.2 g) s.gns }
  | 3 =>
    let (f1, e1) := fldLink cfg false false s.fld
    let (f2, e2) := fldLink cfg true false f1
    ({ s with fld := f2, red := { s.red with noLink := match s.red.noLink with
      | some x => some x
      | none => some t } } : State).apply t (e1 ++ e2)
  | 4 =>
    let (a, e) := aioLost cfg s.aio
    ({ s with aio := a } : State).apply t e
  | _ => s

/-- A PLL's lock flag. -/
def Domain.setLock (x : Domain) (pllB v : Bool) : Domain := if pllB then { x with pllB := v } else { x with pllA := v }

def Domain.locked (x : Domain) (pllB : Bool) : Bool := if pllB then x.pllB else x.pllA

/-- A PLL loses lock (R485). -/
def State.lockLost (s : State) (t d : Nat) (pllB : Bool) : State :=
  let x := s.dom d
  if 5 ≤ d ∨ x.locked pllB = false then s else
  let y := x.setLock pllB false
  let s1 := (s.setDom d y).apply t [.flag Reg.clkStatus clkLocklost, .count Reg.clkCntLocklost 1, .event 1 [byteOf d, 1]]
  if x.src ≠ (if pllB then 3 else 2) then s1
  else if d < 2 then
    if y.locked (!pllB) then (s1.setDom d { y with src := if pllB then 2 else 3 }).switched 1
    else (s1.setDom d { y with src := 1, khz := 25000 }).switched 1
  else (s1.setDom d domOff).domainLost t d

/-- A try to relock a PLL (R485). CMD and NUM leave the bypass at the next change of operating point (R484). -/
def State.relock (s : State) (t d : Nat) (pllB ok : Bool) : State :=
  let x := s.dom d
  if 5 ≤ d ∨ x.locked pllB ∨ !ok then s
  else if d < 2 then
    if x.src = 0 then s else (s.setDom d (x.setLock pllB true)).apply t [.event 1 [byteOf d, 0]]
  else
    let s1 := (s.setDom d (domOn s.clk.op d 2)).apply t [.event 1 [byteOf d, 0]]
    if d = 4 then
      let (a, e) := aioRestart s1.aio (((List.range 5).filter (aioRun s1.cfg.active)).flatMap groupChans)
      ({ s1 with aio := a } : State).apply t e
    else s1

/-- The oven's band (R480): its temperature error in mK. -/
def State.ovenTemp (s : State) (t : Nat) (terr : Int) : State :=
  let inBand := decide (terr.natAbs ≤ 100)
  let since : Option Int := if inBand then (match s.clk.inBandSince with
    | some x => some x
    | none => some (t : Int)) else none
  let warm : Bool := match since with
    | some x => decide (x + 60000000000 ≤ t)
    | none => false
  let s1 : State := { s with clk := { s.clk with ovenErr := terr, inBandSince := since, warm := warm } }
  if warm = s.clk.warm then s1 else s1.apply t [.event 3 [byteOf (b2n warm)]]

/-- The RC's frequency after a trim (R479). -/
def State.trimRc (s : State) (khz : Nat) : State :=
  if s.clk.ref ≠ .rc ∨ khz < 24999 ∨ 25001 < khz then s else
  { s with clk := { s.clk with domains := s.clk.domains.map (fun x => if x.src = 1 then { x with khz := khz } else x) } }

/-- Every domain on its PLL at OP2, at the end of a start or a wake. -/
def State.domainsUp (s : State) (t cause : Nat) : State :=
  let old := s.clk.op
  let n := ([0, 1].filter (fun d => (s.dom d).src != 0)).length
  let s1 : State := { s with
    clk := { s.clk with
      domains := (List.range 6).map (fun d => if d = 5 then { domOn 2 5 1 with pllA := false } else domOn 2 d 2)
      op := 2, opTarget := if s.clk.throttle then 1 else 2, opCause := cause, opFrom := none } }
  let s2 := s1.switched n
  if old = 2 then s2 else s2.opDone t old

/-! Commands. -/

/-- CLK_REFERENCE (R479). -/
def execClkReference (t : Nat) (why : RefWhy) (s : State) : Host.Outcome State Fault Refusal := runAt t (fun s => s.refLost t why) s

/-- EXT_REFERENCE_RETURN (R479). -/
def execExtReferenceReturn (t : Nat) (s : State) : Host.Outcome State Fault Refusal := runAt t (fun s => s.extBack t) s

/-- RC_TRIM (R479). -/
def execRcTrim (t khz : Nat) (s : State) : Host.Outcome State Fault Refusal := runAt t (fun s => s.trimRc khz) s

/-- CLK_OSC_WARM (R480). -/
def execClkOscWarm (t : Nat) (terr : Int) (s : State) : Host.Outcome State Fault Refusal := runAt t (fun s => s.ovenTemp t terr) s

/-- OPPOINT_STEP (R482). -/
def execOppointStep (t : Nat) (s : State) : Host.Outcome State Fault Refusal := runAt t (fun s => s.opStep t) s

/-- THERMAL_STEPDOWN (R483): the die temperature in s8.8 °C. -/
def execThermalStepdown (t : Nat) (die : Int) (s : State) : Host.Outcome State Fault Refusal := runAt t (fun s => s.stepDown t die) s

/-- THERMAL_RECOVERY (R483). -/
def execThermalRecovery (t : Nat) (die : Int) (s : State) : Host.Outcome State Fault Refusal := runAt t (fun s => s.stepUp t die) s

/-- CLK_LOCK (R485). -/
def execClkLock (t domain : Nat) (pllB : Bool) (s : State) : Host.Outcome State Fault Refusal := runAt t (fun s => s.lockLost t domain pllB) s

/-- PLL_RELOCK (R485). -/
def execPllRelock (t domain : Nat) (pllB ok : Bool) (s : State) : Host.Outcome State Fault Refusal := runAt t (fun s => s.relock t domain pllB ok) s

end Sys2Proof.Machine
end

