-- ==== Sys2Proof/Machine/Ecdsa.lean ====
section
/-! DEFINITION. ECDSA on P-256 over SHA-256, as the firmware image's signature asks (Table 22.2, R523). -/

namespace Sys2Proof.Machine

/-! The curve of SEC 2: y² = x³ − 3x + b over the field of `p256p`, base point of order `p256n`. -/

def p256p : Nat := 0xffffffff00000001000000000000000000000000ffffffffffffffffffffffff
def p256n : Nat := 0xffffffff00000000ffffffffffffffffbce6faada7179e84f3b9cac2fc632551
def p256b : Nat := 0x5ac635d8aa3a93e7b3ebbd55769886bc651d06b0cc53b0f63bce3c3e27d2604b
def p256gx : Nat := 0x6b17d1f2e12c4247f8bce6e563a440f277037d812deb33a0f4a13945d898c296
def p256gy : Nat := 0x4fe342e2fe1a7f9b8ee7eb4a7c0f9e162bce33576b315ececbb6406837bf51f5

/-- base ^ e mod m over the low `fuel` bits of the exponent. -/
def powMod (m : Nat) : Nat → Nat → Nat → Nat
  | 0, _, _ => 1 % m
  | fuel + 1, base, e =>
    let r := powMod m fuel (base * base % m) (e / 2)
    if e % 2 = 1 then r * base % m else r

/-- Inverse modulo a prime below 2^256. -/
def invMod (m a : Nat) : Nat := powMod m 256 (a % m) (m - 2)

def subMod (m a b : Nat) : Nat := (a % m + (m - b % m)) % m

/-- A point: none is the point at infinity. -/
abbrev EcPoint := Option (Nat × Nat)

/-- Sum of two points. -/
def ecAdd (x y : EcPoint) : EcPoint := match x, y with
  | none, q => q
  | p, none => p
  | some (x1, y1), some (x2, y2) =>
    let p := p256p
    if x1 = x2 ∧ (y1 + y2) % p = 0 then none else
    let l := if x1 = x2 then subMod p (3 * x1 * x1) 3 * invMod p (2 * y1) % p else subMod p y2 y1 * invMod p (subMod p x2 x1) % p
    let x3 := subMod p (l * l) (x1 + x2)
    some (x3, subMod p (l * subMod p x1 x3) y1)

/-- k times a point, over the low `fuel` bits of `k`. -/
def ecMul : Nat → Nat → EcPoint → EcPoint
  | 0, _, _ => none
  | fuel + 1, k, q =>
    let r := ecMul fuel (k / 2) (ecAdd q q)
    if k % 2 = 1 then ecAdd q r else r

/-- A point on the curve. -/
def onCurve (x y : Nat) : Bool := decide (x < p256p) && decide (y < p256p) && y * y % p256p == subMod p256p (x * x * x + p256b) (3 * x)

/-- Whether (r, s) signs a message for a public key. -/
def ecdsaOk (key : Nat × Nat) (msg : List Byte) (r s : Nat) : Bool :=
  if r = 0 ∨ s = 0 ∨ p256n ≤ r ∨ p256n ≤ s ∨ !onCurve key.1 key.2 then false else
  let e := beNat (sha256 msg)
  let w := invMod p256n s
  match ecAdd (ecMul 256 (e * w % p256n) (some (p256gx, p256gy))) (ecMul 256 (r * w % p256n) (some key)) with
  | none => false
  | some (x, _) => x % p256n == r

end Sys2Proof.Machine
end

