-- ==== Sys2Proof/Machine/Seal.lean ====
section
/-! DEFINITION. The seal of a cycle, its replies, SEAL_FAULT, the mirror, and what follows a last seal: moored standby, the save (R23, R24, R41, R42, R60, R488, R491). -/

namespace Sys2Proof.Machine

/-! Fatal flags. -/

/-- A fatal flag of Table 17.4 (R431, R436): outside a group the module makes a warm restart (Table 20.5). -/
def State.fatal (s : State) (t bit : Nat) : State :=
  let s1 : State := { s with red := { s.red with flags := setBits s.red.flags bit 1 1 } }
  if s1.red.size = 0 then { s1 with clk := { s1.clk with resetDue := some { warm := true, due := t, cause := 2 } } }
  else
    let s2 : State := { s1 with red := { s1.red with faulted := true, join := false, giveUp := s1.red.token, cause := 3 } }
    if s2.red.token then s2 else s2.roleTo t .none 3

/-! What reset, standby and takeover discard (R60). -/

/-- The opcodes that go through a configuration transaction. -/
def txnOps : List Nat := [0x23, 0x59, 0xC0, 0xC1, 0x60, 0x61, 0x62]

/-- Open transactions and the commits that wait for their tick are discarded, with the tags of their requests. -/
def State.discardTxns (s : State) : State :=
  let gone := (s.cyc.bnds.filter (fun b => txnOps.contains b.op)).map (fun b => b.id)
  { s with
    cfg := { s.cfg with txns := [] }
    cyc := { s.cyc with bnds := s.cyc.bnds.filter (fun b => !txnOps.contains b.op) }
    chan := { s.chan with opens := s.chan.opens.filter (fun o => !gone.contains o.id) } }

/-- What a module that was Active leaves behind (R60): open transactions, and every host action and reply that no mirrored epoch holds, with the tags of their requests. -/
def State.dropActions (s : State) : State :=
  let gone := s.cyc.bnds.map (fun b => b.id) ++ s.cyc.done.map (fun b => b.id) ++ s.cyc.toSend.map (fun r => r.id)
  { s with
    cfg := { s.cfg with txns := [] }
    cyc := { s.cyc with bnds := [], toSend := [] }
    chan := { s.chan with opens := s.chan.opens.filter (fun o => !gone.contains o.id) } }

/-! Replies of a seal (R41, R42). -/

/-- What a host action's final reply carries. -/
def State.answerData (s : State) (a : Answer) : List Byte :=
  if a.status ≠ st.ok then a.payload
  else if a.act.op = 0x51 then u32 s.alc.res.sig ++ u32 0
  else if a.act.op = 0x53 then s.alc.secs.flatMap (fun x => u32 (budgetWord x.budget))
  else a.payload

/-- The packets of a host action's final reply. -/
def State.actionParts (s : State) (a : Answer) : List (List Byte) :=
  replyParts (if a.act.auth then some (authKey s.cfg.active) else none) a.act.op a.act.tag a.act.seq a.status (s.answerData a)

/-- The hosts with the replies of this cycle's host actions. -/
def State.hostsWith (s : State) (hs : List HostRec) : List HostRec :=
  s.cyc.answers.foldl (fun hs a =>
    if a.act.pk.isSome then hs else
    hs.map (fun h => if h.ident = a.act.ident then { h with tickReplies := pushMax 64 ⟨a.act.seq, s.actionParts a⟩ h.tickReplies } else h)) hs

/-- "FF" and the refusal of a PK-20 frame, with its code and the reason (R470). -/
def pkNak (code reason : Nat) : List Byte := ascii ['F', 'F'] ++ hex2 code ++ ascii [','] ++ decimal reason

/-- The replies of the cycle: those of hosts, and those of PK-20 set frames. -/
def State.sealReplies (s : State) : List SealedReply :=
  s.cyc.answers.map (fun a =>
    if a.act.pk.isSome then
      let code := match s.pk.waits.find? (fun w => w.id == a.act.id) with
        | some w => w.code
        | none => 0
      { id := a.act.id, parts := [if a.status = st.ok then [] else pkNak code 3] }
    else { id := a.act.id, parts := s.actionParts a })

/-- Whether packets carry OK as their status. -/
def partsOk (parts : List (List Byte)) : Bool := match parts with
  | p :: _ => getU8 p 12 == st.ok
  | [] => false

/-- A PK-20 frame as it is sent (Table 19.3): STX, address, function code and data, ETX, BCC. -/
def pkFrame (station : Nat) (body : List Byte) : List Byte :=
  let inner := byteOf station :: body ++ [0x03#8]
  [0x02#8] ++ inner ++ [byteOf (xorAll inner)]

/-- A PK-20 reply on its path. -/
def State.pkSend (s : State) (src : PkSrc) (bs : List Byte) : State := s.emit (.pk20 src bs)

/-- One reply of a seal goes out. -/
def State.sendSealed (t : Nat) (s : State) (r : SealedReply) : State :=
  match s.opn? r.id with
  | some o =>
    let s1 := s.answerParts o r.parts
    if o.op = 0x08 ∧ partsOk r.parts then
      { s1 with clk := { s1.clk with resetDue := some { warm := false, due := t + 100000000, cause := 1 } } }
    else s1
  | none =>
    match s.pk.waits.find? (fun w => w.id == r.id) with
    | some w =>
      let bs := r.parts.flatten
      let s1 : State := { s with pk := { s.pk with waits := s.pk.waits.filter (fun x => x.id != w.id) } }
      let s2 := if bs.isEmpty then s1.plainFx (.count Reg.cmpCntFrames 1) else s1.plainFx (.count Reg.cmpCntNak 1)
      s2.pkSend w.src (pkFrame (cmpStation s.cfg.active) (if bs.isEmpty then hex2 w.code else bs))
    | none => s

/-- The replies of sealed epochs go out. -/
def State.flushReplies (s : State) (t : Nat) : State :=
  let rs := s.cyc.toSend
  rs.foldl (State.sendSealed t) { s with cyc := { s.cyc with toSend := [] } }

/-! The sealed epoch (Table 1.5). -/

/-- The hosts a seal carries: the Active's own; for another member those of the epoch before. -/
def State.sealHosts (s : State) : List HostRec :=
  s.hostsWith (if s.active then s.chan.hosts else match s.cyc.last with
    | some e => e.hosts
    | none => [])

/-- The sealed epoch of the cycle. -/
def State.sealOf (s : State) (t : Nat) (hosts : List HostRec) : Sealed :=
  { number := s.cyc.number, tick := s.cyc.tick, tickV := s.cyc.tickV, ofs := s.cyc.ofs, crcOk := true, sealAt := t, cfgHash := s.cfg.hash, pers := s.pers, profile := s.profile,
    tlim := s.cyc.tlim, iters := s.cyc.iters, fus := s.fus, ctl := s.ctl, alc := s.alc, srv := s.srv, lgc := s.lgc, tim := s.tim, errs := [1, 2, 3].map (timErr (s.timIn t) s.tim), out := s.cyc.buf,
    released := s.cyc.released, record := s.recordOf, hosts := hosts, pk := s.pk, cmdEpoch := s.fld.cmdEpoch, fld := s.fld, cnt := s.chan.cnt, cfg := s.cfg.active,
    hashEpoch := s.cfg.hashEpoch, evtActive := s.evt.conds, regs := s.regs }

/-- The first seal of a firmware image on trial makes it VALID (R524). -/
def State.trialGood (s : State) : State :=
  match s.fw.trialDeadline with
  | none => s
  | some _ =>
    let f := s.fw
    let good := fun (i : Img) => { i with state := ImgState.valid }
    { s with fw := { f with trialDeadline := none, imgA := if f.runB then f.imgA else good f.imgA, imgB := if f.runB then good f.imgB else f.imgB } }

/-! Moored standby (R491). -/

/-- Bytes 1 and 4 to 7 of PWR_STATE: the start kind and ms since the cause. -/
def State.pwrDetail (s : State) (code ns : Nat) : List Byte := [byteOf code, byteOf (startCode s.clk.start), 0, 0] ++ u32 (satN 32 (ns / 1000000))

/-- The antenna supplies go off. -/
def supplyOff (g : Gns) : Gns × List Fx :=
  let go := fun (q : List GnsInput × List Fx) (a : Nat) =>
    let i := q.1.getD a {}
    if i.supply = 0 then q else
    (q.1.set a { i with supply := 0, ma := 0, atLimit := none, tripped := false }, q.2 ++ [Fx.event 24 (gnsSupplyDetail a i.supply 0 0)])
  let (is, fx) := [0, 1].foldl go (g.inputs, [])
  ({ g with inputs := is }, fx)

/-- Entry to moored standby at the seal of the effective cycle. -/
def State.enterStandby (s : State) (t : Nat) : State :=
  let s1 := ((s.tokenOff).roleTo t .none 0).discardTxns
  let (g1, f1) := gnsSleep s1.gns
  let (g2, f2) := supplyOff g1
  let (tm, f3) := timSleep (s1.timIn t) s1.tim
  let old := s1.clk.op
  let s2 := ({ s1 with gns := g2, tim := tm } : State).apply t (f1 ++ f2 ++ f3)
  let doms := s2.clk.domains.zipIdx.map (fun x =>
    if x.2 = 0 then domOn 0 0 (idlePll x.1) else if x.2 = 1 ∨ x.2 = 2 ∨ x.2 = 4 then domOff else x.1)
  let s3 : State := { s2 with
    clk := { s2.clk with
      phase := .standby, domains := doms, op := 0, opTarget := 0, opCause := 2, opFrom := none, enterReq := none, enterDue := false,
      firstTick := false, sleepMono := t, dpReady := false }
    cyc := { s2.cyc with halt := true }
    aio := { s2.aio with running := false, runs := [], drven := false }
    fld := { s2.fld with linkA := false, linkB := false, running := false } }
  let s4 := if old = 0 then s3 else (s3.switched 1).opDone t old
  let s5 := s4.apply t [.count Reg.clkCntStandby 1, .event 4 (s4.pwrDetail 2 (t - s4.cyc.tick))]
  match s.clk.enterReq with
  | some id => s5.answer id st.ok (u64 s5.cyc.number)
  | none => s5

/-! The save of the last epoch (R488). -/

/-- At the last seal after ride-through the token driver goes off and the save begins. -/
def State.beginSave (s : State) : State :=
  let s1 := s.tokenOff
  { s1 with clk := { s1.clk with phase := .saving }, cyc := { s1.cyc with halt := true } }

/-! The commands. -/

/-- What the Active sends of a sealed epoch. -/
def State.sealMsg (s : State) (e : Sealed) : RlSeal :=
  { from_ := s.red.modNum, epoch := e.number, tick := e.tick, tickV := e.tickV, srv := e.srv, out := e.out, released := e.released, differ := [],
    sealOk := true, gap := false, crcOk := true }

/-- Whether the cycle can be sealed at a MONO time: from the seal offset until 0.5 ms after it (R24). -/
def State.sealDue (s : State) (t : Nat) : Bool :=
  s.inCycle && s.cyc.ph.deadline && !s.cyc.ph.sealed && !s.cyc.unsealed && decide (s.phaseAt 85 ≤ t) && decide (t ≤ s.phaseAt 85 + 500000)

/-- The newest sealed epoch that passes R25 once `e` is sealed: its CRC checks and its number follows that of the sealed epoch before it. -/
def goodEpoch (last good : Option Sealed) (e : Sealed) : Option Sealed :=
  let next : Bool := match last with
    | some p => e.number == p.number + 1
    | none => true
  if e.crcOk && next then some e else good

/-- EPOCH_SEAL's effect. -/
def State.sealCycle (s0 : State) (t : Nat) : State :=
  if !s0.sealDue t then s0 else
  let hosts := s0.sealHosts
  let e := s0.sealOf t hosts
  let good := goodEpoch s0.cyc.last s0.cyc.good e
  let s1 : State := { s0 with
    cyc := { s0.cyc with ph := { s0.cyc.ph with sealed := true }, last := some e, good := good, toSend := if s0.active then s0.cyc.toSend ++ s0.sealReplies else s0.cyc.toSend }
    chan := if s0.active then { s0.chan with hosts := hosts } else s0.chan
    red := if s0.active then { s0.red with base := good, held := e.number, announced := e.number } else s0.red }
  let s2 := s1.trialGood
  let s3 := if s2.red.size = 0 then s2.flushReplies t else if s2.red.role = .active then s2.emit (.rl (.sealed (s2.sealMsg e))) else s2
  if s3.clk.phase = .ending then s3.beginSave
  else if s3.clk.enterDue then s3.enterStandby t
  else s3

/-- SEAL_FAULT's effect (R24): no seal 0.5 ms after its offset. -/
def State.sealMissed (s : State) (t : Nat) : State :=
  if !(s.inCycle && s.cyc.ph.began && !s.cyc.ph.sealed && !s.cyc.unsealed && decide (s.phaseAt 85 + 500000 ≤ t)) then s else
  let s1 := ({ s with cyc := { s.cyc with unsealed := true } } : State).apply t [.event 12 (u64 s.cyc.number)]
  let s2 := s1.fatal t 3
  if s2.clk.phase = .ending then s2.beginSave else s2

/-- MIRROR_COMPLETE's effect (R41): the replies of the epochs sealed so far go out; a handover accepted by then may begin at the next tick (R438). -/
def State.mirrorDone (s : State) (t : Nat) : State :=
  if !(s.red.size != 0 && s.red.role == .active && s.cyc.ph.sealed && !s.cyc.ph.mirrored) then s else
  let armed := s.red.handover.map (fun h => if h.origin = s.red.modNum ∧ h.result = none ∧ h.epoch ≤ s.cyc.number then { h with armed := true } else h)
  ({ s with cyc := { s.cyc with ph := { s.cyc.ph with mirrored := true } }, red := { s.red with handover := armed } } : State).flushReplies t

/-- EPOCH_SEAL (R23, R41, R42). -/
def execEpochSeal (t : Nat) (s : State) : Host.Outcome State Fault Refusal := runAt t (fun s => s.sealCycle t) s

/-- SEAL_FAULT (R24). -/
def execSealFault (t : Nat) (s : State) : Host.Outcome State Fault Refusal := runAt t (fun s => s.sealMissed t) s

/-- MIRROR_COMPLETE (R41). -/
def execMirrorComplete (t : Nat) (s : State) : Host.Outcome State Fault Refusal := runAt t (fun s => s.mirrorDone t) s

end Sys2Proof.Machine
end

