-- ==== Sys2Proof/Machine/Tick.lean ====
section
/-! DEFINITION. The millisecond tick: output latch, servo pass, Chain frame, analogue and digital outputs, token toggle, steps of GNSS and NET (R10, R18, R27, R210, R239, R327, R361, R420). -/

namespace Sys2Proof.Machine

/-- Samples of the module's links join those not yet taken in (R86). -/
def State.samplesIn (s : State) (xs : List RawSample) : State :=
  if xs.isEmpty ∨ s.blockDown 12 then s else { s with fus := { s.fus with rx := s.fus.rx ++ xs } }

/-! Bus sections (R210, R211). -/

def busLostDi (cfg : Mem) (k : Nat) : Nat := cfgU8 cfg 0x0A11 (16 * k + 2)
def busLostStn (cfg : Mem) (k : Nat) : Nat := cfgU8 cfg 0x0A11 (16 * k + 4)

/-- LOST_DI asserted, at its polarity. -/
def State.lostDi (s : State) (k : Nat) : Bool :=
  let n := busLostDi s.cfg.active k
  decide (1 ≤ n ∧ n ≤ 32) && (bits (diFiltered s.aio) (n - 1) 1 == 1) != (bits (cfgU8 s.cfg.active 0x0A11 (16 * k + 3)) 0 1 == 1)

/-- The input area of a station, as drained. -/
def State.stnInput (s : State) (t x : Nat) : List Byte := (colSettle t s.fld.col).out.getD (x - 1) []

/-- LOST_BIT set in the input process data of LOST_STN. -/
def State.lostChain (s : State) (t k : Nat) : Bool :=
  let x := busLostStn s.cfg.active k
  let b := cfgU16 s.cfg.active 0x0A11 (16 * k + 6)
  decide (1 ≤ x ∧ x ≤ 64) && bits (getU8 (s.stnInput t x) (b / 8)) (b % 8) 1 == 1

/-- Index of a millisecond tick in its cycle. -/
def State.msIndex (s : State) (t : Nat) : Nat := (t - s.cyc.tick + 500000) / 1000000

/-- The signals of every section at a tick; a Standby or Backup takes them from the record alone (R213). -/
def State.secTick (s : State) (t : Nat) : State :=
  if s.follows then s else
  let r := s.alc.secs.zipIdx.map (fun x => secSignals x.2 (s.msAhead t) (s.msIndex t) (s.lostDi x.2) (s.lostChain t x.2) x.1)
  ({ s with alc := { s.alc with secs := r.map (·.1) } } : State).apply t (r.flatMap (·.2))

/-- Thrusters whose section was out of service before this tick: their commands are thrust 0 and the azimuth at feedback. -/
def State.maskedThr (s : State) : Nat :=
  bitmap 24 (fun k => decide (thrBus s.cfg.active (k + 1) < 8) && !(s.alc.secs.getD (thrBus s.cfg.active (k + 1)) {}).inService)

/-! The output latch (R18). -/

/-- The buffer current at the tick; a release of the same instant takes effect at the following tick. -/
def State.latchTick (s : State) (t : Nat) : State :=
  if s.cyc.relAt = t ∧ t ≠ 0 then s else { s with cyc := { s.cyc with latched := s.cyc.buf } }

/-! The servo pass (R239). -/

/-- The feedback of a source that a record outside its encoding names, or that does not exist: unpredictable (R247, log 121). -/
def fbFree (t n : Nat) : FbIn := { fb := some (signed 32 (Config.freeNat 121 [(n : Int), 2, (t : Int)] % 2 ^ 32)), fault := Config.freeNat 121 [(n : Int), 3, (t : Int)] % 2 == 1 }

/-- The feedback of a loop at a tick. -/
def State.fbIn (s : State) (t n : Nat) : FbIn :=
  let cfg := s.cfg.active
  let idx := srvU8 cfg n 3
  let ofs := srvU16 cfg n 4
  match srvU8 cfg n 2 with
  | 0 =>
    if idx = 0 ∨ 64 < idx ∨ fldInLen cfg idx < ofs + 4 then fbFree t n
    else if stnMissing (s.fld.stations.getD (idx - 1) {}) then { fb := none, fault := false }
    else { fb := some (signed 32 (getU32 (s.stnInput t idx) ofs)), fault := false }
  | 1 => if idx = 0 ∨ 8 < idx then fbFree t n else let (w, f) := aioFeedback cfg s.aio t (32 + idx - 1); { fb := some (signed 32 w), fault := f }
  | 2 => if idx = 0 ∨ 32 < idx then fbFree t n else let (w, f) := aioFeedback cfg s.aio t (idx - 1); { fb := some (signed 32 w), fault := f }
  | _ => fbFree t n

/-- One loop's tick: the loop and its effects. -/
def State.loopTick (s : State) (t masked n : Nat) : Loop × List Fx :=
  let x := s.srv.loops.getD n {}
  let k := srvThruster n - 1
  let lost := bits masked k 1 == 1
  let i := s.fbIn t n
  let here := match i.fb with
    | some f => if srvAngle n then bamOf f else 0
    | none => bamOf x.fb
  srvTick s.cfg.active t n (s.srvStop n) (if lost then 0 else s.cyc.latched.thrust.getD k 0) (if lost then here else s.cyc.latched.az.getD k 0) i x

/-- SRV_COLOVR bits of the loops whose slot overran. -/
def srvColFx (n : Nat) : List Fx := [.flag (if n < 32 then Reg.srvColovr0 else Reg.srvColovr1) (n % 32), .event 14 []]

/-- The 48 results enter the servo collector. -/
def State.srvFill (s : State) (t : Nat) : State :=
  (List.range 48).foldl (fun (a : State) n =>
    let (c, full) := colFill t n (srvBytes (a.srv.loops.getD n {})) a.cyc.srvCol
    let a1 : State := { a with cyc := { a.cyc with srvCol := c } }
    if full then a1.apply t (srvColFx n) else a1) s

/-- Whether this module executes the loops (R240). -/
def State.srvRuns (s : State) : Bool := !s.blockDown 15 && (s.red.size == 0 || s.red.role == .active || s.red.role == .none)

/-- The pass of a tick: set-point-only loops write for this tick, closed ones for the following. -/
def State.servoPass (s : State) (t masked : Nat) : State :=
  if !s.srvRuns then s else
  let cfg := s.cfg.active
  let r := (List.range 48).map (s.loopTick t masked)
  let loops := r.map (·.1)
  let put := fun (n : Nat) => (loops.getD n {})
  let s1 : State := { s with
    srv := { loops := loops, before := s.srv.loops, beforeAt := s.srv.tick, tick := t, since := s.srv.since + 1 }
    cyc := { s.cyc with
      srvOut := (List.range 48).map (fun n => if srvMode cfg n = 1 then (put n).sp else s.cyc.srvNext.getD n 0)
      srvNext := (List.range 48).map (fun n => if srvMode cfg n = 2 then (put n).cmd else 0) } }
  let took := srvPassTime (s.domKhz 1)
  let s2 := s1.apply t (r.flatMap (·.2) ++ [.field Reg.srvPhase 0 16 (satN 16 took), .maxi Reg.srvPhase 16 16 took])
  s2.srvFill t

/-! The Chain frame (R330). -/

/-- The bytes a loop writes into a station's output area. -/
def loopOutBytes (cfg : Mem) (n : Nat) (w : Int) : List Byte := if srvMode cfg n = 2 then s16 w else s32 w

/-- The pieces the loops write into a station's output area: offset and bytes. -/
def State.stnPieces (s : State) (x : Nat) : List (Nat × List Byte) :=
  let cfg := s.cfg.active
  ((List.range 48).filter (fun n => decide (srvMode cfg n ≠ 0 ∧ srvU8 cfg n 6 = 0 ∧ srvU8 cfg n 7 = x))).map (fun n =>
    (srvU16 cfg n 8, loopOutBytes cfg n (s.cyc.srvOut.getD n 0)))

/-- A byte of the area: of one piece as written; of several, or of one that runs beyond the area, unpredictable (R247, log 121). -/
def pieceByte (len x k : Nat) (base : Byte) (ps : List (Nat × List Byte)) : Byte :=
  match ps.filter (fun p => decide (p.1 ≤ k ∧ k < p.1 + p.2.length)) with
  | [] => base
  | [p] => if p.1 + p.2.length ≤ len then p.2.getD (k - p.1) 0 else byteOf (Config.freeNat 121 [(x : Int), -1, (k : Int)])
  | _ => byteOf (Config.freeNat 121 [(x : Int), -1, (k : Int)])

/-- A station's output area: the logic image, and over it what the loops write. -/
def State.stnArea (s : State) (x : Nat) : List Byte :=
  let len := fldOutLen s.cfg.active x
  let ps := s.stnPieces x
  ((lgcChain s.cyc.latched.logic x ++ zeros len).take len).zipIdx.map (fun b => pieceByte len x b.2 b.1 ps)

/-- The cyclic frame of a tick. -/
def State.chainSend (s : State) (t : Nat) : State :=
  let (f, tx, fx) := chainTick s.cfg.active t s.fldMaster s.red.token s.stnArea (inhStn s.saf) s.fld
  tx.foldl (fun (a : State) x => a.emit (.chain x.1 (Config.fieldMac x.1) x.2)) (({ s with fld := f } : State).apply t fx)

/-! Analogue and digital outputs (R361 to R365). -/

/-- Final replies of calibration points that end (Table 14.7): the mean, the other words zero. -/
def State.calReplies (s : State) (xs : List (Nat × Int)) : State := xs.foldl (fun (a : State) x => a.answer x.1 st.ok (s32 x.2 ++ zeros 12)) s

/-- The servo loops that write an analogue output. -/
def aoLoops (cfg : Mem) (o : Nat) : List Nat := (List.range 48).filter (fun n => srvMode cfg n != 0 && srvU8 cfg n 6 == 1 && srvU8 cfg n 7 == o + 1)

/-- The word of an analogue output's writer; of several writers unpredictable (R247, log 121). -/
def State.aoWord (s : State) (o : Nat) : Int :=
  match aoLoops s.cfg.active o with
  | [] => lgcAo s.cyc.latched.logic o
  | [n] => s.cyc.srvOut.getD n 0
  | _ => signed 32 (Config.freeNat 121 [(o : Int), -2] % 2 ^ 32)

/-- The digital outputs commanded; in PK-20 mode ALARM_DO among them. -/
def State.doWord (s : State) : Nat :=
  let d := lgcDo s.cyc.latched.logic
  let k := cmpAlarmDo s.cfg.active
  if s.pers = .pk20 ∧ 1 ≤ k ∧ k ≤ 24 then setBit d (k - 1) s.cyc.latched.pkDo else d

/-- The thruster (from 0) and code (0 thrust, 1 azimuth) an analogue output carries (Table 19.7). -/
def pkThrOf (cfg : Mem) (o : Nat) : Option (Nat × Nat) :=
  ((List.range 12).flatMap (fun k => [(k, 0), (k, 1)])).find? (fun x => cmpAo cfg (x.1 + 1) x.2 == o + 1)

/-- The code of a command channel (R463); of a thruster whose section is lost that of thrust 0 with the azimuth at feedback (R211); of a
channel that a servo loop also writes unpredictable (R477, log 121). -/
def State.pkDirect (s : State) (masked o : Nat) : Option Nat :=
  (s.cyc.latched.pkAo.find? (fun x => x.1 == o)).map (fun x =>
    if !(aoLoops s.cfg.active o).isEmpty then Config.freeNat 121 [(o : Int), -3] % 2 ^ 16 else
    match pkThrOf s.cfg.active o with
    | some (k, j) =>
      if bits masked k 1 = 0 then x.2 else
      let c := pkCode s.cfg.active (k + 1) 0 (s.feedAngles.getD k 0)
      16 * (if j = 0 then c.1 else c.2)
    | none => x.2)

/-- Readbacks of the millisecond that ends, then the latch of the new one. Without +24V_DO every output commanded on reads back off (R505). -/
def State.outputTick (s : State) (t masked : Nat) (m : MsMeas) : State :=
  if s.blockDown 10 then s else
  let cfg := s.cfg.active
  let (a, cal, fx) := aioReadbacks cfg t m.ao (if s.sup.auxDo.valid then m.doLevel else 0) m.doTrip s.aio
  let s1 := (({ s with aio := a } : State).apply t fx).calReplies cal
  { s1 with
    aio := aioLatch cfg s1.aoWord (s1.pkDirect masked) s1.doWord (consMasks s1.saf 1).ao (consMasks s1.saf 2).dout s1.red.token s1.aio }

/-! The interlock line (R420, R421, R422) and heartbeats (R417). -/

/-- Toggle of the holder, and what the senses read: currents in 0.1 mA. A token to be given up goes 0.5 ms later (R423); a member judged faulty that
still holds it 1 ms after the decision is asked for it by the other two (R432). -/
def State.loopTickRed (s : State) (t : Nat) (m : MsMeas) : State :=
  let r := s.red
  let edge := (decide (r.loop < 120) && decide (120 ≤ m.loop)) || (decide (120 ≤ r.loop) && decide (m.loop < 120))
  let keep := fun (c : Bool) (x : Option Nat) => if c then (match x with
    | some y => some y
    | none => some t) else (none : Option Nat)
  let judged : Bool := match r.due with
    | some d => r.size == 3 && decide (d + 1000000 ≤ t)
    | none => false
  { s with red := { r with
    loop := m.loop
    demand := m.demand
    high := if r.driver then !r.high else r.high
    lastToggle := if r.driver then t else r.lastToggle
    sink := judged && decide (20 ≤ m.loop)
    giveUp := false
    due := if m.loop < 20 then none else r.due
    releaseAt := if r.giveUp && r.token then some (t + 500000) else r.releaseAt
    lastEdge := if r.driver ∨ edge then t else r.lastEdge
    idleSince := keep (decide (m.loop < 20)) r.idleSince
    demandSince := keep (decide (80 ≤ m.demand)) r.demandSince } }

/-- The module's heartbeat. -/
def State.beatOf (s : State) (t : Nat) : RlBeat :=
  { from_ := s.red.modNum, group := cfgU16 s.cfg.active 0x0D00 2, role := s.red.role, ready := s.redReady t, faulted := s.red.faulted, latent := s.red.latent,
    flags := s.flagsNow t, newest := s.red.intact, token := s.red.token, saved := s.savedNumber, pref := s.red.pref, pers := s.pers,
    profile := s.profile, version := (s.fw.running.major, s.fw.running.minor, s.fw.running.patch), crcOk := true }

/-- A heartbeat at every tick while a member of a group runs. -/
def State.sendBeat (s : State) (t : Nat) : State :=
  if s.red.size = 0 ∨ s.red.modNum = 0 ∨ s.blockDown 18 then s else s.emit (.rl (.beat (s.beatOf t)))

/-! The tick. -/

/-- A LINK 0x70 sample at the first tick after the release that carries it (R382). -/
def State.logicSample (s : State) (t : Nat) : State :=
  match s.lgc.relAt with
  | none => s
  | some r =>
    if t ≤ r then s else
    let body := fun (n : Nat) => u64 0 ++ [0, 1, 2].flatMap (fun i => u32 (lgcPower s.lgc.relOut (selByte s.cfg.active n 0) i)) ++ zeros 12
    let xs : List RawSample := (linkStreams s.cfg.active 0x70).map (fun n => { stream := n, stamp := t, body := body n, chain := none, seqFix := none })
    ({ s with lgc := { s.lgc with relAt := none } } : State).samplesIn xs

/-- The end of a re-alignment (R10). -/
def State.realignDone (s : State) (t : Nat) : State :=
  if s.cyc.realign ∧ s.cyc.realignEnd ≤ t then ({ s with cyc := { s.cyc with realign := false } } : State).apply t [.ended 13 0 []] else s

/-- The process image of the millisecond that ends is whole; the next one opens (R18). -/
def State.imageTick (s : State) (t : Nat) : State :=
  { s with cyc := { s.cyc with whole := s.imgClose t s.cyc.next, next := s.imgOpen t, ms := t } }

/-- Whether the 1 kHz units run: with the core started, until the save is done. -/
def State.msRuns (s : State) : Bool :=
  s.clk.phase == .running || s.clk.phase == .ending || s.clk.phase == .saving || (s.clk.phase == .starting && s.chan.ready)

/-- The units of a running module at a millisecond tick. -/
def State.msUnits (s : State) (t : Nat) (m : MsMeas) : State :=
  let masked := s.maskedThr
  let s1 := (s.secTick t).latchTick t
  let s2 := ((s1.loopTickRed t m).servoPass t masked).chainSend t
  (((s2.outputTick t masked m).imageTick t).logicSample t).sendBeat t

/-- MILLISECOND_TICK's effect, at an instant at which a tick may fall (R10). -/
def State.msTick (s : State) (t : Nat) (m : MsMeas) : State :=
  if !s.msDue t then s else
  let (tm, fx) := timMsTick (s.timIn t) s.tim
  let s1 := (({ s with tim := tm } : State).apply t fx).realignDone t
  if s1.msRuns then s1.msUnits t m else s1

/-! Servo overrun and validation returns (R239, R237). -/

/-- SRV_PHASE_OVERRUN's effect: the pass is abandoned, the commands, loops and tick of the previous one stay. -/
def State.srvOverrun (s : State) (t : Nat) : State :=
  if !(s.srvRuns && s.srv.since != 0 && decide (s.srv.tick + 500000 ≤ t)) then s else
  let s1 : State := { s with
    srv := { s.srv with loops := s.srv.before, tick := s.srv.beforeAt, since := 0 }
    cyc := { s.cyc with srvNext := s.cyc.srvOut } }
  s1.apply t [.flag Reg.srvStatus 1, .count Reg.srvCntPhovr 1, .event 66 (u32 s.srv.since)]

/-- SRV_VALIDATION's effect: the loops are judged with the checks as they stand at the newest pass; a check at its limit fails its loop. -/
def State.srvJudge (s : State) (t : Nat) : State :=
  if !s.srvRuns then s else
  let r := s.srv.loops.zipIdx.map (fun x =>
    if srvMode s.cfg.active x.2 = 0 ∨ x.1.state = 3 ∨ x.1.hold then (x.1, ([] : List Fx)) else
    let bad := srvFailed s.cfg.active x.2 x.1
    if bad = 0 then (x.1, []) else
    let (z, fx) := srvFail x.2 x.1 bad
    (srvStill x.2 z, fx))
  ({ s with srv := { s.srv with loops := r.map (·.1) } } : State).apply t (r.flatMap (·.2))

/-- A drain pass of every collector with a full slot (R27). -/
def State.drainAll (s : State) (t : Nat) : State :=
  { s with
    cyc := { s.cyc with srvCol := colDrain t s.cyc.srvCol, num := colDrain t s.cyc.num }
    fld := { s.fld with col := colDrain t s.fld.col } }

/-- COLLECTOR_DRAIN_PASS (R27). -/
def execCollectorDrainPass (t : Nat) (s : State) : Host.Outcome State Fault Refusal := runAt t (fun s => s.drainAll t) s

/-- MILLISECOND_TICK (R18). -/
def execMillisecondTick (t : Nat) (meas : MsMeas) (s : State) : Host.Outcome State Fault Refusal := runAt t (fun s => s.msTick t meas) s

/-- SRV_VALIDATION (R237). -/
def execSrvValidation (t : Nat) (s : State) : Host.Outcome State Fault Refusal := runAt t (fun s => s.srvJudge t) s

/-- SRV_PHASE_OVERRUN (R239). -/
def execSrvPhaseOverrun (t : Nat) (s : State) : Host.Outcome State Fault Refusal := runAt t (fun s => s.srvOverrun t) s

end Sys2Proof.Machine
end

