-- ==== Sys2Proof/Machine/Logic.lean ====
section
/-! DEFINITION. Logic cycles and the opcodes of the Logic Engine (R378 to R389). -/

namespace Sys2Proof.Machine

/-- The input image of the process image (Table 15.5, region 2), by word. -/
def imgLogicIn (i : ProcImg) : List Nat :=
  [i.di, 0, 0, 0] ++ (List.range 40).map (fun c => i.ai.getD c 0) ++ List.replicate 20 0 ++
    (List.range 64).flatMap (fun x => (List.range 16).map (fun k => getU32 (i.inp.getD x []) (4 * k)))

/-- The system words of a logic cycle (region 4), by word. -/
def State.logicSys (s : State) (dtMs : Nat) : List Nat :=
  let i := s.cyc.img
  let opn := bitmap 64 (fun k => i.stn.getD k 0 == 3)
  w64 s.cyc.number ++
    [s.ctl.mode, bitmap 24 (fun k => bits (s.alc.res.thr.getD k {}).stat 0 1 == 1), bitmap 8 (fun k => (i.secs.getD k {}).inService), cqAlarmMask s.alc.groups] ++
    w64 opn ++ [i.so, dtMs % 2 ^ 32]

/-- LOGIC_CYCLE's effect: it begins 0.1 ms after a tick at which the process image notes a start. -/
def State.logicStart (s : State) (t : Nat) : State :=
  if !(s.inCycle && s.cyc.img.lgcStart.isSome && s.lgc.lastTick != s.cyc.img.lgcStart && decide (s.phaseAt 0 + 100000 ≤ t)) then s else
  let (g, fx) := lgcCycle s.cfg.active (s.agreed t) s.agreedTick (roundMs s.cyc.tickV) s.cyc.pms s.cyc.number s.cyc.img.lgcGap (fun _ => imgLogicIn s.cyc.img)
    s.logicSys s.lgc
  ({ s with lgc := g } : State).apply t fx

/-- The registers that LGC_GET_STATUS reports as they stand at a completion (R389). -/
def State.lgcNote (s : State) : State :=
  let note := fun (c : LgcCur) => { c with snap := { c.snap with
    least := bits (s.reg Reg.lgcIdle) 16 16, counts := (List.range 6).map (fun k => s.reg (Reg.lgcCntCycles + 4 * k)) } }
  { s with lgc := { s.lgc with cur := s.lgc.cur.map note } }

/-- LOGIC_CYCLE_COMPLETE's effect: an output set that waited is released. -/
def State.logicDone (s : State) (t : Nat) : State :=
  let (g, fx) := lgcComplete (s.agreed t) s.lgc
  let s0 := ({ s with lgc := g } : State).apply t fx
  let s1 := if g = s.lgc then s0 else s0.lgcNote
  match s1.cyc.pendingSet with
  | some o => if decide (t ≤ s1.outDeadline) && !s1.cyc.ph.deadline && lgcReady s1.lgc s1.logicDeadline then s1.release t o else s1
  | none => s1

/-! Opcodes. -/

/-- LGC_LOAD_IMAGE (R384, R389): actions 0 BEGIN, 1 DATA, 2 INSTALL; no other is defined. -/
def lgcLoadH (rq : Rq) (o : Opn) (s : State) : State × Resp :=
  let p := rq.payload
  let a := getU8 p 0
  if a = 0 then
    ({ s with lgc := { s.lgc with buf := [], bufSize := some (getU32 p 4), bufCrc := getU32 p 8 } }, .reply st.ok (u32 0))
  else if a = 1 then
    let g := lgcData s.lgc (getU32 p 4) (p.drop 12)
    ({ s with lgc := g }, .reply st.ok (u32 g.buf.length))
  else if 2 < a then refuseWith s st.wrongState
  else
    match lgcInstallCheck (lgcState s.cfg.active) s.lgc with
    | some c => refuseWith (s.apply rq.t (lgcLoadFx c)) st.wrongState
    | none => (s.queueBnd o rq s.cfg.hash [], .later)

/-- LGC_START and LGC_STOP (R385). -/
def lgcRunH (rq : Rq) (want : Nat) (o : Opn) (s : State) : State × Resp :=
  if lgcState s.cfg.active ≠ want then refuseWith s st.wrongState else (s.queueBnd o rq s.cfg.hash [], .later)

/-- LGC_SET_VALUE (R387). -/
def lgcSetH (rq : Rq) (o : Opn) (s : State) : State × Resp :=
  if (s.lgcWord rq.payload).isNone then refuseWith s st.wrongState else boundary rq o s

/-- LGC_GET_VALUE (R389). -/
def lgcGetH (rq : Rq) (_ : Opn) (s : State) : State × Resp :=
  let cfg := s.cfg.active
  let region := getU8 rq.payload 0
  let o := getU32 rq.payload 4
  let n := getU16 rq.payload 8
  if lgcState cfg = 0 ∨ 4 < region ∨ n % 4 ≠ 0 ∨ n < 4 ∨ 1024 < n ∨ lgcRegionSize cfg region < o + n then refuseWith s st.wrongState
  else (s, .reply st.ok (u64 s.lgc.rel.num ++ lgcRegionBytes cfg s.lgc.rel region o n))

/-- LGC_GET_STATUS (R389). -/
def lgcStatusH (_ : Rq) (_ : Opn) (s : State) : State × Resp :=
  let cfg := s.cfg.active
  let here := lgcInstalled cfg
  let x := s.lgc.rel
  (s, .reply st.ok (u8 (lgcState cfg) ++ u8 (if here then lgcPeriod cfg else 0) ++ u16 0 ++ u32 (if here then lgcProgramId cfg else 0) ++
    u32 (if here then lgcCrc cfg else 0) ++ u32 (if here then lgcNInst cfg else 0) ++ u32 x.cost ++ u64 x.num ++ u32 x.idle ++
    u32 x.least ++ u32 x.carried ++ u32 x.notCarried ++ (List.range 6).flatMap (fun k => u32 (x.counts.getD k 0))))

/-- LOGIC_CYCLE (R378). -/
def execLogicCycle (t : Nat) (s : State) : Host.Outcome State Fault Refusal := runAt t (fun s => s.logicStart t) s

/-- LOGIC_CYCLE_COMPLETE (R380). -/
def execLogicCycleComplete (t : Nat) (s : State) : Host.Outcome State Fault Refusal := runAt t (fun s => s.logicDone t) s

/-- LGC_LOAD_IMAGE BEGIN (R384). -/
def execLgcLoadImageBegin (rq : Rq) (s : State) : Host.Outcome State Fault Refusal := runAt rq.t (State.serve · 0x60 rq (lgcLoadH rq)) s

/-- LGC_LOAD_IMAGE DATA (R384). -/
def execLgcLoadImageData (rq : Rq) (s : State) : Host.Outcome State Fault Refusal := runAt rq.t (State.serve · 0x60 rq (lgcLoadH rq)) s

/-- LGC_LOAD_IMAGE INSTALL (R384). -/
def execLgcLoadImageInstall (rq : Rq) (s : State) : Host.Outcome State Fault Refusal := runAt rq.t (State.serve · 0x60 rq (lgcLoadH rq)) s

/-- LGC_START (R385). -/
def execLgcStart (rq : Rq) (s : State) : Host.Outcome State Fault Refusal := runAt rq.t (State.serve · 0x61 rq (lgcRunH rq 1)) s

/-- LGC_STOP (R385). -/
def execLgcStop (rq : Rq) (s : State) : Host.Outcome State Fault Refusal := runAt rq.t (State.serve · 0x62 rq (lgcRunH rq 2)) s

/-- LGC_SET_VALUE (R387). -/
def execLgcSetValue (rq : Rq) (s : State) : Host.Outcome State Fault Refusal := runAt rq.t (State.serve · 0x63 rq (lgcSetH rq)) s

/-- LGC_GET_VALUE (R389). -/
def execLgcGetValue (rq : Rq) (s : State) : Host.Outcome State Fault Refusal := runAt rq.t (State.serve · 0x64 rq (lgcGetH rq)) s

/-- LGC_GET_STATUS (R389). -/
def execLgcGetStatus (rq : Rq) (s : State) : Host.Outcome State Fault Refusal := runAt rq.t (State.serve · 0x65 rq (lgcStatusH rq)) s

end Sys2Proof.Machine
end

