-- ==== Sys2Proof/Machine/Requests.lean ====
section
/-! DEFINITION. Opcodes of fusion, control, allocation and servo (chapters 04 to 09): their checks at acceptance, and the reads. -/

namespace Sys2Proof.Machine

/-! Fusion. -/

/-- FUS_GET_SOLUTION (R138, R46). -/
def fusSolutionH (rq : Rq) (o : Opn) (s : State) : State × Resp := s.numbered o (getU64 rq.payload 0) s.chan.results.fus

/-- FUS_GET_STREAM (R530). -/
def fusStreamH (rq : Rq) (_ : Opn) (s : State) : State × Resp :=
  let n := getU16 rq.payload 0
  if 255 < n then refuseWith s st.wrongState else
  let c := fun (b : Nat) => s.reg (b + 16 * n)
  (s, .reply st.ok (streamReply s.cfg.active s.fus rq.t n (c Reg.fusStrmSamples) (c Reg.fusStrmLate) (c Reg.fusStrmDisc)))

/-- FUS_SET_STREAM_STATE (R139): checked at acceptance and at its tick. -/
def fusStateH (rq : Rq) (o : Opn) (s : State) : State × Resp :=
  if setStateOk s.cfg.active s.fus (getU16 rq.payload 0) (getU8 rq.payload 2) then boundary rq o s else refuseWith s st.wrongState

/-- FUS_CAL_CONTROL (R135 to R137, R139). -/
def fusCalH (rq : Rq) (o : Opn) (s : State) : State × Resp :=
  let a := getU8 rq.payload 2
  let open_ : Bool := match s.txn? (getU16 rq.payload 4) with
    | some x => !x.committed
    | none => false
  if calOk s.cfg.active s.fus (getU16 rq.payload 0) a && (a != 3 || open_) then boundary rq o s else refuseWith s st.wrongState

/-- FUS_INJECT (R112). -/
def fusInjectH (rq : Rq) (o : Opn) (s : State) : State × Resp :=
  if injectOk s.cfg.active (getU16 rq.payload 0) (getU64 rq.payload 4) then boundary rq o s else refuseWith s st.wrongState

/-! Control. -/

/-- A DP command of the command holder (R146). -/
def dpHeldH (rq : Rq) (o : Opn) (s : State) : State × Resp :=
  if s.ctl.holder.map Prod.snd = some o.ident then boundary rq o s else refuseWith s st.wrongState

/-- DP_GET_STATE (R171). -/
def dpStateH (rq : Rq) (o : Opn) (s : State) : State × Resp := s.numbered o (getU64 rq.payload 0) s.chan.results.dp

/-! Allocation. -/

/-- ALC_GET_RESULT (R202). -/
def alcResultH (rq : Rq) (o : Opn) (s : State) : State × Resp := s.numbered o (getU64 rq.payload 0) s.chan.results.alc

/-- ALC_SET_THRUSTER_STATE (R202). -/
def alcThrH (rq : Rq) (o : Opn) (s : State) : State × Resp :=
  let t := getU8 rq.payload 0
  if t = 0 ∨ 24 < t ∨ !thrConfigured s.cfg.active t then refuseWith s st.wrongState else boundary rq o s

/-- ALC_GET_CONSEQUENCE (R224). -/
def alcConsequenceH (rq : Rq) (o : Opn) (s : State) : State × Resp := s.numbered o (getU64 rq.payload 0) s.chan.results.cq

/-! Servo. -/

/-- SRV_GET_STATE (R243): the values of the newest pass. -/
def srvStateH (rq : Rq) (_ : Opn) (s : State) : State × Resp :=
  let a := getU8 rq.payload 0
  let n := getU8 rq.payload 1
  if n = 0 ∨ 48 < a + n then refuseWith s st.wrongState
  else (s, .reply st.ok (u64 s.srv.tick ++ (List.range n).flatMap (fun i => srvBytes (s.srv.loops.getD (a + i) {}))))

/-- SRV_TABLE_LOAD (R235). -/
def srvTableH (rq : Rq) (o : Opn) (s : State) : State × Resp :=
  let n := getU8 rq.payload 0
  if s.tableOk n then (s.queueBnd o rq s.cfg.hash (stageBytes [] (cfgKey (0x0B10 + n) 0) (slice rq.payload 4 512)), .later)
  else refuseWith s st.wrongState

/-! Commands. -/

/-- FUS_GET_SOLUTION (R138). -/
def execFusGetSolution (rq : Rq) (s : State) : Host.Outcome State Fault Refusal := runAt rq.t (State.serve · 0x40 rq (fusSolutionH rq)) s

/-- FUS_GET_STREAM (R530). -/
def execFusGetStream (rq : Rq) (s : State) : Host.Outcome State Fault Refusal := runAt rq.t (State.serve · 0x41 rq (fusStreamH rq)) s

/-- FUS_SET_STREAM_STATE DESELECT (R139). -/
def execFusSetStreamStateDeselect (rq : Rq) (s : State) : Host.Outcome State Fault Refusal := runAt rq.t (State.serve · 0x42 rq (fusStateH rq)) s

/-- FUS_SET_STREAM_STATE SELECT (R139). -/
def execFusSetStreamStateSelect (rq : Rq) (s : State) : Host.Outcome State Fault Refusal := runAt rq.t (State.serve · 0x42 rq (fusStateH rq)) s

/-- FUS_SET_STREAM_STATE READMIT (R139). -/
def execFusSetStreamStateReadmit (rq : Rq) (s : State) : Host.Outcome State Fault Refusal := runAt rq.t (State.serve · 0x42 rq (fusStateH rq)) s

/-- FUS_CAL_CONTROL START (R135). -/
def execFusCalControlStart (rq : Rq) (s : State) : Host.Outcome State Fault Refusal := runAt rq.t (State.serve · 0x43 rq (fusCalH rq)) s

/-- FUS_CAL_CONTROL FREEZE (R137). -/
def execFusCalControlFreeze (rq : Rq) (s : State) : Host.Outcome State Fault Refusal := runAt rq.t (State.serve · 0x43 rq (fusCalH rq)) s

/-- FUS_CAL_CONTROL RESUME (R137). -/
def execFusCalControlResume (rq : Rq) (s : State) : Host.Outcome State Fault Refusal := runAt rq.t (State.serve · 0x43 rq (fusCalH rq)) s

/-- FUS_CAL_CONTROL ACCEPT (R137). -/
def execFusCalControlAccept (rq : Rq) (s : State) : Host.Outcome State Fault Refusal := runAt rq.t (State.serve · 0x43 rq (fusCalH rq)) s

/-- FUS_CAL_CONTROL DISCARD (R135). -/
def execFusCalControlDiscard (rq : Rq) (s : State) : Host.Outcome State Fault Refusal := runAt rq.t (State.serve · 0x43 rq (fusCalH rq)) s

/-- FUS_INJECT (R112). -/
def execFusInject (rq : Rq) (s : State) : Host.Outcome State Fault Refusal := runAt rq.t (State.serve · 0x44 rq (fusInjectH rq)) s

/-- DP_SET_MODE (R146, R148). -/
def execDpSetMode (rq : Rq) (s : State) : Host.Outcome State Fault Refusal := runAt rq.t (State.serve · 0x30 rq (dpHeldH rq)) s

/-- DP_SET_TARGET (R150). -/
def execDpSetTarget (rq : Rq) (s : State) : Host.Outcome State Fault Refusal := runAt rq.t (State.serve · 0x31 rq (dpHeldH rq)) s

/-- DP_TRAVERSE (R160). -/
def execDpTraverse (rq : Rq) (s : State) : Host.Outcome State Fault Refusal := runAt rq.t (State.serve · 0x32 rq (dpHeldH rq)) s

/-- DP_JOYSTICK (R151). -/
def execDpJoystick (rq : Rq) (s : State) : Host.Outcome State Fault Refusal := runAt rq.t (State.serve · 0x33 rq (dpHeldH rq)) s

/-- DP_GET_STATE (R171). -/
def execDpGetState (rq : Rq) (s : State) : Host.Outcome State Fault Refusal := runAt rq.t (State.serve · 0x34 rq (dpStateH rq)) s

/-- DP_TAKE_COMMAND TAKE (R146, R147): judged at its tick. -/
def execDpTakeCommandTake (rq : Rq) (s : State) : Host.Outcome State Fault Refusal := runAt rq.t (State.serve · 0x35 rq (boundary rq)) s

/-- DP_TAKE_COMMAND RELEASE (R146). -/
def execDpTakeCommandRelease (rq : Rq) (s : State) : Host.Outcome State Fault Refusal := runAt rq.t (State.serve · 0x35 rq (boundary rq)) s

/-- ALC_GET_RESULT (R202). -/
def execAlcGetResult (rq : Rq) (s : State) : Host.Outcome State Fault Refusal := runAt rq.t (State.serve · 0x50 rq (alcResultH rq)) s

/-- ALC_SET_THRUSTER_STATE DISABLE (R202). -/
def execAlcSetThrusterStateDisable (rq : Rq) (s : State) : Host.Outcome State Fault Refusal := runAt rq.t (State.serve · 0x51 rq (alcThrH rq)) s

/-- ALC_SET_THRUSTER_STATE ENABLE (R202). -/
def execAlcSetThrusterStateEnable (rq : Rq) (s : State) : Host.Outcome State Fault Refusal := runAt rq.t (State.serve · 0x51 rq (alcThrH rq)) s

/-- ALC_GET_CONSEQUENCE (R224). -/
def execAlcGetConsequence (rq : Rq) (s : State) : Host.Outcome State Fault Refusal := runAt rq.t (State.serve · 0x52 rq (alcConsequenceH rq)) s

/-- ALC_SET_POWER_LIMITS (R224). -/
def execAlcSetPowerLimits (rq : Rq) (s : State) : Host.Outcome State Fault Refusal := runAt rq.t (State.serve · 0x53 rq (boundary rq)) s

/-- SRV_GET_STATE (R243). -/
def execSrvGetState (rq : Rq) (s : State) : Host.Outcome State Fault Refusal := runAt rq.t (State.serve · 0x58 rq (srvStateH rq)) s

/-- SRV_TABLE_LOAD (R235). -/
def execSrvTableLoad (rq : Rq) (s : State) : Host.Outcome State Fault Refusal := runAt rq.t (State.serve · 0x59 rq (srvTableH rq)) s

end Sys2Proof.Machine
end

