-- ==== Sys2Proof/Machine/Refs.lean ====
section
/-! DEFINITION. The event recorder's requests and happenings (chapter 18), the Time Unit's (chapter 10), the GNSS baseband's (chapter 11). -/

namespace Sys2Proof.Machine

/-! Event recorder. -/

/-- REC_SET_CURSOR (R451, R453). -/
def recCursorH (rq : Rq) (o : Opn) (s : State) : State × Resp :=
  let mode := getU8 rq.payload 0
  if 3 < mode then refuseWith s st.wrongState else
  let seq := recModeSeq s.recd mode (getU32 rq.payload 4)
  ({ s with recd := recSetCursor s.recd o.ident seq (getU8 rq.payload 1 == 1) }, .reply st.ok (u32 seq ++ zeros 4))

/-- REC_READ (R451, R452): at most 21 records. -/
def recReadH (rq : Rq) (o : Opn) (s : State) : State × Resp :=
  let (r, b) := recRead o.ident (Nat.min (getU8 rq.payload 0) 21) s.recd
  ({ s with recd := r }, .reply st.ok b)

/-- A failed password counts toward the lockout (R407). -/
def State.pwFailed (s : State) (t slot : Nat) : State :=
  let (f, fx) := safLoginFail t slot s.saf
  ({ s with saf := f } : State).apply t fx

/-- REC_CLEAR (R450). -/
def recClearH (rq : Rq) (_ : Opn) (s : State) : State × Resp :=
  let slot := getU8 rq.payload 0
  if safLocked rq.t s.saf then refuseWith s st.denied
  else if safPwOk s.saf slot (pwText (slice rq.payload 4 8)) then
    let (r, seq, n, fx) := recClear s.red.modNum slot (s.recRecord rq.t 2 0 0 [] none) s.recd
    (({ s with recd := r } : State).apply rq.t fx, .reply st.ok (u32 seq ++ u32 n))
  else refuseWith (s.pwFailed rq.t slot) st.denied

/-- REC_WRITE_USER (R453): answered once its record has its sequence. -/
def recUserH (rq : Rq) (o : Opn) (s : State) : State × Resp :=
  if 48 < s.recd.queue.length then refuseWith s st.busy else
  let (r, fx) := recEnqueue (s.recRecord rq.t 1 (getU8 rq.payload 0) 0 (slice rq.payload 4 16) (some o.id)) s.recd
  (({ s with recd := r } : State).apply rq.t fx, .wait)

/-- A record is written; a REC_WRITE_USER that waits for it is answered. -/
def State.recWritten (s : State) (t : Nat) (ok1 ok2 : Bool) : State :=
  let (r, rep, fx) := recWrite s.red.modNum ok1 ok2 s.recd
  let s1 := ({ s with recd := r } : State).apply t fx
  match rep with
  | some (id, seq) => s1.answer id st.ok (u32 seq)
  | none => s1

/-- REC_SET_CURSOR (R451). -/
def execRecSetCursor (rq : Rq) (s : State) : Host.Outcome State Fault Refusal := runAt rq.t (State.serve · 0x70 rq (recCursorH rq)) s

/-- REC_READ (R451). -/
def execRecRead (rq : Rq) (s : State) : Host.Outcome State Fault Refusal := runAt rq.t (State.serve · 0x71 rq (recReadH rq)) s

/-- REC_CLEAR (R450). -/
def execRecClear (rq : Rq) (s : State) : Host.Outcome State Fault Refusal := runAt rq.t (State.serve · 0x72 rq (recClearH rq)) s

/-- REC_WRITE_USER (R443, R453). -/
def execRecWriteUser (rq : Rq) (s : State) : Host.Outcome State Fault Refusal := runAt rq.t (State.serve · 0x73 rq (recUserH rq)) s

/-- REC_RECORD_WRITE (R447, R448): whether the first and the second write read back equal. -/
def execRecRecordWrite (t : Nat) (ok1 ok2 : Bool) (s : State) : Host.Outcome State Fault Refusal := runAt t (fun s => s.recWritten t ok1 ok2) s

/-- REC_COALESCE_END (R444). -/
def execRecCoalesceEnd (t : Nat) (s : State) : Host.Outcome State Fault Refusal :=
  runAt t (fun s => let (r, fx) := recCoalesceEnd t s.recd; ({ s with recd := r } : State).apply t fx) s

/-! Time Unit. -/

/-- The Time Unit after a computation, with its effects. -/
def State.timed (s : State) (t : Nat) (r : Tim × List Fx) : State := ({ s with tim := r.1 } : State).apply t r.2

/-- TIM_GET (R263). -/
def timGetH (rq : Rq) (_ : Opn) (s : State) : State × Resp := (s, .reply st.ok (timGet (s.timIn rq.t) (s.readReg rq.t Reg.timStatus) s.tim))

/-- TIM_SET (R264): target 0 the PPS-in epoch, 1 host time; no other target is defined. -/
def timSetH (rq : Rq) (_ : Opn) (s : State) : State × Resp :=
  let i := s.timIn rq.t
  let tai := getU64 rq.payload 4
  let r := match getU8 rq.payload 0 with
    | 0 => timSetPps i tai s.tim
    | 1 => timSetHost i tai s.tim
    | _ => none
  match r with
  | some (m, res, x, fx) => (s.timed rq.t (m, fx), .reply st.ok (u8 res ++ zeros 3 ++ s64 x))
  | none => refuseWith s st.wrongState

/-- TIM_ACCEPT_JUMP (R252): a VESSEL step applies at the next cycle tick. -/
def timJumpH (rq : Rq) (_ : Opn) (s : State) : State × Resp :=
  let k := getU8 rq.payload 0
  if k < 1 ∨ 3 < k then refuseWith s st.wrongState else
  match timAcceptJump (s.timIn rq.t) k (signed 64 (getU64 rq.payload 4)) s.tim with
  | some (m, x, fx) => (s.timed rq.t (m, fx), .reply st.ok (s64 x ++ u64 (if k = 3 then s.cyc.number + 1 else 0)))
  | none => refuseWith s st.wrongState

/-- TIM_GET (R263). -/
def execTimGet (rq : Rq) (s : State) : Host.Outcome State Fault Refusal := runAt rq.t (State.serve · 0x80 rq (timGetH rq)) s

/-- TIM_SET of the PPS-in epoch (R264). -/
def execTimSetPpsEpoch (rq : Rq) (s : State) : Host.Outcome State Fault Refusal := runAt rq.t (State.serve · 0x81 rq (timSetH rq)) s

/-- TIM_SET of host time (R264). -/
def execTimSetHostTime (rq : Rq) (s : State) : Host.Outcome State Fault Refusal := runAt rq.t (State.serve · 0x81 rq (timSetH rq)) s

/-- TIM_ACCEPT_JUMP (R252). -/
def execTimAcceptJump (rq : Rq) (s : State) : Host.Outcome State Fault Refusal := runAt rq.t (State.serve · 0x82 rq (timJumpH rq)) s

/-- VESSEL_MEASUREMENT (R249, R250): a whole second of MONO, with VESSEL on source 1 or 2. -/
def execVesselMeasurement (t : Nat) (s : State) : Host.Outcome State Fault Refusal := runAt t (fun s => s.timed t (vesselMeasure (s.timIn t) s.tim)) s

/-- TIME_REFERENCE_LOST (R249, R253, R255, R257): the losses that are due; the PTP port's answer to a silent master. -/
def State.refsLost (s : State) (t : Nat) : State :=
  let s1 := s.timed t (timLost (s.timIn t) s.tim)
  s1.timed t (ptpTimeoutStep (s1.timIn t) s1.tim)

/-- TIME_REFERENCE_LOST (R249). -/
def execTimeReferenceLost (t : Nat) (s : State) : Host.Outcome State Fault Refusal := runAt t (fun s => s.refsLost t) s

/-- TIM_SOURCE_SWITCH (R253): the followed source is chosen anew. -/
def execTimSourceSwitch (t : Nat) (s : State) : Host.Outcome State Fault Refusal := runAt t (fun s => s.timed t (timFollow (s.timIn t) s.tim)) s

/-- TIM_HOLDOVER_LIMIT (R256). -/
def execTimHoldoverLimit (t : Nat) (s : State) : Host.Outcome State Fault Refusal := runAt t (fun s => s.timed t (timWatch (s.timIn t) s.tim)) s

/-- PPS_IN_EDGE (R259). -/
def execPpsInEdge (t : Nat) (s : State) : Host.Outcome State Fault Refusal := runAt t (fun s => s.timed t (ppsIn (s.timIn t) s.tim)) s

/-- PPS_IN_LOST (R259). -/
def execPpsInLost (t : Nat) (s : State) : Host.Outcome State Fault Refusal := runAt t (fun s => s.timed t (ppsLost (s.timIn t) s.tim)) s

/-- The edges of the PPS outputs at an instant, and their pulses. -/
def State.ppsPulse (s : State) (t : Nat) : State :=
  let r := ppsOut (s.timIn t) s.tim
  let cfg := s.cfg.active
  r.2.foldl (fun (a : State) k => a.emit (.pps k (ppsWidth cfg k) (bits (ppsFlags cfg k) 0 1 == 1))) { s with tim := r.1 }

/-- PPS_OUTPUT_EDGE (R260). -/
def execPpsOutputEdge (t : Nat) (s : State) : Host.Outcome State Fault Refusal := runAt t (fun s => s.ppsPulse t) s

/-- PTP messages sent. -/
def State.ptpOut (s : State) (gs : List PtpMsg) : State := gs.foldl (fun a g => a.emit (.ptp ipHdr g)) s

/-- A PTP message arrives. -/
def State.ptpIn (s : State) (t : Nat) (g : PtpMsg) : State :=
  let (m, ans, fx) := ptpRx (s.timIn t) g s.tim
  (s.timed t (m, fx)).ptpOut ans.toList

/-- PTP_MESSAGE (R257, R258). -/
def execPtpMessage (t : Nat) (msg : PtpMsg) (s : State) : Host.Outcome State Fault Refusal := runAt t (fun s => s.ptpIn t msg) s

/-- PTP_SYNC_TX (R257). -/
def execPtpSyncTx (t mbps : Nat) (s : State) : Host.Outcome State Fault Refusal :=
  runAt t (fun s => let (m, gs) := ptpTx (s.timIn t) mbps s.tim; ({ s with tim := m } : State).ptpOut gs) s

/-- PTP_DELAY_REQ_TX (R257). -/
def execPtpDelayReqTx (t mbps : Nat) (s : State) : Host.Outcome State Fault Refusal :=
  runAt t (fun s => let (m, gs) := ptpReqTx (s.timIn t) mbps s.tim; ({ s with tim := m } : State).ptpOut gs) s

/-! GNSS baseband. -/

/-- What the GB does while its clock runs (R287, R485). -/
def State.gnsAt (s : State) (f : State → State) : State := if s.blockDown 11 then s else f s

/-- The baseband after a computation, with its effects. -/
def State.gnsd (s : State) (t : Nat) (r : Gns × List Fx) : State := ({ s with gns := r.1 } : State).apply t r.2

/-- TAI by the GNSS base, where it is set: the time a start uses (Table 11.6). -/
def Tim.gnssNow (m : Tim) (t : Nat) : Option Int := if m.gnss.state = .unset then none else some (baseTime m.gnss t)

/-- GNSS_MEASUREMENT_EPOCH's effect: the fix joins the numbered results; a valid time solution is the GNSS base's measurement with GNSS_REF 0 (R274 to R284). -/
def State.gnssEpoch (s : State) (t : Nat) (m : GnssMeas) : State :=
  if !gnsDue t m.tai s.gns then s else
  let (g, sol, fx) := gnsEpoch s.cfg.active t m s.gns
  let s1 := s.gnsd t (g, fx)
  let s2 : State := { s1 with chan := { s1.chan with results := { s1.chan.results with fix := pushResult g.fixNum (gnsFixBytes g) s1.chan.results.fix } } }
  match sol with
  | some (true, tai) =>
    if timGnssRef s2.cfg.active = 0 then
      let i := s2.timIn t
      let (m1, _, f1) := timMeasureAll i 1 (timX s2.tim 1 t tai) s2.tim
      s2.timed t (m1, f1)
    else s2
  | _ => s2

/-- The samples of a GB link for the streams on it (R278). -/
def gbSamples (cfg : Mem) (t link : Nat) (body : List Byte) : List RawSample :=
  (linkStreams cfg link).map (fun n => { stream := n, stamp := t, body := body, chain := none, seqFix := none })

/-- GB_SAMPLE_HANDOVER's effect; `late` are the links whose sample is not ready. -/
def State.gbHandover (s : State) (t : Nat) (late : List Nat) : State :=
  let (g, xs, fx) := gnsHandover t late s.gns
  (s.gnsd t (g, fx)).samplesIn (xs.flatMap (fun x => gbSamples s.cfg.active t x.1 x.2))

/-- What ends a channel's state early, or a cycle slip (R273): C/N0 below CN0_MIN for 1 s, phase lock indicator below 0.6 for 200 ms, 2 s of pull-in
without lock, a carrier-phase change that departs by more than 0.25 cycle. -/
def State.chanLoss (s : State) (t a k : Nat) (why : ChanLoss) : State :=
  match (gnsChans s.gns a)[k]? with
  | none => s
  | some c =>
    let lost := fun (b : Bool) => if b && decide (c.state ≠ 0) then ({ s with gns := gnsLose a k s.gns } : State) else s
    match why with
    | .pullIn => lost (c.state == 1 && decide (c.since + 2000000000 ≤ t))
    | .cn0 top ns => lost (decide (top < gnsCn0Min s.cfg.active * 256) && decide (1000000000 ≤ ns))
    | .lock top ns => lost (decide (top < 600) && decide (200000000 ≤ ns))
    | .slip x y => if c.state ≠ 0 ∧ 16384 < (x - y).natAbs then s.gnsd t (gnsSlip a k s.gns) else s

/-- Whether the C/N0 of every tracked channel of an input fell by 10 dB: `levels` gives a channel, its highest C/N0 of the last second and its C/N0 now. -/
def gnsFell (g : Gns) (a : Nat) (levels : List (Nat × Nat × Nat)) : Bool :=
  let ks := ((gnsChans g a).zipIdx.filter (fun c => decide (c.1.state ≠ 0))).map (·.2)
  !ks.isEmpty && ks.all (fun k => levels.any (fun l => l.1 == k && decide (l.2.2 + 2560 ≤ l.2.1)))

/-- GNS_SIGNAL's event (Table 11.12): the drop of an input, or its recovery once not every tracked channel is down, with the mean of the levels now. -/
def State.gnsSignal (s : State) (t a : Nat) (levels : List (Nat × Nat × Nat)) : State :=
  let drop := gnsFell s.gns a levels
  let mean := (levels.map (·.2.2)).sum / levels.length
  let d := [byteOf (a + 1), byteOf (b2n drop)] ++ u16 mean
  if drop = s.evt.conds.contains (31, a) then s else s.apply t [if drop then .start 31 a d else .ended 31 a d]

/-- Both supplies through a check. -/
def State.supplies (s : State) (t : Nat) (f : Nat → GnsInput → GnsInput × List Fx) : State :=
  let go := fun (q : State) (a : Nat) =>
    let (i, fx) := f a (gnsInput q.gns a)
    let q1 := q.gnsd t ({ q.gns with inputs := q.gns.inputs.set a i }, fx)
    if (i.supply = 1 ∨ i.supply = 3) ∧ q1.gns.base ≠ 0 then q1.gnsd t (gnsSetBase 0 q1.gns) else q1
  [0, 1].foldl go s

/-- An RTCM frame from a source (R279, R280); whether it was used. -/
def State.rtcmIn (s : State) (t src : Nat) (frame : List Byte) : State × Bool :=
  if s.blockDown 11 then (s, false) else
  let (g, used, fx) := gnsRtcm s.cfg.active t src (s.tim.gnssNow t) frame s.gns
  (s.gnsd t (g, fx), used)

/-- Several frames: frames used and not used. -/
def State.rtcmMany (s : State) (t src : Nat) (fs : List (List Byte)) : State × Nat × Nat :=
  fs.foldl (fun q f => match q.1.rtcmIn t src f with
    | (s1, true) => (s1, q.2.1 + 1, q.2.2)
    | (s1, false) => (s1, q.2.1, q.2.2 + 1)) (s, 0, 0)

/-- The source of a raw frame on the serial links: the port that CORR_SRC names where it is in MODE 2, else one that CORR_SRC does not name. -/
def rtcmPort (cfg : Mem) : Nat := if 1 ≤ gnsCorrSrc cfg ∧ gnsCorrSrc cfg ≤ 8 ∧ serMode cfg (gnsCorrSrc cfg) = 2 then gnsCorrSrc cfg else 255

/-- GNS_GET_FIX (R289, R46). -/
def gnsFixH (rq : Rq) (o : Opn) (s : State) : State × Resp := s.numbered o (getU64 rq.payload 0) s.chan.results.fix

/-- GNS_GET_CHANNELS (R289). -/
def gnsChannelsH (rq : Rq) (_ : Opn) (s : State) : State × Resp :=
  let a := getU8 rq.payload 0
  if a = 1 ∨ a = 2 then (s, .reply st.ok (gnsChanBytes s.gns (a - 1))) else refuseWith s st.wrongState

/-- GNS_SET_CORRECTIONS (R279, R289). -/
def gnsCorrectionsH (rq : Rq) (_ : Opn) (s : State) : State × Resp :=
  if gnsCorrSrc s.cfg.active ≠ 0 then refuseWith s st.wrongState else
  let (fs, rest) := rtcmSplit rq.payload.length (rq.payload.drop 4)
  let (s1, used, bad) := s.rtcmMany rq.t 0 fs
  let s2 := if rest = 0 then s1 else s1.apply rq.t [.count Reg.gnsCntRtcmDisc rest]
  (s2, .reply st.ok (u16 used ++ u16 bad))

/-- GNS_COLD_START (R287): the start begins. -/
def gnsColdH (rq : Rq) (_ : Opn) (s : State) : State × Resp :=
  let s1 := s.gnsd rq.t (gnsStart s.cfg.active (if getU8 rq.payload 0 = 0 then 0 else 1) rq.t (s.tim.gnssNow rq.t) 0 s.gns.data s.gns)
  (s1, .twice st.ok (u8 s1.gns.start ++ zeros 3))

/-- GNSS_MEASUREMENT_EPOCH (R274). -/
def execGnssMeasurementEpoch (t : Nat) (meas : GnssMeas) (s : State) : Host.Outcome State Fault Refusal := runAt t (fun s => s.gnsAt (fun s => s.gnssEpoch t meas)) s

/-- GB_SAMPLE_HANDOVER (R278). -/
def execGbSampleHandover (t : Nat) (late : List Nat) (s : State) : Host.Outcome State Fault Refusal := runAt t (fun s => s.gnsAt (fun s => s.gbHandover t late)) s

/-- ACQUISITION_DETECT (R271, R272): the search on input `input` (0, 1) completes with its cells' magnitudes. -/
def execAcquisitionDetect (t input : Nat) (cells : List AcqCell) (s : State) : Host.Outcome State Fault Refusal :=
  runAt t (fun s => s.gnsAt (fun s => s.gnsd t (gnsAcquire s.cfg.active t input cells s.gns))) s

/-- CHANNEL_LOCK_LOSS (R273). -/
def execChannelLockLoss (t input chan : Nat) (why : ChanLoss) (s : State) : Host.Outcome State Fault Refusal :=
  runAt t (fun s => s.gnsAt (fun s => s.chanLoss t input chan why)) s

/-- PULL_IN_LOCK (R273): the lowest phase lock indicator (10^-3) over the last `ns`. -/
def execPullInLock (t input chan low ns : Nat) (s : State) : Host.Outcome State Fault Refusal :=
  runAt t (fun s => s.gnsAt (fun s => { s with gns := gnsPulledIn t input chan low ns s.gns })) s

/-- NAV_DATA_DECODED (R273). -/
def execNavDataDecoded (t input chan : Nat) (data : NavData) (s : State) : Host.Outcome State Fault Refusal :=
  runAt t (fun s => s.gnsAt (fun s => { s with gns := gnsDecoded t input chan (s.tim.gnssNow t) data s.gns })) s

/-- GNS_SIGNAL (Table 11.12, event 31): per channel its highest C/N0 of the last second and its C/N0 now. -/
def execGnsSignal (t input : Nat) (levels : List (Nat × Nat × Nat)) (s : State) : Host.Outcome State Fault Refusal :=
  runAt t (fun s => s.gnsAt (fun s => s.gnsSignal t input levels)) s

/-- ANTENNA_SUPPLY_CHECK (R270): the measured currents in mA. -/
def execAntennaSupplyCheck (t ma1 ma2 : Nat) (s : State) : Host.Outcome State Fault Refusal :=
  runAt t (fun s => s.supplies t (fun a i => gnsSupply s.cfg.active t a (if a = 0 then ma1 else ma2) i)) s

/-- ANTENNA_RETRY (R270). -/
def execAntennaRetry (t ma1 ma2 : Nat) (s : State) : Host.Outcome State Fault Refusal :=
  runAt t (fun s => s.supplies t (fun a i => gnsRetry s.cfg.active t a (if a = 0 then ma1 else ma2) i)) s

/-- RTCM_FRAME (R279): a whole frame on the serial links. -/
def execRtcmFrame (t : Nat) (frame : List Byte) (s : State) : Host.Outcome State Fault Refusal :=
  runAt t (fun s => (s.rtcmIn t (rtcmPort s.cfg.active) frame).1) s

/-- CORRECTION_EXPIRY (R280). -/
def execCorrectionExpiry (t : Nat) (s : State) : Host.Outcome State Fault Refusal := runAt t (fun s => s.gnsd t (gnsExpire s.cfg.active t s.gns)) s

/-- GNSS_STORE_WRITE (R292): 60 s or more after the last write; `whole` tells whether the write was completed with its CRC-32C. -/
def execGnssStoreWrite (t : Nat) (whole : Bool) (s : State) : Host.Outcome State Fault Refusal :=
  runAt t (fun s => if s.gns.store.all (fun d => decide (d.at_ + 60000000000 ≤ t)) then { s with gns := gnsSaved t whole s.gns } else s) s

/-- GNS_GET_FIX (R289). -/
def execGnsGetFix (rq : Rq) (s : State) : Host.Outcome State Fault Refusal := runAt rq.t (State.serve · 0xB0 rq (gnsFixH rq)) s

/-- GNS_GET_CHANNELS (R289). -/
def execGnsGetChannels (rq : Rq) (s : State) : Host.Outcome State Fault Refusal := runAt rq.t (State.serve · 0xB1 rq (gnsChannelsH rq)) s

/-- GNS_SET_CORRECTIONS (R289). -/
def execGnsSetCorrections (rq : Rq) (s : State) : Host.Outcome State Fault Refusal := runAt rq.t (State.serve · 0xB2 rq (gnsCorrectionsH rq)) s

/-- GNS_COLD_START (R287): ACCEPTED, then the final reply. -/
def execGnsColdStart (rq : Rq) (s : State) : Host.Outcome State Fault Refusal :=
  runAt rq.t (State.serve · 0xB3 rq (gnsColdH rq)) s

end Sys2Proof.Machine
end

