-- ==== Sys2Proof/Machine/Registers.lean ====
section
/-! DEFINITION. Register accesses and the mailbox (chapter 03): REG_READ, REG_WRITE, REG_READ_BLOCK, MBX_READ, crossings, snapshots; writes with effects on the CRC units, the CAN controllers and the recorder's window. -/

namespace Sys2Proof.Machine

/-- A bus error at an address (R67). -/
def State.busErr (s : State) (addr : Nat) : State :=
  let s1 := s.setReg Reg.sysStatus (setBits (s.reg Reg.sysStatus) 2 1 1)
  let s2 := s1.setReg Reg.sysBuserrAddr (addr % 2 ^ 32)
  s2.setReg Reg.sysBuserrCount ((s2.reg Reg.sysBuserrCount + 1) % 2 ^ 32)

/-- SYS_XSTALL after an access (R71). -/
def State.stalled (s : State) (ns : Nat) : State :=
  s.setReg Reg.sysXstall (setBits (s.reg Reg.sysXstall) 0 16 (Nat.max (bits (s.reg Reg.sysXstall) 0 16) (satN 16 ns)))

/-- A field after a software write meets what hardware does in the same clock (Table 3.2), and whether the write was discarded. -/
def Fld.write (f : Fld) (old value : Nat) (x : Cross) : Nat × Bool :=
  let o := bits old f.lo f.w
  let v := bits value f.lo f.w
  match f.cls with
  | .rw => (v, false)
  | .wo => (v, false)
  | .rws => (((2 ^ f.w - 1 - bits x.done f.lo f.w) &&& o) ||| v, false)
  | .w1c => (((2 ^ f.w - 1 - v) &&& o) ||| bits x.setBits f.lo f.w, false)
  | .rwh => if bits x.hwMask f.lo f.w = 0 then (v, false) else (bits x.hwVal f.lo f.w, true)
  | .cnt => ((v + x.inc) % 2 ^ f.w, false)

/-- A register's word after a software write: its new value, and whether an RWH field discarded the write (R75). A non-zero write to a reserved bit is ignored (log 117). -/
def RegGroup.write (g : RegGroup) (old value : Nat) (x : Cross) : Nat × Bool :=
  g.flds.foldl (fun a f =>
    let r := f.write old value x
    (setBits a.1 f.lo f.w r.1, a.2 || r.2)) (old, false)

/-! The mailbox (R76 to R80). -/

/-- Whether an identifier is defined. -/
def mbxIds : List Nat :=
  [0x0001, 0x0002, 0x0101, 0x0102, 0x0103, 0x0401, 0x0402, 0x0403, 0x0404, 0x0405, 0x0901, 0x0B01, 0x0B02, 0x0C01, 0x0C02, 0x0C03, 0x0C04, 0x0C05,
   0x0D01, 0x0D02, 0x0D03, 0x0E01, 0x0E02, 0x0F01, 0x1001, 0x1201, 0x1202, 0x1301]

/-- MBX_SEL written: a snapshot starts, or BADID is set (R76, R79); one of a powered-down block's value starts too (log 117). -/
def State.mbxSelect (s : State) (t value : Nat) : State :=
  let id := value % 65536
  let s1 := s.setReg Reg.mbxSel id
  let m := s1.mbx.at_ t
  if mbxIds.contains id then
    let s2 := if m.valid then s1.plainFx (.flag Reg.mbxStat 3) else s1
    { s2 with mbx := { m with pend := some id, back := none, valid := false } }
  else ({ s1 with mbx := m } : State).plainFx (.flag Reg.mbxStat 2)

/-- The snapshot under way is taken at MONO `t`; its words have crossed back at MONO `done` (R76). -/
def State.mbxSnap (s : State) (t done : Nat) : State :=
  let m := s.mbx.at_ t
  match m.pend, m.back with
  | some id, none => { s with mbx := { m with back := some (done, (s.mbxWords t id).getD m.data) }.at_ t }
  | _, _ => { s with mbx := m }

/-- A read of MBX_DATA7: an unread snapshot is read; one that completes in this very clock stays VALID (R77, R78). -/
def State.mbxTaken (s : State) (t : Nat) : State :=
  let m := s.mbx.at_ t
  { s with mbx := if s.mbx.backAt t then m else { m with valid := false } }

/-! CRC units (R316, R317). -/

def crcAt (r u : Nat) : Nat := r + 64 * u

def State.crcCode (s : State) (u : Nat) : Nat := bits (s.reg (crcAt Reg.crcCtrl u)) 0 3

def State.modCrc (s : State) (u : Nat) (f : CrcUnit → CrcUnit) : State := { s with crc := modNth s.crc u f }

/-- INIT: the initial value is loaded. -/
def State.crcLoad (s : State) (u : Nat) : State :=
  let s1 := s.setReg (crcAt Reg.crcValue u) (crcInit (s.crcCode u))
  s1.setReg (crcAt Reg.crcCtrl u) (setBits (s1.reg (crcAt Reg.crcCtrl u)) 3 1 0)

/-- A value of unit `u` that the spec calls unpredictable, since CRC_VALUE, POLY or SIZE was written while BUSY was 1 (R321, log 119). -/
def State.crcFree (s : State) (u k : Nat) : Nat := Config.freeNat 119 [(u : Int), (k : Int), (s.mono : Int), (s.reg (crcAt Reg.crcValue u) : Int)]

/-- CRC_VALUE of a running unit is unpredictable after it was written. -/
def State.crcSpoilt (s : State) (u : Nat) : State :=
  if (s.crc.getD u {}).busy then s.setReg (crcAt Reg.crcValue u) (s.crcFree u 0 % 2 ^ 32) else s

/-- CRC_CTRL of a running unit, written with another POLY or SIZE than `old` has: both fields and CRC_VALUE are unpredictable. -/
def State.crcRetuned (s : State) (u old : Nat) : State :=
  let a := crcAt Reg.crcCtrl u
  let new := s.reg a
  if (s.crc.getD u {}).busy && (bits new 0 3 != bits old 0 3 || bits new 5 2 != bits old 5 2) then
    (s.setReg a (setBits (setBits new 0 3 (s.crcFree u 1)) 5 2 (s.crcFree u 2))).crcSpoilt u
  else s

/-- START: DMA runs. -/
def State.crcBegin (s : State) (u : Nat) : State :=
  let s1 := s.setReg (crcAt Reg.crcCtrl u) (setBits (s.reg (crcAt Reg.crcCtrl u)) 4 1 1)
  s1.modCrc u (fun c => { c with busy := true })

/-- CRC_DATA: bytes as SIZE sets, least significant first; discarded with COLL while DMA runs. -/
def State.crcData (s : State) (u value : Nat) : State :=
  if (s.crc.getD u {}).busy then s.plainFx (.flag (crcAt Reg.crcStat u) 1) else
  let size := bits (s.reg (crcAt Reg.crcCtrl u)) 5 2
  let n := if size = 0 then 1 else if size = 1 then 2 else if size = 2 then 4 else Config.freeNat 43 [(size : Int)] % 5
  s.setReg (crcAt Reg.crcValue u) (crcFeed (s.crcCode u) (s.reg (crcAt Reg.crcValue u)) (leBytes n value))

/-- The bytes DMA moves for the unit's source and length, and whether the region's end stopped it. -/
def State.crcSource (s : State) (u : Nat) : List Byte × Bool :=
  lgcDma s.cfg.active s.lgc.data s.lgc.consts (bits (s.reg (crcAt Reg.crcDmaSrc u)) 0 25) (bits (s.reg (crcAt Reg.crcDmaLen u)) 0 24)

/-- DMA completes, having moved the bytes of its source as they stand. -/
def State.crcDone (s : State) (u : Nat) : State :=
  let c := s.crc.getD u {}
  if !c.busy then s else
  let data := (s.crcSource u).1
  let s1 := s.setReg (crcAt Reg.crcValue u) (crcFeed (s.crcCode u) (s.reg (crcAt Reg.crcValue u)) data)
  let s2 := if (s1.crcSource u).2 then s1.plainFx (.flag (crcAt Reg.crcStat u) 2) else s1
  if c.again then s2.modCrc u (fun c => { c with again := false })
  else
    let s3 := s2.setReg (crcAt Reg.crcCtrl u) (setBits (s2.reg (crcAt Reg.crcCtrl u)) 4 1 0)
    s3.modCrc u (fun c => { c with busy := false })

/-! CAN and recorder registers with effects. -/

def State.can (s : State) (c : Nat) : Can := if c = 0 then s.can0 else s.can1
def State.setCan (s : State) (c : Nat) (k : Can) : State := if c = 0 then { s with can0 := k } else { s with can1 := k }

/-- RESTART: bus-off recovery begins (R309). -/
def State.canRestart (s : State) (c : Nat) : State :=
  let k := s.can c
  if k.state = .busOff then s.setCan c { k with recovering := true } else s

/-- REC_CURSOR written: the load begins (R454). -/
def State.recLoadBegin (s : State) (t value : Nat) : State := { s with recd := { s.recd with windowDue := some (t + 20000) }, regs := (s.setReg Reg.recCursor value).regs }

/-! Accesses. -/

/-- Units 0 and 1 of the CRC block are RO for the host (R316). -/
def hostReadOnly (addr : Nat) : Bool := blockOf addr == 20 && decide (addr % 0x10000 < 0x80)

/-- What a write does beyond its fields; `old` is the word before it. -/
def State.writeEffect (s : State) (t addr old value : Nat) (x : Cross) : State :=
  match regIdx Reg.crcCtrl 64 4 addr, regIdx Reg.crcData 64 4 addr, regIdx Reg.can0FifoStat 128 2 addr, regIdx Reg.can1FifoStat 128 2 addr with
  | some u, _, _, _ =>
    let s0 := s.crcRetuned u old
    let s1 := if bits value 3 1 = 1 then s0.crcLoad u else s0
    if bits value 4 1 = 0 then s1
    else if (s1.crc.getD u {}).busy && bits x.done 4 1 == 1 then s1.modCrc u (fun c => { c with again := true })
    else s1.crcBegin u
  | none, some u, _, _ => s.crcData u value
  | none, none, some f, _ => if bits value 8 1 = 1 then (s.setReg addr (setBits (s.reg addr) 8 1 0)).setCan 0 (canPop f s.can0) else s
  | none, none, none, some f => if bits value 8 1 = 1 then (s.setReg addr (setBits (s.reg addr) 8 1 0)).setCan 1 (canPop f s.can1) else s
  | none, none, none, none =>
    if addr = Reg.can0Ctrl then (if bits value 0 1 = 1 then (s.setReg addr 0).canRestart 0 else s)
    else if addr = Reg.can1Ctrl then (if bits value 0 1 = 1 then (s.setReg addr 0).canRestart 1 else s)
    else if addr = Reg.mbxSel then s.mbxSelect t value
    else match regIdx Reg.crcValue 64 4 addr with
    | some u => s.crcSpoilt u
    | none =>
      if addr = Reg.recCursor then s.recLoadBegin t value else s

/-- A software write of an existing register: the state, and whether it was discarded. -/
def State.writeReg (s : State) (t addr value : Nat) (x : Cross) : State × Bool :=
  match regFind addr with
  | none => (s, false)
  | some g =>
    if hostReadOnly addr then (s, false) else
    let r := g.write (s.reg addr) value x
    let s1 := s.setReg addr r.1
    let s2 := if r.2 then
        let a := s1.setReg Reg.sysStatus (setBits (s1.reg Reg.sysStatus) 0 1 1)
        let b := a.setReg Reg.sysWlostAddr addr
        b.setReg Reg.sysWlostCount ((b.reg Reg.sysWlostCount + 1) % 2 ^ 32)
      else s1
    (s2.writeEffect t addr (s.reg addr) value x, r.2)

/-- A read's side effect: VALID (R77). -/
def State.readEffect (s : State) (t addr : Nat) : State := if addr = Reg.mbxData + 28 then s.mbxTaken t else s

/-- A crossing abandoned after 100 µs (R72): XTO, its event; MAXSTALL is left (log 117). -/
def State.crossLost (s : State) (t addr : Nat) (write : Bool) : State :=
  s.apply t [.flag Reg.sysStatus 1, .event 7 (u32 addr ++ u8 (b2n write))]

/-- An access by software that answers nothing: a bus error, nothing in a powered-down block (R73), an abandoned crossing (R72), or its effect and its stall (R71). -/
def State.access (s : State) (t addr : Nat) (x : Cross) (write : Bool) (f : State → State) : State :=
  if (regFind addr).isNone then s.busErr addr
  else if s.blockDown (blockOf addr) then s
  else match x.lost with
    | some took => (if took && write then f s else s).crossLost t addr write
    | none => f (s.stalled x.stall)

/-- REG_READ (R67, R70 to R74). -/
def regReadH (x : Cross) (rq : Rq) (_ : Opn) (s : State) : State × Resp :=
  let addr := getU32 rq.payload 0
  if (regFind addr).isNone then (s.busErr addr, .reply st.busError [])
  else if s.blockDown (blockOf addr) then refuseWith s st.wrongState
  else if x.lost.isSome then (s.crossLost rq.t addr false, .reply st.timeout [])
  else
    let v := s.readReg rq.t addr
    ((s.readEffect rq.t addr).stalled x.stall, .reply st.ok (u32 v ++ u16 (satN 16 x.stall) ++ u16 0))

/-- REG_WRITE (R65, R66, R69). The stall of the write is compared before the write takes effect (log 117). -/
def regWriteH (x : Cross) (rq : Rq) (_ : Opn) (s : State) : State × Resp :=
  let addr := getU32 rq.payload 0
  let value := getU32 rq.payload 4
  if blockOf addr = 17 then refuseWith s st.denied
  else if (regFind addr).isNone then (s.busErr addr, .reply st.busError [])
  else if s.blockDown (blockOf addr) then refuseWith s st.wrongState
  else match x.lost with
    | some took => ((if took then (s.writeReg rq.t addr value x).1 else s).crossLost rq.t addr true, .reply st.timeout [])
    | none =>
      let (s1, disc) := (s.stalled x.stall).writeReg rq.t addr value x
      (s1, .reply st.ok (u16 (satN 16 x.stall) ++ u8 (b2n disc) ++ u8 0))

/-- Why a block read stopped before its end. -/
inductive BlockStop where
  | bus (index : Nat)
  | lost (addr : Nat)
  deriving DecidableEq, Repr

/-- The words of a block read: the values read and the whole stall, and what stopped it. -/
def readBlockGo (t : Nat) : Nat → Nat → Nat → List Cross → State × List Nat × Nat → (State × List Nat × Nat) × Option BlockStop
  | 0, _, _, _, q => (q, none)
  | k + 1, addr, i, xs, (s, vs, stall) =>
    let x := xs.headD Cross.plain
    if (regFind addr).isNone then ((s.busErr addr, vs, stall), some (.bus i))
    else if x.lost.isSome then ((s.crossLost t addr false, vs, stall), some (.lost addr))
    else
      let v := s.readReg t addr
      readBlockGo t k (addr + 4) (i + 1) xs.tail ((s.readEffect t addr).stalled x.stall, vs ++ [v], stall + x.stall)

/-- REG_READ_BLOCK (R64, R68, R72); its words are read as of one instant (log 117). -/
def readBlockH (xs : List Cross) (rq : Rq) (_ : Opn) (s : State) : State × Resp :=
  let addr := getU32 rq.payload 0
  let n := getU16 rq.payload 4
  if n = 0 ∨ 256 < n then refuseWith s st.wrongState
  else if (regFind addr).isSome && s.blockDown (blockOf addr) then refuseWith s st.wrongState
  else
    match readBlockGo rq.t n addr 0 xs (s, [], 0) with
    | ((s1, _, _), some (.bus i)) => (s1, .reply st.busError (u16 i ++ u16 0))
    | ((s1, _, _), some (.lost _)) => (s1, .reply st.timeout [])
    | ((s1, vs, stall), none) => (s1, .reply st.ok (u32 stall ++ u16 n ++ u16 0 ++ vs.flatMap u32))

/-- A mailbox read as one sequence (R80): the state after it and the words; its snapshot is that of the command's instant (log 117). -/
def State.mbxSequence (s : State) (t id : Nat) : State × List Nat :=
  let s1 := (s.mbxSelect t id).mbxSnap t t
  ({ s1 with mbx := { s1.mbx with valid := false } }, s1.mbx.data)

/-- A mailbox read whose crossing is abandoned: MBX_SEL is written, no snapshot arrives. -/
def State.mbxLost (s : State) (t id : Nat) : State :=
  let s1 := s.mbxSelect t id
  ({ s1 with mbx := { s1.mbx with pend := none } } : State).crossLost t Reg.mbxSel false

/-- MBX_READ (R79, R80). -/
def mbxReadH (x : Cross) (rq : Rq) (_ : Opn) (s : State) : State × Resp :=
  let id := getU16 rq.payload 0
  if !mbxIds.contains id then refuseWith s st.wrongState
  else if s.blockDown (id / 256) then refuseWith s st.wrongState
  else if x.lost.isSome then (s.mbxLost rq.t id, .reply st.timeout [])
  else
    let r := s.mbxSequence rq.t id
    (r.1.stalled x.stall, .reply st.ok (u16 id ++ u16 0 ++ u16 (satN 16 x.stall) ++ u16 0 ++ r.2.flatMap u32))

/-- A register request of an opcode whose crossing is abandoned (R72), in a block read after the accesses `xs`; `took` tells whether a write took effect. A request
that does not cross is answered as it is. -/
def crossTimeoutH (op : Nat) (xs : List Cross) (took : Bool) (rq : Rq) : Opn → State → State × Resp :=
  let x : Cross := { Cross.plain with lost := some took }
  match op with
  | 0x11 => regWriteH x rq
  | 0x12 => readBlockH (xs ++ [x]) rq
  | 0x13 => mbxReadH x rq
  | _ => regReadH x rq

/-! Meanings. -/

/-- REG_READ (R67). -/
def execRegRead (rq : Rq) (x : Cross) (s : State) : Host.Outcome State Fault Refusal := runAt rq.t (State.serve · 0x10 rq (regReadH x rq)) s

/-- REG_WRITE (R66). -/
def execRegWrite (rq : Rq) (x : Cross) (s : State) : Host.Outcome State Fault Refusal := runAt rq.t (State.serve · 0x11 rq (regWriteH x rq)) s

/-- REG_READ_BLOCK (R68). -/
def execRegReadBlock (rq : Rq) (xs : List Cross) (s : State) : Host.Outcome State Fault Refusal := runAt rq.t (State.serve · 0x12 rq (readBlockH xs rq)) s

/-- MBX_READ (R80). -/
def execMbxRead (rq : Rq) (x : Cross) (s : State) : Host.Outcome State Fault Refusal := runAt rq.t (State.serve · 0x13 rq (mbxReadH x rq)) s

/-- REGISTER_WRITE (R75): a write of any register by software; an address that is no register is a bus error. -/
def execRegisterWrite (t addr value : Nat) (x : Cross) (s : State) : Host.Outcome State Fault Refusal :=
  runAt t (fun s => s.access t addr x true (fun s => (s.writeReg t addr value x).1)) s

/-- REG_CROSS_TIMEOUT (R72). -/
def execRegCrossTimeout (rq : Rq) (op : Nat) (xs : List Cross) (took : Bool) (s : State) : Host.Outcome State Fault Refusal :=
  runAt rq.t (State.serve · op rq (crossTimeoutH op xs took rq)) s

/-- MBX_SEL_WRITE (R76, R79). -/
def execMbxSelWrite (t value : Nat) (x : Cross) (s : State) : Host.Outcome State Fault Refusal :=
  runAt t (fun s => s.access t Reg.mbxSel x true (fun s => s.mbxSelect t value)) s

/-- MBX_SNAPSHOT_COMPLETE (R76): the snapshot is taken at MONO `t` and completes at MONO `done`. -/
def execMbxSnapshotComplete (t done : Nat) (s : State) : Host.Outcome State Fault Refusal := runAt t (fun s => s.mbxSnap t done) s

/-- MBX_DATA7_READ (R77, R78). -/
def execMbxData7Read (t : Nat) (x : Cross) (s : State) : Host.Outcome State Fault Refusal :=
  runAt t (fun s => s.access t (Reg.mbxData + 28) x false (fun s => s.mbxTaken t)) s

/-- CRC_INIT (R317). -/
def execCrcInit (t unit : Nat) (x : Cross) (s : State) : Host.Outcome State Fault Refusal :=
  runAt t (fun s => s.access t (crcAt Reg.crcCtrl unit) x true (fun s => s.crcLoad unit)) s

/-- CRC_START (R317). -/
def execCrcStart (t unit : Nat) (x : Cross) (s : State) : Host.Outcome State Fault Refusal :=
  runAt t (fun s => s.access t (crcAt Reg.crcCtrl unit) x true (fun s => s.crcBegin unit)) s

/-- CRC_DMA_COMPLETE (R317). -/
def execCrcDmaComplete (t unit : Nat) (s : State) : Host.Outcome State Fault Refusal := runAt t (fun s => s.crcDone unit) s

/-- CRC_DATA_WRITE (R317). -/
def execCrcDataWrite (t unit value : Nat) (x : Cross) (s : State) : Host.Outcome State Fault Refusal :=
  runAt t (fun s => s.access t (crcAt Reg.crcData unit) x true (fun s => s.crcData unit value)) s

/-- CRC_VALUE_WRITE (R317): a saved context restored. -/
def execCrcValueWrite (t unit value : Nat) (x : Cross) (s : State) : Host.Outcome State Fault Refusal :=
  runAt t (fun s => s.access t (crcAt Reg.crcValue unit) x true (fun s => (s.setReg (crcAt Reg.crcValue unit) (value % 2 ^ 32)).crcSpoilt unit)) s

/-- CAN_FIFO_POP (R310). -/
def execCanFifoPop (t ctl fifo : Nat) (x : Cross) (s : State) : Host.Outcome State Fault Refusal :=
  runAt t (fun s => s.access t ((if ctl = 0 then Reg.can0FifoStat else Reg.can1FifoStat) + 128 * fifo) x true (fun s => s.setCan ctl (canPop fifo (s.can ctl)))) s

/-- CAN_CTRL_RESTART (R309). -/
def execCanCtrlRestart (t ctl : Nat) (x : Cross) (s : State) : Host.Outcome State Fault Refusal :=
  runAt t (fun s => s.access t (if ctl = 0 then Reg.can0Ctrl else Reg.can1Ctrl) x true (fun s => s.canRestart ctl)) s

/-- REC_CURSOR_WRITE (R454). -/
def execRecCursorWrite (t value : Nat) (s : State) : Host.Outcome State Fault Refusal := runAt t (fun s => s.recLoadBegin t value) s

/-- REC_WINDOW_LOADED (R454). -/
def execRecWindowLoaded (t : Nat) (s : State) : Host.Outcome State Fault Refusal :=
  runAt t (fun s => if s.recd.windowDue.isSome then { s with recd := recLoad (s.reg Reg.recCursor) s.recd } else s) s

end Sys2Proof.Machine
end

