-- ==== Sys2Proof/Machine/Links.lean ====
section
/-! DEFINITION. Serial links, alerts, IEC 61162-450 and CAN (chapter 12), Chain (chapter 13), analogue and discrete I/O (chapter 14): what happens and what is asked. -/

namespace Sys2Proof.Machine

/-! Serial links. -/

/-- VESSEL for the dating of sentences: none while UNSET. -/
def State.vesselKnown (s : State) (t : Nat) : Option Int := if s.tim.vessel.state = .unset then none else some (s.vessel t : Nat)

def State.port (s : State) (p : Nat) : SerPort := s.ser.ports.getD (p - 1) {}

def State.setPort (s : State) (p : Nat) (x : SerPort) : State := { s with ser := { s.ser with ports := s.ser.ports.set (p - 1) x } }

/-- An ACN is never executed: event 86, and an ARC on its port and, where alerts go there, on IEC 61162-450 (R303, R305). -/
def State.refuseAcn (s : State) (t p : Nat) (x : Sent) : State :=
  let cfg := s.cfg.active
  let s1 := s.apply t (acnFx p x)
  if !s1.active then s1 else
  let s2 := s1.setPort p (txPush (arcText x) (s1.port p))
  if s450Out cfg = 0 then s2 else
    (List.range 2).foldl (fun (b : State) k =>
      if bits (s450Ports cfg) k 1 = 1 then
        (b.emit (.iec450 (k == 1) (s450Out cfg) (s450OutPort cfg) ipHdr (alertDatagram cfg (arcText x)))).plainFx (.count (cnt450 7) 1)
      else b) s2

/-- A sentence ends on a MODE 1 port (R296 to R300). -/
def State.sentenceEnd (s : State) (t p : Nat) : State :=
  if p = 0 ∨ 8 < p ∨ s.blockDown 8 ∨ serMode s.cfg.active p ≠ 1 then s else
  let (x, ys, acn, fx) := serEnd s.cfg.active p t (s.vesselKnown t) (s.port p)
  let s1 := ((s.setPort p x).apply t fx).samplesIn ys
  match acn with
  | some a => s1.refuseAcn t p a
  | none => s1

/-- A unit of a port's transmit queue has been sent (R302); a Standby or Backup sends none (R320). -/
def State.serialSent (s : State) (t p : Nat) : State :=
  if p = 0 ∨ 8 < p ∨ (s.port p).txq.isEmpty ∨ s.blockDown 8 ∨ !s.active then s else
  let (x, b, fx) := txDone p (s.port p)
  ((s.setPort p x).emit (.serial p b)).apply t fx

/-- A datagram of IEC 61162-450; one that IN_GROUP, IN_PORT and PORTS do not name is not received (R304). -/
def State.datagramIn (s : State) (t : Nat) (portB : Bool) (group port src : Nat) (d : List Byte) : State :=
  let cfg := s.cfg.active
  if s.blockDown 8 ∨ s450In cfg = 0 ∨ group ≠ s450In cfg ∨ port ≠ s450InPort cfg ∨ bits (s450Ports cfg) (b2n portB) 1 = 0 then s else
  let (p, ys, fx) := datagram450 cfg t src (s.vesselKnown t) d s.ser.p450
  (({ s with ser := { s.ser with p450 := p } } : State).apply t fx).samplesIn ys

/-- LNK_GET_COUNTERS (R318). -/
def lnkCountersH (rq : Rq) (_ : Opn) (s : State) : State × Resp :=
  let c := getU8 rq.payload 0
  let reply := fun (state : Nat) (regs : List Nat) => (s, Resp.reply st.ok (u8 c ++ u8 state ++ zeros 2 ++ regs.flatMap (fun a => u32 (s.reg a))))
  if 1 ≤ c ∧ c ≤ 8 then reply (serPortStat s.cfg.active s.ser.ports c % 4) ((List.range 8).map (serCnt c))
  else if c = 0x50 then reply (if s450In s.cfg.active = 0 then 0 else 1) ((List.range 8).map cnt450)
  else if c = 0x10 ∨ c = 0x11 then reply (canCode (s.can (c - 0x10)).state) ((List.range 12).map (canCnt (c - 0x10)))
  else refuseWith s st.wrongState

/-- LNK_CAN_TX (R318). -/
def lnkCanH (rq : Rq) (_ : Opn) (s : State) : State × Resp :=
  let c := getU8 rq.payload 0
  let m := getU8 rq.payload 1
  let n := getU8 rq.payload 2
  match canLoadCheck s.cfg.active c m n (s.can c) with
  | 0 => (s.setCan c (canLoad s.cfg.active c m rq.t (slice rq.payload 4 n) (s.can c)), .reply st.ok [])
  | 1 => refuseWith s st.wrongState
  | _ => refuseWith s st.busy

/-- LNK_SER_TX (R318). -/
def lnkSerH (rq : Rq) (_ : Opn) (s : State) : State × Resp :=
  let p := getU8 rq.payload 0
  let n := getU16 rq.payload 2
  if p = 0 ∨ 8 < p ∨ serMode s.cfg.active p ≠ 1 then refuseWith s st.wrongState
  else if txFree (s.port p) < n then refuseWith s st.busy
  else
    let x := txPush (slice rq.payload 4 n) (s.port p)
    (s.setPort p x, .reply st.ok (u16 (txFree x) ++ zeros 2))

/-- SERIAL_SENTENCE (R296). -/
def execSerialSentence (t port : Nat) (s : State) : Host.Outcome State Fault Refusal := runAt t (fun s => s.sentenceEnd t port) s

/-- LNK_SER_SILENT (R301). -/
def execLnkSerSilent (t : Nat) (s : State) : Host.Outcome State Fault Refusal :=
  runAt t (fun s => if s.blockDown 8 then s else
    let (ps, fx) := serSilence s.cfg.active t s.ser.ports; ({ s with ser := { s.ser with ports := ps } } : State).apply t fx) s

/-- SERIAL_TX_COMPLETE (R302). -/
def execSerialTxComplete (t port : Nat) (s : State) : Host.Outcome State Fault Refusal := runAt t (fun s => s.serialSent t port) s

/-- ALERT_ALF_REPEAT (R303). -/
def execAlertAlfRepeat (t : Nat) (s : State) : Host.Outcome State Fault Refusal :=
  runAt t (fun s => let (q, txt) := alertRepeat s.cfg.active t s.ser; State.alertsOut { s with ser := q } txt) s

/-- ALERT_ALC_LIST (R303). -/
def execAlertAlcList (t : Nat) (s : State) : Host.Outcome State Fault Refusal :=
  runAt t (fun s => let (q, txt) := alertList t s.ser; State.alertsOut { s with ser := q } txt) s

/-- IEC_450_DATAGRAM (R304). -/
def execIec450Datagram (t : Nat) (portB : Bool) (group port src : Nat) (data : List Byte) (s : State) : Host.Outcome State Fault Refusal :=
  runAt t (fun s => s.datagramIn t portB group port src data) s

/-- LNK_GET_COUNTERS (R318). -/
def execLnkGetCounters (rq : Rq) (s : State) : Host.Outcome State Fault Refusal := runAt rq.t (State.serve · 0xD0 rq (lnkCountersH rq)) s

/-- LNK_CAN_TX (R318). -/
def execLnkCanTx (rq : Rq) (s : State) : Host.Outcome State Fault Refusal := runAt rq.t (State.serve · 0xD1 rq (lnkCanH rq)) s

/-- LNK_SER_TX (R318). -/
def execLnkSerTx (rq : Rq) (s : State) : Host.Outcome State Fault Refusal := runAt rq.t (State.serve · 0xD2 rq (lnkSerH rq)) s

/-! CAN FD. -/

/-- What a controller does while its block runs (R294, R485). -/
def State.canAt (s : State) (c : Nat) (f : State → State) : State := if s.blockDown (blockOf (canReg c 0)) then s else f s

/-- A frame arrives without error (R310 to R314). -/
def State.canIn (s : State) (t c : Nat) (f : CanFrame) : State :=
  let (k, ys, fx) := canRx s.cfg.active c t f (fun m => bits (s.reg (moStat c m)) 0 1 == 1) (s.can c)
  ((s.setCan c k).apply t fx).samplesIn ys

/-- An attempt to send ends (R308, R311); a Standby or Backup sends no host frames (R320). -/
def State.canOut (s : State) (t c m : Nat) (r : CanTx) : State :=
  if !s.active ∧ !(canN2k s.cfg.active c && m == 127) then s else
  let (k, sent, fx) := canTxDone s.cfg.active c m r (s.can c)
  let s1 := (s.setCan c k).apply t fx
  match sent with
  | some f => s1.emit (.can c f)
  | none => s1

/-- CAN_FRAME_RX (R310). -/
def execCanFrameRx (t ctl : Nat) (frame : CanFrame) (s : State) : Host.Outcome State Fault Refusal := runAt t (fun s => s.canAt ctl (fun s => s.canIn t ctl frame)) s

/-- CAN_TX_COMPLETE (R311). -/
def execCanTxComplete (t ctl obj : Nat) (res : CanTx) (s : State) : Host.Outcome State Fault Refusal := runAt t (fun s => s.canAt ctl (fun s => s.canOut t ctl obj res)) s

/-- CAN_BUS_INTEGRATION (R309). -/
def execCanBusIntegration (t ctl : Nat) (s : State) : Host.Outcome State Fault Refusal :=
  runAt t (fun s => s.canAt ctl (fun s => let (k, fx) := canIntegrate s.cfg.active ctl (s.can ctl); (s.setCan ctl k).apply t fx)) s

/-- CAN_BUS_ERROR (R309). -/
def execCanBusError (t ctl : Nat) (err : CanErr) (s : State) : Host.Outcome State Fault Refusal :=
  runAt t (fun s => s.canAt ctl (fun s => let (k, fx) := canError s.cfg.active ctl err (s.can ctl); (s.setCan ctl k).apply t fx)) s

/-! Chain. -/

def State.fldd (s : State) (t : Nat) (r : ChainSt × List Fx) : State := ({ s with fld := r.1 } : State).apply t r.2

/-- The MONO time of the tick of a Chain cycle. -/
def chainTickOf (f : ChainSt) (cyc : Nat) : Nat := f.tick - signed 32 ((f.cyc + 2 ^ 32 - cyc % 2 ^ 32) % 2 ^ 32) * 1000000 |>.toNat

/-- A byte of a value block; one beyond the input area is free (R347, log 126). -/
def chainBlockByte (stn k : Nat) (input : List Byte) : Byte := if k < input.length then input.getD k 0 else byteOf (Config.freeNat 126 [4, (stn : Int), (k : Int)])

/-- The samples of a clean datagram (R332). -/
def chainSamples (cfg : Mem) (f : ChainSt) (stn : Nat) (d : Datagram) : List RawSample :=
  ((linkStreams cfg 0x30).filter (fun n => selByte cfg n 0 == stn && d.cyc % chainDiv (strRate cfg n) == 0)).map (fun n =>
    let ofs := selByte cfg n 2 + 256 * selByte cfg n 3
    { stream := n, stamp := d.stamp, body := zeros 8 ++ (List.range 24).map (fun k => chainBlockByte stn (ofs + k) d.input), chain := some (d.cyc, chainTickOf f d.cyc), seqFix := none })

/-- The Chain cycle completes (R327, R332, R333). -/
def State.chainDone (s : State) (t : Nat) : State :=
  let (f, ds, fx) := chainComplete s.cfg.active t s.fld
  let fx1 := if fx.any isColovr then fx ++ [.event 14 []] else fx
  (s.fldd t (f, fx1)).samplesIn (ds.flatMap (fun d => chainSamples s.cfg.active f d.1 d.2))

/-- A field port's link changes; without any link the Redundancy Manager notes since when (R415). -/
def State.linkChange (s : State) (t : Nat) (portB up : Bool) : State :=
  let s1 := s.fldd t (fldLink s.cfg.active portB up s.fld)
  let none_ : Bool := !s1.fld.linkA && !s1.fld.linkB
  { s1 with red := { s1.red with noLink := if none_ then (match s1.red.noLink with
    | some x => some x
    | none => some t) else none } }

/-- A scan is sent. -/
def State.scanOut (s : State) (t : Nat) : State :=
  let (f, tx, fx) := scanSend s.cfg.active t s.fldMaster s.fld
  tx.foldl (fun a x => a.emit (.chain x.1 (Config.fieldMac x.1) x.2)) (s.fldd t (f, fx))

/-- A scan completes or is lost. -/
def State.scanIn (s : State) (t : Nat) (a b : Option (List ScanEntry)) : State :=
  let (f, rep, fx) := scanComplete s.cfg.active a b s.fld
  let s1 := s.fldd t (f, fx)
  match rep with
  | some (id, data) => s1.answer id st.ok data
  | none => s1

/-- FLD_GET_STATION (R343). -/
def fldStationH (rq : Rq) (_ : Opn) (s : State) : State × Resp :=
  let n := getU8 rq.payload 0
  if n = 0 ∨ 64 < n then refuseWith s st.wrongState
  else (s, .reply st.ok (stnBytes n (s.reg (Reg.fldStnMiss + 16 * (n - 1))) (s.reg (Reg.fldStnViol + 16 * (n - 1))) (fldStn s.fld n)))

/-- FLD_SCAN (R343): a series of 32 scans. -/
def fldScanH (_ : Rq) (o : Opn) (s : State) : State × Resp :=
  if fldTopology s.cfg.active = 0 ∨ s.fld.series.isSome then refuseWith s st.wrongState
  else ({ s with fld := { s.fld with series := some { id := o.id, left := 32, last := none, differed := false } } }, .later)

/-- CHAIN_COPY_RETURN (R327, R328). -/
def execChainCopyReturn (t : Nat) (copy : ChainCopy) (s : State) : Host.Outcome State Fault Refusal :=
  runAt t (fun s => s.fldd t (chainReturn s.cfg.active copy s.fld)) s

/-- CHAIN_CYCLE_COMPLETE (R327). -/
def execChainCycleComplete (t : Nat) (s : State) : Host.Outcome State Fault Refusal := runAt t (fun s => s.chainDone t) s

/-- CHAIN_FORWARD (R341): the frame leaves unchanged on the other port where that has a link, else on the port it came from (Table 13.7). -/
def State.forward (s : State) (t : Nat) (portB : Bool) (mac : Nat) (frame : List Byte) : State :=
  if s.fldMaster then s else
  let s1 : State := { s with fld := chainForward t frame s.fld }
  let out := if (if portB then s1.fld.linkA else s1.fld.linkB) then !portB else portB
  s1.emit (.chain out mac frame)

/-- CHAIN_FORWARD (R341). -/
def execChainForward (t : Nat) (portB : Bool) (mac : Nat) (frame : List Byte) (s : State) : Host.Outcome State Fault Refusal :=
  runAt t (fun s => s.forward t portB mac frame) s

/-- FLD_FOREIGN (R339). -/
def execFldForeign (t : Nat) (_portB : Bool) (mac : Nat) (s : State) : Host.Outcome State Fault Refusal := runAt t (fun s => s.fldd t (fldForeign mac s.fld)) s

/-- CHAIN_SCAN_SEND (R336). -/
def execChainScanSend (t : Nat) (s : State) : Host.Outcome State Fault Refusal := runAt t (fun s => s.scanOut t) s

/-- CHAIN_SCAN_COMPLETE (R337). -/
def execChainScanComplete (t : Nat) (a b : Option (List ScanEntry)) (s : State) : Host.Outcome State Fault Refusal := runAt t (fun s => s.scanIn t a b) s

/-- FLD_PORT_LINK (R323). -/
def execFldPortLink (t : Nat) (portB up : Bool) (s : State) : Host.Outcome State Fault Refusal := runAt t (fun s => s.linkChange t portB up) s

/-- FLD_GET_STATION (R343). -/
def execFldGetStation (rq : Rq) (s : State) : Host.Outcome State Fault Refusal := runAt rq.t (State.serve · 0xD8 rq (fldStationH rq)) s

/-- FLD_SCAN (R343). -/
def execFldScan (rq : Rq) (s : State) : Host.Outcome State Fault Refusal := runAt rq.t (State.serve · 0xD9 rq (fldScanH rq)) s

/-! Analogue and discrete I/O. -/

/-- The channels of an AIO stream: V0's, and V1's where it has one; resolvers from 32 on. -/
def aioStreamChans (cfg : Mem) (link n : Nat) : List Nat :=
  if link = 0x41 then [31 + selByte cfg n 0]
  else (selByte cfg n 0 - 1) :: (if selByte cfg n 1 = 0 then [] else [selByte cfg n 1 - 1])

/-- Whether an output that ends at a time makes a sample of a stream (R357). -/
def aioOnGrid (cfg : Mem) (g n t : Nat) : Bool :=
  let p := 3125 * aioN cfg g
  let div := Nat.max 1 (51200000 / (aioN cfg g * strRate cfg n))
  p != 0 && ((16 * t + p / 2) / p) % div == 0

/-- The samples that an output of a channel completes (R357). -/
def aioSamples (cfg : Mem) (a : Aio) (t ch : Nat) : List RawSample :=
  let link := if ch < 32 then 0x40 else 0x41
  let of_ := fun (c : Nat) => (a.chans.getD c {}).new
  let good := fun (c : Nat) => let o := of_ c; o.te == t && !o.unsettled && !o.ovr && !o.sig
  ((linkStreams cfg link).filter (fun n =>
    let cs := aioStreamChans cfg link n
    cs.contains ch && cs.all good && aioOnGrid cfg (aioGroupOf ch) n t)).map (fun n =>
      let ws := (aioStreamChans cfg link n).map (fun c => (of_ c).w)
      { stream := n, stamp := t, body := (zeros 8 ++ ws.flatMap u32 ++ zeros 24).take 32, chain := none, seqFix := none })

/-- A decimation window ends on a channel. -/
def State.filterOut (s : State) (t ch : Nat) (raw : AioRaw) : State :=
  if s.blockDown 10 then s else
  let (a, done, fx) := aioWindow s.cfg.active t ch raw s.aio
  let s1 := (({ s with aio := a } : State).apply t fx).calReplies done
  if aioActive s.cfg.active s.aio ch && aioWindowAt s.cfg.active (aioGroupOf ch) t then s1.samplesIn (aioSamples s.cfg.active a t ch) else s1

/-- Whether a group will run once the host actions accepted so far have applied (R354). -/
def State.groupRuns (s : State) (g : Nat) : Bool :=
  s.cyc.bnds.foldl (fun r b =>
    if b.op = 0xC0 ∧ getU8 b.payload 0 = g then (if getU8 b.payload 1 = 0 then false else if getU8 b.payload 1 = 2 then true else r) else r) (aioRun s.cfg.active g)

/-- AIO_FILTER_SET (R354). -/
def aioFilterH (rq : Rq) (o : Opn) (s : State) : State × Resp :=
  if getU8 rq.payload 1 = 1 ∧ s.groupRuns (getU8 rq.payload 0) then refuseWith s st.wrongState
  else (s.queueBnd o rq s.cfg.hash [], .later)

/-- Whether a kind and a channel number from 1 exist. -/
def calExists (kind n : Nat) : Bool := decide (1 ≤ n) && ((kind == 0 && decide (n ≤ 32)) || (kind == 1 && decide (n ≤ 8)) || (kind == 2 && decide (n ≤ 16)))

/-- The reference of a calibration point as s1.23; a resolver's is not stated (log 42). -/
def State.calReference (s : State) (kind ch : Nat) (p2 : Bool) (v : Int) : Int := match kind with
  | 0 => calRef (aiRange s.cfg.active ch) v
  | 1 => Config.freeInt 42 [(1 : Int), (ch : Int), (b2n p2 : Int)]
  | _ => calOutRef p2

/-- AIO_CAL (R366): a point begins to be measured; COMMIT and FACTORY go the way of a transaction. -/
def aioCalH (rq : Rq) (o : Opn) (s : State) : State × Resp :=
  let kind := getU8 rq.payload 0
  let n := getU8 rq.payload 1
  let act := getU8 rq.payload 2
  if !calExists kind n then refuseWith s st.wrongState
  else if act = 2 ∨ act = 3 then
    if act = 2 ∧ (calSolve s.aio kind (n - 1)).isNone then refuseWith s st.wrongState else (s.queueBnd o rq s.cfg.hash [], .later)
  else if 3 < act then refuseWith s st.wrongState
  else
    let ch := n - 1
    let ready : Bool := if kind = 2 then s.ctl.mode == 0 && s.red.token else aioActive s.cfg.active s.aio (if kind = 0 then ch else 32 + ch)
    if !ready then refuseWith s st.wrongState else
    let r : CalRun :=
      { kind := kind, chan := ch, id := o.id, point2 := act == 1, sum := 0, n := 0, ref := s.calReference kind ch (act == 1) (getS32 rq.payload 4) }
    ({ s with aio := { s.aio with runs := s.aio.runs ++ [r] } }, .later)

/-- AIO_FILTER_OUTPUT (R350, R357). -/
def execAioFilterOutput (t chan : Nat) (raw : AioRaw) (s : State) : Host.Outcome State Fault Refusal := runAt t (fun s => s.filterOut t chan raw) s

/-- DI_SAMPLE (R364). -/
def execDiSample (t levels : Nat) (s : State) : Host.Outcome State Fault Refusal :=
  runAt t (fun s => if s.blockDown 10 then s else { s with aio := Sys2Proof.Machine.diSample s.cfg.active t levels s.aio }) s

/-- DO_TRIP_RETRY (R365). -/
def execDoTripRetry (t out : Nat) (s : State) : Host.Outcome State Fault Refusal := runAt t (fun s => if s.blockDown 10 then s else { s with aio := doRetry t out s.aio }) s

/-- AIO_FILTER_SET STOP (R354). -/
def execAioFilterSetStop (rq : Rq) (s : State) : Host.Outcome State Fault Refusal := runAt rq.t (State.serve · 0xC0 rq (aioFilterH rq)) s

/-- AIO_FILTER_SET LOAD (R354). -/
def execAioFilterSetLoad (rq : Rq) (s : State) : Host.Outcome State Fault Refusal := runAt rq.t (State.serve · 0xC0 rq (aioFilterH rq)) s

/-- AIO_FILTER_SET START (R354). -/
def execAioFilterSetStart (rq : Rq) (s : State) : Host.Outcome State Fault Refusal := runAt rq.t (State.serve · 0xC0 rq (aioFilterH rq)) s

/-- AIO_CAL POINT1 (R366). -/
def execAioCalPoint1 (rq : Rq) (s : State) : Host.Outcome State Fault Refusal := runAt rq.t (State.serve · 0xC1 rq (aioCalH rq)) s

/-- AIO_CAL POINT2 (R366). -/
def execAioCalPoint2 (rq : Rq) (s : State) : Host.Outcome State Fault Refusal := runAt rq.t (State.serve · 0xC1 rq (aioCalH rq)) s

/-- AIO_CAL COMMIT (R366). -/
def execAioCalCommit (rq : Rq) (s : State) : Host.Outcome State Fault Refusal := runAt rq.t (State.serve · 0xC1 rq (aioCalH rq)) s

/-- AIO_CAL FACTORY (R366). -/
def execAioCalFactory (rq : Rq) (s : State) : Host.Outcome State Fault Refusal := runAt rq.t (State.serve · 0xC1 rq (aioCalH rq)) s

end Sys2Proof.Machine
end

