-- ==== Sys2Proof/Machine/SafeGlue.lean ====
section
/-! DEFINITION. The Safety Evaluator's requests and happenings (chapter 16). -/

namespace Sys2Proof.Machine

/-- The Safety Evaluator after a computation, with its effects. -/
def State.safd (s : State) (t : Nat) (r : Saf × List Fx) : State := ({ s with saf := r.1 } : State).apply t r.2

/-- Bit 0 of a log entry's flags: VESSEL not LOCKED (Table 16.7). -/
def State.logFlags (s : State) : Nat := if s.tim.vessel.state = .locked then 0 else 1

/-- The final reply of a commit that has applied. -/
def State.safReply (s : State) (r : Option (Nat × Nat × Nat)) : State := match r with
  | some (id, old, new) => s.answer id st.ok (u32 old ++ u32 new)
  | none => s

/-- A SAF cycle (R397, R403). -/
def State.safCycled (s : State) (t : Nat) (m : SafMeas) : State :=
  let (x, rep, fx) := Sys2Proof.Machine.safCycle s.sup.auxS.valid m s.logFlags (s.vessel t) s.saf
  (s.safd t (x, fx)).safReply rep

/-- A safety opcode of a host at `t`: sessions without one for 600 s have ended, the host's own is refreshed (R407). -/
def State.safHost (s : State) (t : Nat) (h : Ident) : State :=
  let s1 := s.safd t (safExpire t s.saf)
  { s1 with saf := safTouch t h s1.saf }

/-- The seconds left of a host's session, as SAF_LOGIN answers them. -/
def State.sessionLeft (s : State) (t : Nat) (h : Ident) : Nat := match safSession s.saf h with
  | some x => 600 - (t - x.last) / 1000000000
  | none => 0

/-- SAF_LOGIN, action 0 (R407, R408): a session opens, the staging area holds the active configuration. -/
def State.safLogin (s : State) (t slot : Nat) (h : Ident) (pw : List Byte) : State × Resp :=
  if safLocked t s.saf then refuseWith s st.denied
  else if safPwOk s.saf slot pw then
    let x : SafSession := { ident := h, slot := slot, last := t }
    let f : Saf := { s.saf with
      sessions := s.saf.sessions.filter (fun y => y.ident != h) ++ [x]
      staging := s.saf.cfg }
    let s1 := s.safd t (f, [.event 105 [byteOf slot, 0]])
    (s1, .reply st.ok (u16 (s1.sessionLeft t h) ++ zeros 2))
  else refuseWith (s.pwFailed t slot) st.denied

/-- Action 1: the host's session ends. -/
def State.safLogout (s : State) (t : Nat) (h : Ident) : State × Resp :=
  let fx := match safSession s.saf h with
    | some x => [Fx.event 105 [byteOf x.slot, 1]]
    | none => []
  (s.safd t ({ s.saf with sessions := s.saf.sessions.filter (fun y => y.ident != h) }, fx), .reply st.ok (zeros 4))

/-- Action 2: a password is changed within a session (R407, R409). -/
def State.safPassword (s : State) (t target : Nat) (h : Ident) (new : List Byte) : State × Resp :=
  match safSession s.saf h with
  | none => refuseWith s st.denied
  | some x =>
    if x.slot ≠ 0 ∧ x.slot ≠ target then refuseWith s st.denied
    else if 3 < target ∨ !pwValid new then refuseWith s st.wrongState
    else
      let crc := crc32c s.saf.cfg
      let f := safLogEntry (safSetPw target (pwText new) s.saf) 2 (x.slot + 16 * target) s.logFlags (s.vessel t) crc crc
      let s1 := s.safd t (f, [.event 106 ([2, 0, 0, 0] ++ u32 crc)])
      (s1, .reply st.ok (u16 (s1.sessionLeft t h) ++ zeros 2))

/-- SAF_LOGIN (R407): its three actions; no other is defined. -/
def safLoginH (rq : Rq) (o : Opn) (s : State) : State × Resp :=
  let p := rq.payload
  let s1 := s.safHost rq.t o.ident
  match getU8 p 1 with
  | 0 => s1.safLogin rq.t (getU8 p 0) o.ident (pwText (slice p 4 8))
  | 1 => s1.safLogout rq.t o.ident
  | 2 => s1.safPassword rq.t (getU8 p 2) o.ident (slice p 12 8)
  | _ => refuseWith s1 st.wrongState

/-- SAF_CFG_WRITE (R408). -/
def safWriteH (rq : Rq) (o : Opn) (s : State) : State × Resp :=
  let ofs := getU16 rq.payload 0
  let n := getU16 rq.payload 2
  let s1 := s.safHost rq.t o.ident
  let f := s1.saf
  if (safSession f o.ident).isNone then refuseWith s1 st.denied
  else if 512 < ofs + n then refuseWith s1 st.badLength
  else ({ s1 with saf := { f with staging := f.staging.take ofs ++ slice rq.payload 4 n ++ f.staging.drop (ofs + n) } }, .reply st.ok [])

/-- A commit that already waits for the next SAF cycle is applied ahead of another one of the same cycle. -/
def State.safSettle (s : State) (t : Nat) : State :=
  let (x, rep, fx) := safApply s.logFlags (s.vessel t) s.saf
  (s.safd t (x, fx)).safReply rep

/-- SAF_CFG_COMMIT (R408): refused, or it applies at the next SAF cycle. -/
def safCommitH (rq : Rq) (o : Opn) (s : State) : State × Resp :=
  let s1 := s.safHost rq.t o.ident
  match safSession s1.saf o.ident with
  | none => refuseWith s1 st.denied
  | some x =>
    let crc := crc32c s1.saf.staging
    if getU32 rq.payload 0 ≠ crc ∨ s1.ctl.mode ≠ 0 then refuseWith (s1.apply rq.t [.event 106 ([1, 0, 0, 0] ++ u32 crc)]) st.wrongState else
    match safCheck s1.cfg.active s1.saf.staging with
    | some (code, fn) =>
      let f := { s1.saf with
        errCode := code
        errFn := fn }
      refuseWith (s1.safd rq.t (f, [.event 106 ([1, byteOf code, 0, 0] ++ u32 crc)])) st.range
    | none =>
      let s2 := if s1.saf.pend.isSome then s1.safSettle rq.t else s1
      ({ s2 with saf := { s2.saf with pend := some { bytes := s1.saf.staging, slot := x.slot, id := o.id } } }, .wait)

/-- SAF_GET_LOG (R410). -/
def safLogH (rq : Rq) (o : Opn) (s : State) : State × Resp :=
  let first := getU16 rq.payload 0
  let n := getU16 rq.payload 2
  let s1 := s.safHost rq.t o.ident
  if s.saf.log.length < first + n ∨ n = 0 ∨ 32 < n then refuseWith s1 st.wrongState
  else (s1, .reply st.ok (u16 s.saf.log.length ++ u16 n ++ ((s.saf.log.drop first).take n).flatten))

/-- SAF_RESET_FUNCTION (R398, R410). -/
def safResetH (rq : Rq) (o : Opn) (s : State) : State × Resp :=
  let k := getU8 rq.payload 0
  let s1 := s.safHost rq.t o.ident
  let f := s1.saf.fns.getD k {}
  if 7 < k ∨ fnReset s1.saf.cfg k ≠ 1 ∨ f.state ≠ 1 then refuseWith s1 st.wrongState
  else
    let (g, fx) := fnTo k 2 f.cause f
    (s1.safd rq.t ({ s1.saf with fns := s1.saf.fns.set k g }, fx ++ [.event 107 [byteOf k, byteOf o.hostIdx]]), .reply st.ok (u8 g.state ++ zeros 3))

/-- The levels the safety inputs show: without +24V_S those fed from TP1 and TP2, in modes 1 and 2, read low (R505). -/
def State.siLevels (s : State) (levels : Nat) : Nat :=
  if s.sup.auxS.valid then levels
  else bitmap 16 (fun j => bits levels j 1 == 1 && siMode s.saf.cfg (j / 2 + 1) != 1 && siMode s.saf.cfg (j / 2 + 1) != 2)

/-- SAF_INPUT_SAMPLE (R395, R396). -/
def execSafInputSample (t levels tp : Nat) (s : State) : Host.Outcome State Fault Refusal :=
  runAt t (fun s => s.safd t (safSample t (s.siLevels levels) tp s.saf)) s

/-- SAF_CYCLE (R397). -/
def execSafCycle (t : Nat) (meas : SafMeas) (s : State) : Host.Outcome State Fault Refusal := runAt t (fun s => s.safCycled t meas) s

/-- SAF_TELEGRAM (R401). -/
def execSafTelegram (t : Nat) (s : State) : Host.Outcome State Fault Refusal := runAt t (fun s => { s with saf := safSend s.saf }) s

/-- SAF_TELEGRAM_RX (R401). -/
def execSafTelegramRx (t consumer : Nat) (ok : Bool) (s : State) : Host.Outcome State Fault Refusal := runAt t (fun s => s.safd t (safRx consumer ok s.saf)) s

/-- SAF_OUTPUT_TEST (R403): output `out` from 0; skipped without +24V_S (R505). -/
def execSafOutputTest (t out : Nat) (low ok : Bool) (s : State) : Host.Outcome State Fault Refusal :=
  runAt t (fun s => s.safd t (safOutTest out (b2n low) (ok || !s.sup.auxS.valid) s.saf)) s

/-- SAF_CLOCK_CHECK (R403). -/
def execSafClockCheck (t ticks : Nat) (s : State) : Host.Outcome State Fault Refusal := runAt t (fun s => s.safd t (safClock ticks s.saf)) s

/-- SAF_MEMORY_TEST (R403). -/
def execSafMemoryTest (t : Nat) (ok : Bool) (s : State) : Host.Outcome State Fault Refusal :=
  runAt t (fun s => if ok then s else s.safd t (safInternal 1 s.saf)) s

/-- SAF_SESSION_TIMEOUT (R407). -/
def execSafSessionTimeout (t : Nat) (s : State) : Host.Outcome State Fault Refusal := runAt t (fun s => s.safd t (safExpire t s.saf)) s

/-- SAF_LOCKOUT_END (R407). -/
def execSafLockoutEnd (t : Nat) (s : State) : Host.Outcome State Fault Refusal :=
  runAt t (fun s => if safLocked t s.saf then s else { s with saf := { s.saf with lockUntil := none } }) s

/-- SAF_LOGIN, login (R407). -/
def execSafLoginLogin (rq : Rq) (s : State) : Host.Outcome State Fault Refusal := runAt rq.t (State.serve · 0x90 rq (safLoginH rq)) s

/-- SAF_LOGIN, logout (R407). -/
def execSafLoginLogout (rq : Rq) (s : State) : Host.Outcome State Fault Refusal := runAt rq.t (State.serve · 0x90 rq (safLoginH rq)) s

/-- SAF_LOGIN, change password (R407, R409). -/
def execSafLoginChangePassword (rq : Rq) (s : State) : Host.Outcome State Fault Refusal := runAt rq.t (State.serve · 0x90 rq (safLoginH rq)) s

/-- SAF_CFG_WRITE (R408). -/
def execSafCfgWrite (rq : Rq) (s : State) : Host.Outcome State Fault Refusal := runAt rq.t (State.serve · 0x91 rq (safWriteH rq)) s

/-- SAF_CFG_COMMIT (R408). -/
def execSafCfgCommit (rq : Rq) (s : State) : Host.Outcome State Fault Refusal := runAt rq.t (State.serve · 0x92 rq (safCommitH rq)) s

/-- SAF_GET_LOG (R410). -/
def execSafGetLog (rq : Rq) (s : State) : Host.Outcome State Fault Refusal := runAt rq.t (State.serve · 0x93 rq (safLogH rq)) s

/-- SAF_RESET_FUNCTION (R398, R410). -/
def execSafResetFunction (rq : Rq) (s : State) : Host.Outcome State Fault Refusal := runAt rq.t (State.serve · 0x94 rq (safResetH rq)) s

end Sys2Proof.Machine
end

