-- ==== Sys2Proof/Machine/Starts.lean ====
section
/-! DEFINITION. Starts of the module: cold start, warm restart, wake and reset, moored standby on request, DP-ready (R486 to R495, R456, R457). -/

namespace Sys2Proof.Machine

/-! The boot loader's choice of image (R521, R524). -/

def Fw.img (f : Fw) (b : Bool) : Img := if b then f.imgB else f.imgA

def Fw.setImg (f : Fw) (b : Bool) (x : Img) : Fw := if b then { f with imgB := x } else { f with imgA := x }

def Fw.mark (f : Fw) (b : Bool) (st : ImgState) : Fw := f.setImg b { f.img b with state := st }

/-- Whether the image that runs is on its one trial start and has not succeeded (R524). -/
def Fw.onTrial (f : Fw) : Bool := f.trialDeadline.isSome && (f.img f.runB).state == .trial

/-- The images as a start finds them: one whose trial start was cut short has had it, and has failed (log 129). -/
def Fw.found (f : Fw) : Fw := if f.onTrial then f.mark f.runB .failed else f

/-- Whether the preferred image has its one trial start before it. -/
def Fw.trialNext (f : Fw) : Bool := (f.found.img f.preferB).state == .trial

/-- The image a start runs, where `ok` tells whether the preferred one passes verification; none where the module stays in the boot loader. -/
def Fw.boot (ok : Bool) (f0 : Fw) : Fw × Bool :=
  let f := { f0.found with update := none, written := [], trialDeadline := none, mismatch := none }
  let p := f.preferB
  let x := f.img p
  if ok && (x.state == .valid || x.state == .trial) then ({ f with runB := p }, true)
  else
    let f1 := if x.state = .empty then f else f.mark p .failed
    if (f1.img (!p)).state = .valid then ({ f1 with runB := !p, preferB := !p }, true) else (f1, false)

/-! What a start keeps. -/

/-- The recorder over a start: what was absorbed in a second that had begun is recorded, the queue stays, its requests are gone; the window is empty and no host
has a cursor. -/
def recStart (mono : Nat) (r : Recorder) : Recorder × List Fx :=
  let (r1, fx) := recCoalesceEnd (mono + 1000000000) r
  ({ r1 with coalesce := [], queue := r1.queue.map (fun x => { x with reply := none }), windowDue := none, win := [], winValid := false, cursors := [] }, fx)

/-- The counters of the recorder. -/
def keepRec (regs : List (Nat × Word)) : List (Nat × Word) := regs.filter (fun c => decide (Reg.recCntDrop ≤ c.1 ∧ c.1 ≤ Reg.recCntCoalesce))

/-- The configuration of the newest sealed epoch: a commit that no sealed epoch holds is discarded (R60). -/
def State.keptCfg (s : State) : Cfg := match s.cyc.good with
  | some e => { active := e.cfg, hash := e.cfgHash, hashEpoch := e.hashEpoch, txns := [], origin := e.cfg }
  | none => { active := s.cfg.origin, hash := crc32c (Config.image s.cfg.origin), hashEpoch := 0, txns := [], origin := s.cfg.origin }

/-- The power-on record (Table 18.2). -/
def State.powerRecord (s : State) (t : Nat) : State :=
  let x := s.recRecord t 3 0 0 ([byteOf (if s.clk.start = .warm then 1 else 0), 0, 0, 0] ++ u32 (satN 32 s.clk.gapMs) ++ u64 0) none
  let (r, fx) := recEnqueue x s.recd
  ({ s with recd := r } : State).apply t fx

/-- The clock domains while the boot loader runs (Table 20.6). -/
def startDomains : List Domain := [{ src := 1, lock := true, khz := 25000 }, {}, {}, {}, {}, { domOn 2 5 1 with pllA := false }]

/-- The Clock and Power Manager at the beginning of a start whose cause came at MONO `t`; `m` is what MONO lost by it. -/
def Clk.begin (c : Clk) (kind : StartKind) (t m : Nat) : Clk :=
  { c with
    phase := .starting, domains := startDomains, op := 0, opTarget := 2, opFrom := none, opCause := 0, start := kind, startMono := t, dpReady := false,
    readyMono := 0, dpReadyMono := 0, firstTick := false, enterReq := none, enterDue := false, wakeReq := none, resetDue := none, rideEnded := false,
    saveOk := false, rcSince := c.rcSince - m, throttleAt := c.throttleAt - m, inBandSince := c.inBandSince.map (fun x => x - m),
    rideMono := c.rideMono.map (fun x => x - m) }

def Feed.rebase (m : Nat) (f : Feed) : Feed :=
  { f with above9 := f.above9.map (fun x => x - m), above62 := f.above62.map (fun x => x - m), below58 := f.below58.map (fun x => x - m) }

/-- The supply monitors keep their times where MONO starts anew. -/
def Sup.rebase (m : Nat) (u : Sup) : Sup :=
  { u with
    feedA := u.feedA.rebase m
    feedB := u.feedB.rebase m
    auxS := { u.auxS with above := u.auxS.above.map (fun x => x - m) }
    auxDo := { u.auxDo with above := u.auxDo.above.map (fun x => x - m) } }

/-- The Redundancy Manager at a start: no role, no token; straps, group size, role preference as they are (R414, R424). -/
def Red.fresh (r : Red) (t : Nat) : Red := { modNum := r.modNum, size := r.size, pref := r.pref, noLink := some t }

/-- Supply and temperature conditions of the module as a whole, which a reset leaves. -/
def State.supplyConds (s : State) : List (Nat × Nat) := s.evt.conds.filter (fun c => c.1 == 5 || c.1 == 6 || c.1 == 15)

/-! Cold start (R62, R82, R114, R142, R174, R204, R226, R245, R266, R292, R320, R345, R369, R391, R412). -/

/-- The profile in force with a personality. -/
def profIn (x : Pers × Profile) : Profile := if x.1 = .native then .strict else x.2

/-- A cold start: MONO starts at 0. -/
def State.cold (s0 : State) : State :=
  let m := s0.mono
  let (r, f1) := recStart m s0.recd
  let cfg := s0.keptCfg
  let a := cfg.active
  let s1 : State := { s0 with
    mono := 0, regs := keepRec s0.regs, pers := s0.stored.1, profile := profIn s0.stored, cfg := { cfg with hashEpoch := 0 }, chan := {},
    evt := { conds := s0.supplyConds }, cyc := {}, mbx := {}, clk := s0.clk.begin .cold 0 m, sup := s0.sup.rebase m, svc := {},
    ctl := {}, alc := {}, srv := {}, fus := { fusInitial a with satNow := decide ((coefOf a).sats ≠ 0) }, ser := {}, can0 := canStart a 0, can1 := canStart a 1, crc := List.replicate 4 {}, fld := {},
    aio := {}, lgc := lgcStart {}, red := s0.red.fresh 0, recd := { r with opBase := r.opBase + m }, pk := {},
    saf := { safStart true s0.saf with
      fails := s0.saf.fails.map (fun x => x - m)
      lockUntil := match s0.saf.lockUntil with
        | some u => if u ≤ m then none else some (u - m)
        | none => none } }
  let (tm, f2) := timCold (s1.timIn 0)
  let (g, f3) := gnsStart a 0 0 none 0 {} { store := s0.gns.store.map (fun d => { d with at_ := 0 }) }
  (({ s1 with tim := tm, gns := g } : State).apply 0 (f1 ++ f2 ++ f3 ++ satsFx 0xFF (coefOf a).sats)).powerRecord 0

/-! Warm restart (R82, R490 and the chapters' rules for it). -/

/-- A register's word of a seal as a warm restart brings it back: what software wrote is at its reset value. -/
def warmWord (a w : Nat) : Nat := match regFind a with
  | none => w
  | some g =>
    let m := g.mask (fun c => c == .rw || c == .rws || c == .wo)
    (w &&& (0xFFFFFFFF - m)) ||| (g.reset &&& m)

/-- The registers of a seal, but for the mailbox and the two addresses that R82 does not name, with the recorder's counters as they stand. -/
def warmRegs (sealed live : List (Nat × Word)) : List (Nat × Word) :=
  let old := sealed.filter (fun c => blockOf c.1 != 3 && blockOf c.1 != 19 && c.1 != Reg.sysWlostAddr && c.1 != Reg.sysBuserrAddr)
  old.foldl (fun r c => sparseSet regDflt r c.1 (BitVec.ofNat 32 (warmWord c.1 c.2.toNat))) (keepRec live)

/-- The hosts of a sealed epoch (R42, R62): their windows hold the requests whose replies it carries. -/
def warmHosts (hs : List HostRec) : List HostRec := hs.map (fun h => { h with seen := h.tickReplies.map (fun x => x.seq), held := h.tickReplies })

/-- The conditions a warm restart keeps: those of units restored from the epoch, and of the supply. -/
def State.warmConds (s : State) (e : Sealed) : List (Nat × Nat) :=
  s.supplyConds ++ e.evtActive.filter (fun c => decide (16 ≤ c.1 ∧ c.1 < 24) || decide (32 ≤ c.1 ∧ c.1 < 68) || decide (72 ≤ c.1 ∧ c.1 < 76))

/-- The beginning of a warm restart at MONO `t` from a sealed epoch; `cold` tells whether latched faults of the SAF end (R404). -/
def State.warm (s0 : State) (e : Sealed) (t : Nat) (cold : Bool) : State :=
  let (r, f1) := recStart s0.mono s0.recd
  let a := e.cfg
  let s1 : State := { s0 with
    mono := t, regs := warmRegs e.regs s0.regs, pers := e.pers, profile := e.profile,
    cfg := { active := a, hash := e.cfgHash, hashEpoch := e.hashEpoch, txns := [], origin := a },
    chan := { hosts := warmHosts e.hosts, cnt := e.cnt }, evt := { conds := s0.warmConds e },
    cyc := { number := e.number, tick := e.tick, tickV := e.tickV, ofs := e.ofs, img := e.record.img, buf := e.out, latched := e.out, last := some e,
             good := some e }, mbx := {},
    clk := s0.clk.begin .warm t 0, svc := {}, ctl := e.ctl, alc := { e.alc with prob := none }, srv := { e.srv with loops := e.srv.loops.map srvWarm },
    fus := e.fus, ser := Ser.begin t, can0 := canStart a 0, can1 := canStart a 1, crc := List.replicate 4 {},
    fld := { e.fld with linkA := false, linkB := false, running := false, inFlight := false, outA := false, outB := false, scanOut := false, series := none,
                        scanned := false },
    aio := {}, lgc := { e.lgc with cur := none, held := none }, red := s0.red.fresh t, recd := r, pk := e.pk, saf := safStart cold s0.saf }
  let (tm, f2) := timWarm (s1.timIn t) e.sealAt e.errs e.tim
  let (g, f3) := gnsStartStore a t (tm.gnssNow t) s0.gns
  (({ s1 with tim := tm, gns := g } : State).apply t (f1 ++ f2 ++ f3)).powerRecord t

/-- The start the boot loader makes: cold, or warm from an epoch where the image is not on trial; the boot loader alone where no image starts. -/
def State.boot (s : State) (t : Nat) (ok : Bool) (from_ : Option Sealed) (safCold : Bool) : State :=
  let trial := ok && s.fw.trialNext
  let (f, runs) := s.fw.boot ok
  let s1 : State := { s with fw := if s.fw.onTrial && runs then { f with rollback := some (f.runB, s.fw.runB) } else f }
  if !runs then
    let s2 := s1.cold
    { s2 with clk := { s2.clk with phase := .bootLoader } }
  else match (if trial || s.fw.onTrial then none else from_) with
    | some e => s1.warm e t safCold
    | none =>
      let s2 := s1.cold
      { s2 with fw := { s2.fw with trialDeadline := if trial then some 20000000000 else none } }

/-! The command channel becomes ready, the first resumed tick (R62, R487, R490). -/

/-- A lone module takes the token (R420). -/
def State.loneToken (s : State) (t : Nat) : State :=
  if s.red.size ≠ 0 then s else
  { s with
    red := { s.red with token := true, driver := true, lastToggle := t, lastEdge := t, confirmed := some t }
    aio := { s.aio with drven := true }
    cyc := { s.cyc with latched := s.cyc.buf } }

/-- The Liosh session leaves SERVICE when the module takes the token (R517). -/
def State.svcDrop (s : State) (t : Nat) : State :=
  if s.svc.service then ({ s with svc := { s.svc with service := false } } : State).apply t [.event 124 [0, 1]] else s

/-- The channel is ready: the state of R62, FW_ROLLBACK where the other image had to start (R524); a member of a group begins its formation (R424). -/
def State.channelUp (s0 : State) (t : Nat) : State :=
  let s := s0.domainsUp t 0
  let s1 : State := { s with
    chan := { s.chan with ready := true }
    clk := { s.clk with phase := .running, readyMono := t }
    cyc := { s.cyc with halt := false }
    red := { s.red with formUntil := if s.red.size ≠ 0 ∧ s.red.modNum ≠ 0 then some (t + 2000000000) else none } }
  let s2 := s1.apply t [.event 4 (s1.pwrDetail 0 (t - s1.clk.startMono))]
  let s3 := match s2.fw.rollback with
    | some (up, bad) => ({ s2 with fw := { s2.fw with rollback := none } } : State).apply t [.event 126 [byteOf (b2n up), byteOf (b2n bad)]]
    | none => s2
  s3.join450.loneToken t

/-- COMMAND_CHANNEL_READY's effect, once the energy store is charged (R502). A lone module's warm restart is ready at its first resumed tick. -/
def State.channelReady (s : State) (t : Nat) : State :=
  if s.clk.phase ≠ .starting ∨ !s.sup.storeCharged ∨ (s.clk.start = .warm ∧ s.red.size = 0) then s else s.channelUp t

/-- The PK-20 cycles that began in a gap: internal cycles 0 between two VESSEL times in ms. -/
def pkGap (ms0 ms1 : Nat) : Nat := (ms1 - 1) / 200 - ms0 / 200

/-- The PK-20 estimates over a gap of `k` PK-20 cycles (R476); a held result is gone with its cycle. -/
def Pk.aged (k : Nat) (p : Pk) : Pk :=
  { p with
    xN := satS 64 (p.xN + divNearAway (k * p.vN * 256) 5)
    xE := satS 64 (p.xE + divNearAway (k * p.vE * 256) 5)
    xPsi := bamOf (p.xPsi + radToBam (divNearAway (k * p.vPsi) 5))
    held := none, inTick := none, late := false, waits := [] }

/-- The gap epochs of a resumption at MONO `t` (R433, R490): their number. -/
def State.gapEpochs (s : State) (t : Nat) : Nat :=
  let p := cyclePms s.cfg.active s.pers * 1000000
  (t - s.cyc.tick - 500000) / p

/-- The newest of `n` gap epochs after a sealed one. -/
def gapSeal (pms n : Nat) (e : Sealed) : Sealed :=
  if n = 0 then e else
  { e with number := e.number + n, tick := e.tick + n * pms * 1000000, tickV := e.tickV + n * pms * 1000000, sealAt := e.sealAt + n * pms * 1000000,
           released := false }

/-- The state at the first resumed tick: gap epochs sealed, fusion epochs closed, Chain cycles missed (R115, R143, R346, R490). -/
def State.resume (s : State) (t : Nat) : State :=
  let cfg := s.cfg.active
  let n := s.gapEpochs t
  let pms := cyclePms cfg s.pers
  let tickV := s.vessel t
  let (fu, f1) := fusWarm cfg tickV s.fus
  let since := match s.cyc.good with
    | some e => e.sealAt
    | none => t
  let miss := (t - since) / 1000000
  let (fl, f2) := chainGap cfg t s.fld miss
  let s1 : State := { s with
    fus := fu
    fld := { fl with cyc := (fl.cyc + miss) % 2 ^ 32 }
    pk := if s.pers = .pk20 then s.pk.aged (pkGap (roundMs s.cyc.tickV) (roundMs tickV)) else s.pk
    ctl := s.ctl.stepResid (if s.pers = .pk20 then pkGap (roundMs s.cyc.tickV) (roundMs tickV) else n)
    cyc := { s.cyc with
      number := s.cyc.number + n, before := false, released := false, last := s.cyc.good.map (gapSeal pms n), good := s.cyc.good.map (gapSeal pms n) }
    red := { s.red with base := s.cyc.good.map (gapSeal pms n), held := s.cyc.number + n, announced := s.cyc.number + n } }
  s1.apply t (f1 ++ f2)

/-- WARM_RESTART's effect: the first resumed tick of a lone module. -/
def State.warmRestart (s : State) (t : Nat) : State :=
  if s.clk.phase ≠ .starting ∨ !s.sup.storeCharged ∨ s.clk.start ≠ .warm ∨ s.red.size ≠ 0 ∨ roundMs (s.vessel t) % cyclePms s.cfg.active s.pers ≠ 0 then s else
  ((s.resume t).plainFx (.count Reg.clkCntWarm 1)).channelUp t

/-! DP-ready (R487). -/

/-- Every running AIO group has settled. -/
def State.aioSettled (s : State) : Bool :=
  (List.range 40).all (fun ch => !aioActive s.cfg.active s.aio ch || !((s.aio.chans.getD ch {}).new.unsettled) && (s.aio.chans.getD ch {}).new.te != 0)

/-- The conditions of R487 but for the tick. -/
def State.dpReadyOk (s : State) : Bool :=
  s.clk.op == 2 && (List.range 5).all (fun d => (s.dom d).lock && 2 ≤ (s.dom d).src) && s.saf.evald && s.aioSettled &&
    (fldTopology s.cfg.active == 0 || !s.fldMaster || s.fld.scanned) && (lgcState s.cfg.active != 2 || s.lgc.lastTick.isSome)

/-- DP_READY's effect; a wake's final reply is sent (R493). -/
def State.dpReadyAt (s : State) (t : Nat) : State :=
  if s.clk.dpReady ∨ !s.inCycle ∨ s.cyc.tick ≠ t ∨ !s.dpReadyOk then s else
  let s1 : State := { s with clk := { s.clk with dpReady := true, dpReadyMono := t, wakeReq := none } }
  let s2 := s1.apply t [.event 4 (s1.pwrDetail 1 (t - s1.clk.startMono))]
  match s.clk.wakeReq with
  | some id => s2.answer id st.ok (u64 s.clk.wakeEpoch ++ u32 (satN 32 ((t - s.clk.wakeAccept) / 1000000)) ++ u32 0)
  | none => s2

/-! Wake (R493, R494). -/

/-- The logic engine at a wake: the program that ran before entry is the one that last ran. -/
def State.lgcWake (s : State) : Lgc :=
  let g := s.lgc
  let g1 := if lgcState s.cfg.active = 2 then (lgcStop s.cfg.active g).1 else g
  { lgcStart { g1 with zeroDue := false } with relOut := [], lastRun := g1.lastRun, buf := g.buf, bufSize := g.bufSize, bufCrc := g.bufCrc }

/-- The module wakes at MONO `t`: cycle state as after a cold start; counters, latches, hosts and the epoch number stay. -/
def State.awaken (s : State) (t : Nat) : State :=
  let a := s.cfg.active
  let (g, f1) := gnsWake a t (s.tim.gnssNow t) (t - s.clk.sleepMono) s.gns
  let s1 : State := { s with
    evt := { s.evt with conds := s.evt.conds.filter (fun c => decide (c.1 < 24) || decide (100 ≤ c.1)) }
    cyc := { s.cyc with
      ph := {}, law := [], done := [], answers := [], img := {}, next := {}, whole := {}, buf := {}, latched := {}, pendingSet := none, released := false,
      before := false, srvOut := List.replicate 48 0, srvNext := List.replicate 48 0, halt := false, unsealed := false, realign := false, num := Cyc.num {},
      srvCol := Cyc.srvCol {} }
    clk := { s.clk with
      phase := .running, start := .wake, startMono := t, dpReady := false, firstTick := false, wakeAccept := t, wakeEpoch := s.cyc.number + 1,
      gapMs := (t - s.clk.sleepMono) / 1000000 }
    ctl := {}
    alc := { cfgErrCode := s.alc.cfgErrCode, cfgErrThr := s.alc.cfgErrThr, cfgErrItem := s.alc.cfgErrItem }
    srv := {}
    fus := { fusInitial a with satNow := decide ((coefOf a).sats ≠ 0) }
    ser := Ser.begin t
    can0 := canStart a 0
    can1 := canStart a 1
    crc := List.replicate 4 {}
    fld := {}
    aio := {}
    lgc := s.lgcWake
    gns := g
    pk := { (({} : Pk)) with lastFrame := s.pk.lastFrame, slots := s.pk.slots }
    red := { s.red.fresh t with
      latent := s.red.latent, faulted := s.red.faulted, flags := s.red.flags, lastTest := s.red.lastTest, testResult := s.red.testResult,
      testDue := s.red.testDue, testRaised := s.red.testRaised, lastTake := s.red.lastTake, lastCause := s.red.lastCause, peers := s.red.peers,
      formUntil := if s.red.size ≠ 0 ∧ s.red.modNum ≠ 0 then some (t + 2000000000) else none } }
  let s2 := (s1.apply t (f1 ++ satsFx 0xFF (coefOf a).sats)).domainsUp t 2
  (s2.apply t [.event 4 (s2.pwrDetail 3 (t - s2.clk.wakeAccept))]).loneToken t

/-- WAKE. A start of an image on trial is a cold start (R523). -/
def wakeH (rq : Rq) (o : Opn) (s : State) : State × Resp :=
  if s.clk.phase ≠ .standby ∨ s.clk.resetDue.isSome then refuseWith s st.wrongState
  else if s.fw.trialNext then ({ s with clk := { s.clk with resetDue := some { warm := false, due := rq.t, cause := 3 } } }, .later)
  else
    let s1 := s.awaken rq.t
    ({ s1 with clk := { s1.clk with wakeReq := some o.id } }, .later)

/-! Moored standby, reset, personality (R491, R495, R456, R457). -/

/-- ENTER_STANDBY at acceptance. A member without a role has no cycle to complete, so it enters at once (DEDUCED, log 116). -/
def standbyH (rq : Rq) (o : Opn) (s : State) : State × Resp :=
  if !s.standbyOk then refuseWith s st.wrongState
  else if s.red.size ≠ 0 ∧ s.red.role = .none then (s.enterStandby rq.t, .twice st.ok (u64 s.cyc.number))
  else boundary rq o s

/-- SELECT_PERSONALITY at acceptance. Where no cycle of its own carries it, the selection is stored at once (DEDUCED, log 116). -/
def selectH (rq : Rq) (o : Opn) (s : State) : State × Resp :=
  if !s.selectOk rq.payload then refuseWith s st.wrongState
  else if s.active then boundary rq o s
  else
    let s1 := s.storePers rq.t rq.payload
    ({ s1 with clk := { s1.clk with resetDue := some { warm := false, due := rq.t + 100000000, cause := 1 } } },
     .twice st.ok [byteOf (getU8 rq.payload 0), byteOf (getU8 rq.payload 1), 0, 0])

/-- Whether a reset is refused: the token is held and thrusters may run. -/
def State.resetBarred (s : State) (force : Bool) : Bool := s.red.token && s.ctl.mode != 0 && !force

/-- RESET: answered at once, the reset is due 100 ms later; a kind above 1 acts as a free one (R497, log 126). -/
def resetH (rq : Rq) (_ : Opn) (s : State) : State × Resp :=
  if s.resetBarred rq.force then refuseWith s st.wrongState else
  let k := getU8 rq.payload 0
  ({ s with clk := { s.clk with resetDue := some { warm := cfgWithin 3 0 0 1 k == 1, due := rq.t + 100000000, cause := 0 } } }, .twice st.ok [byteOf k, 0, 0, 0])

/-- The reset that is due happens: kind 1 resumes from the newest sealed epoch of the stored personality. -/
def State.resetNow (s : State) (t : Nat) (d : ResetDue) : State :=
  let s1 : State := { s with mono := Nat.max s.mono t }
  let e := match d.warm, s.cyc.good with
    | true, some e => if (e.pers, e.profile) = (s.stored.1, profIn s.stored) then some e else none
    | _, _ => none
  { s1 with saved := if e.isSome then e else s.saved }.boot s1.mono true e (d.cause != 2)

/-- RESET_START's effect: what RESET, a fatal flag, a firmware start or WAKE of an image on trial has made due. -/
def State.resetStart (s : State) (t : Nat) : State :=
  match s.clk.resetDue with
  | some d => if d.cause ≠ 1 ∧ d.due ≤ t then s.resetNow t d else { s with mono := Nat.max s.mono t }
  | none => { s with mono := Nat.max s.mono t }

/-- PERSONALITY_RESTART's effect. -/
def State.persRestart (s : State) (t : Nat) : State :=
  match s.clk.resetDue with
  | some d => if d.cause = 1 ∧ d.due ≤ t then s.resetNow t d else { s with mono := Nat.max s.mono t }
  | none => { s with mono := Nat.max s.mono t }

/-! Power-on (R487, R489, R508). -/

/-- Straps, references and supply monitors as a power-on finds them. -/
def State.powerFound (s : State) (p : PowerOn) : State :=
  let on := fun (f : Feed) => { f with everValid := f.state == .valid, above9 := none, above62 := none, below58 := none }
  { s with
    clk := { s.clk with
      ref := if p.extsel && p.extOk then .ext else .oven, rcSince := 0, extsel := p.extsel, ovenFailed := false, extValid := p.extOk, warm := false,
      inBandSince := none, ovenErr := 0, throttle := false, throttleAt := 0, rideMono := none,
      gapMs := match p.gap with
        | some g => g / 1000000
        | none => Config.freeNat 58 [(s.recd.power : Int)] % 2 ^ 32 }
    sup := { s.sup with
      feedA := on s.sup.feedA, feedB := on s.sup.feedB, storeCharged := false, aonCharged := false, auxS := {}, auxDo := {}, hot := false, coldBase := false,
      mod0 := p.mod0, mod1 := p.mod1, serviceEn := p.serviceEn }
    evt := { s.evt with conds := [] }
    red := { s.red with modNum := b2n p.mod0 + 2 * b2n p.mod1, size := cfgU8 s.keptCfg.active 0x0D00 0, pref := s.red.pref } }

/-- The epoch a warm restart resumes from (R489): the saved one, where the gap is known and at most 10 s and personality and configuration agree. -/
def State.warmFrom (s : State) (p : PowerOn) : Option Sealed :=
  match p.gap, s.saved with
  | some g, some e =>
    if g ≤ 10000000000 && s.clk.saveOk && (e.pers, e.profile) == (s.stored.1, profIn s.stored) && e.cfgHash == s.keptCfg.hash then some e else none
  | _, _ => none

/-- Supply has returned: straps are read, the recorder scans its slots, the start is warm or cold. -/
def State.powerOn (s : State) (p : PowerOn) : State :=
  let from_ := if (s.fw.boot p.imgOk).2 && !(p.imgOk && s.fw.trialNext) && !s.fw.onTrial then s.warmFrom p else none
  let cut := s.clk.rideEnded && !s.clk.saveOk
  let t : Nat := match from_, p.gap with
    | some e, some g => e.sealAt + g
    | _, _ => 0
  let op : Int := (s.recd.opNv : Int) * 100000000
  let (r, f1) := recScan p.lost { s.recd with power := s.recd.power + 1, coalesce := [], opBase := op - (t : Int) }
  let s1 : State := ({ s with mono := 0, recd := r } : State).powerFound p
  let s2 : State := { s1 with saf := { s1.saf with fails := [], lockUntil := none } }
  let s3 := s2.boot t p.imgOk from_ true
  s3.apply s3.mono ((if cut then [.flag Reg.clkStatus clkSavefail] else []) ++ f1)

/-- A command that may start the module anew: its end is at the MONO time that results. -/
def runStart (f : State → State) (s : State) : Host.Outcome State Fault Refusal :=
  let s1 := f { s with out := [] }
  .next (s1.finish s1.mono s.pending)

/-! Commands. -/

/-- RESET with kind 0 (R495): ACCEPTED, then the final reply. -/
def execResetCold (rq : Rq) (s : State) : Host.Outcome State Fault Refusal := runAt rq.t (State.serve · 0x03 rq (resetH rq)) s

/-- RESET with kind 1 (R495): ACCEPTED, then the final reply. -/
def execResetWarm (rq : Rq) (s : State) : Host.Outcome State Fault Refusal := runAt rq.t (State.serve · 0x03 rq (resetH rq)) s

/-- RESET_START (R495). -/
def execResetStart (t : Nat) (s : State) : Host.Outcome State Fault Refusal := runStart (fun s => s.resetStart t) s

/-- ENTER_STANDBY (R491). -/
def execEnterStandby (rq : Rq) (s : State) : Host.Outcome State Fault Refusal := runAt rq.t (State.serve · 0x06 rq (standbyH rq)) s

/-- WAKE (R493). -/
def execWake (rq : Rq) (s : State) : Host.Outcome State Fault Refusal := runAt rq.t (State.serve · 0x07 rq (wakeH rq)) s

/-- SELECT_PERSONALITY (R456). -/
def execSelectPersonality (rq : Rq) (s : State) : Host.Outcome State Fault Refusal := runAt rq.t (State.serve · 0x08 rq (selectH rq)) s

/-- PERSONALITY_RESTART (R457). -/
def execPersonalityRestart (t : Nat) (s : State) : Host.Outcome State Fault Refusal := runStart (fun s => s.persRestart t) s

/-- POWER_ON (R487, R489). -/
def execPowerOn (p : PowerOn) (s : State) : Host.Outcome State Fault Refusal := runStart (fun s => s.powerOn p) s

/-- CORE_RESTART (R503): 10 ms after the save, as at supply return. -/
def execCoreRestart (p : PowerOn) (s : State) : Host.Outcome State Fault Refusal :=
  runStart (fun s => if s.clk.phase = .off then s.powerOn p else s) s

/-- COMMAND_CHANNEL_READY (R62). -/
def execCommandChannelReady (t : Nat) (s : State) : Host.Outcome State Fault Refusal := runAt t (fun s => s.channelReady t) s

/-- DP_READY (R487). -/
def execDpReady (t : Nat) (s : State) : Host.Outcome State Fault Refusal := runAt t (fun s => s.dpReadyAt t) s

/-- WARM_RESTART (R490). -/
def execWarmRestart (t : Nat) (s : State) : Host.Outcome State Fault Refusal := runAt t (fun s => s.warmRestart t) s

end Sys2Proof.Machine
end

