-- ==== Sys2Proof/Machine/Firmware.lean ====
section
/-! DEFINITION. Firmware images: update, trial, roll-back (R521 to R526). -/

namespace Sys2Proof.Machine

/-! Bytes held of an update. -/

/-- Intervals of offsets, ascending and apart, with [a, b) joined in. -/
def addSpan (a b : Nat) : List (Nat × Nat) → List (Nat × Nat)
  | [] => if a < b then [(a, b)] else []
  | (c, d) :: r =>
    if b < c then (if a < b then (a, b) :: (c, d) :: r else (c, d) :: r)
    else if d < a then (c, d) :: addSpan a b r
    else addSpan (Nat.min a c) (Nat.max b d) r

/-- Offsets covered. -/
def spanSize (xs : List (Nat × Nat)) : Nat := xs.foldl (fun n x => n + (x.2 - x.1)) 0

/-- Bytes of an image. -/
def Img.slice (x : Img) (o n : Nat) : List Byte := (List.range n).map (fun i => sparseGet (fun _ => 0#8) x.bytes (o + i))

def imgSet (m : List Host.Cell) (o : Nat) (bs : List Byte) : List Host.Cell :=
  bs.zipIdx.foldl (fun (a : List Host.Cell) b => sparseSet (fun _ => 0#8) a (o + b.2) b.1) m

/-- A byte of FW_UPDATE_DATA: over a byte held with other content unpredictable (R526, log 130). -/
def fwByte (w : List (Nat × Nat)) (x : Img) (o : Nat) (b : Byte) : Byte :=
  let old := sparseGet (fun _ => 0#8) x.bytes o
  if w.any (fun y => decide (y.1 ≤ o ∧ o < y.2)) && old != b then byteOf (Config.freeNat 130 [(o : Int), (old.toNat : Int), (b.toNat : Int)]) else b

/-! Verification (Table 22.2, R523). -/

/-- MAGIC, PART and SIZE. -/
def imgFormat (size : Nat) (x : Img) : Bool :=
  x.slice 0 4 == ascii ['W', 'S', 'F', 'W'] && x.slice 4 2 == u16 0x0480 && leNat (x.slice 8 4) == size && decide (4096 ≤ size ∧ size ≤ 8388608)

/-- The signature over everything before it. -/
def imgSigned (size : Nat) (x : Img) : Bool :=
  let key := leNat (x.slice 6 1)
  decide (key < 2) && ecdsaOk (Config.vendorKey key) (x.slice 0 (size - 64)) (beNat (x.slice (size - 64) 32)) (beNat (x.slice (size - 32) 32))

/-- Result of FW_UPDATE_END: 0 valid, 1 bytes missing, 2 signature, 3 format. -/
def imgVerify (size held : Nat) (x : Img) : Nat := if held < size then 1 else if !imgFormat size x then 3 else if !imgSigned size x then 2 else 0

/-- VERSION as the image's bytes give it. -/
def Img.version (x : Img) : List Byte := x.slice 12 4

/-! Requests. -/

/-- FW_UPDATE_BEGIN (R522). -/
def fwBeginH (rq : Rq) (_ : Opn) (s : State) : State × Resp :=
  if s.fw.update.isSome then refuseWith s st.busy else
  let b := !s.fw.runB
  let empty : Img := { state := .empty, major := 0, minor := 0, patch := 0, bytes := [] }
  let f : Fw := { s.fw.setImg b empty with update := some { toB := b, size := getU32 rq.payload 0, held := 0, last := rq.t }, written := [] }
  ({ s with fw := f }, .reply st.ok [byteOf (b2n b), byteOf (b2n s.fw.runB), 0, 0])

/-- FW_UPDATE_DATA (R522): bytes beyond SIZE are no part of the image. -/
def fwDataH (rq : Rq) (_ : Opn) (s : State) : State × Resp :=
  match s.fw.update with
  | none => refuseWith s st.wrongState
  | some u =>
    let o := getU32 rq.payload 0
    let x := s.fw.img u.toB
    let bs := ((rq.payload.drop 8).take (u.size - o)).zipIdx.map (fun b => fwByte s.fw.written x (o + b.2) b.1)
    let w := addSpan o (o + bs.length) s.fw.written
    let f : Fw := { s.fw.setImg u.toB { x with bytes := imgSet x.bytes o bs } with update := some { u with held := spanSize w, last := rq.t }, written := w }
    ({ s with fw := f }, .reply st.ok (u32 (spanSize w)))

/-- The image an update leaves in a state. -/
def Fw.updated (f : Fw) (u : Update) (x : Img) : Fw := { f.setImg u.toB x with update := none, written := [] }

/-- What FW_UPDATE_END answers of a target that is left EMPTY is not stated (log 59). -/
def abandonReply (u : Update) : List Byte :=
  [byteOf (Config.freeNat 59 [0, (u.held : Int)]), byteOf (b2n u.toB), 0, 0] ++ u32 (Config.freeNat 59 [1, (u.held : Int)])

/-- FW_UPDATE_END (R522, R523): actions 0 verify, 1 verify and start, 2 abandon; no other is defined. -/
def fwEndH (rq : Rq) (_ : Opn) (s : State) : State × Resp :=
  let a := getU8 rq.payload 0
  match s.fw.update with
  | none => refuseWith s st.wrongState
  | some u =>
    if 2 < a ∨ (a = 1 ∧ s.ctl.mode ≠ 0) then refuseWith s st.wrongState
    else if a = 2 then
      let empty : Img := { state := .empty, major := 0, minor := 0, patch := 0, bytes := [] }
      ({ s with fw := s.fw.updated u empty }, .twice st.ok (abandonReply u))
    else
      let x := s.fw.img u.toB
      let res := imgVerify u.size u.held x
      let v := x.version
      let y : Img := { x with state := if res = 0 then .trial else .failed, major := getU8 v 0, minor := getU8 v 1, patch := getU16 v 2 }
      let f := s.fw.updated u y
      let s1 : State := { s with
        fw := { f with preferB := if res = 0 then u.toB else f.preferB }
        clk := { s.clk with resetDue := if a = 1 ∧ res = 0 then some { warm := false, due := rq.t + 100000000, cause := 4 } else s.clk.resetDue } }
      (s1.apply rq.t [.event 125 ([byteOf (b2n u.toB), byteOf res, 0, 0] ++ v)], .twice st.ok ([byteOf res, byteOf (b2n u.toB), 0, 0] ++ v))

/-- FW_UPDATE_TIMEOUT's effect: an update without an opcode for 600 s is abandoned; its target stays EMPTY. -/
def State.fwTimeout (s : State) (t : Nat) : State :=
  match s.fw.update with
  | none => s
  | some u =>
    if t < u.last + 600000000000 then s else
    let empty : Img := { state := .empty, major := 0, minor := 0, patch := 0, bytes := [] }
    { s with fw := s.fw.updated u empty }

/-- TRIAL_WATCHDOG's effect (R524): the image on trial has failed; the other one starts, cold, if it is VALID. -/
def State.trialOver (s : State) (t : Nat) : State :=
  match s.fw.trialDeadline with
  | none => { s with mono := Nat.max s.mono t }
  | some d =>
    if t < d then { s with mono := Nat.max s.mono t } else
    let bad := s.fw.runB
    let s1 : State := { s with mono := Nat.max s.mono t, fw := s.fw.mark bad .failed }
    let s2 := s1.boot s1.mono true none true
    if s2.clk.phase = .bootLoader then s2 else { s2 with fw := { s2.fw with rollback := some (!bad, bad) } }

/-! Commands. -/

/-- FW_UPDATE_BEGIN (R522). -/
def execFwUpdateBegin (rq : Rq) (s : State) : Host.Outcome State Fault Refusal := runAt rq.t (State.serve · 0xF1 rq (fwBeginH rq)) s

/-- FW_UPDATE_DATA (R522). -/
def execFwUpdateData (rq : Rq) (s : State) : Host.Outcome State Fault Refusal := runAt rq.t (State.serve · 0xF2 rq (fwDataH rq)) s

/-- FW_UPDATE_END, action 0 (R523). -/
def execFwUpdateEndVerify (rq : Rq) (s : State) : Host.Outcome State Fault Refusal := runAt rq.t (State.serve · 0xF3 rq (fwEndH rq)) s

/-- FW_UPDATE_END, action 1 (R523). -/
def execFwUpdateEndVerifyStart (rq : Rq) (s : State) : Host.Outcome State Fault Refusal := runAt rq.t (State.serve · 0xF3 rq (fwEndH rq)) s

/-- FW_UPDATE_END, action 2 (R523). -/
def execFwUpdateEndAbandon (rq : Rq) (s : State) : Host.Outcome State Fault Refusal := runAt rq.t (State.serve · 0xF3 rq (fwEndH rq)) s

/-- FW_UPDATE_TIMEOUT (R522). -/
def execFwUpdateTimeout (t : Nat) (s : State) : Host.Outcome State Fault Refusal := runAt t (fun s => s.fwTimeout t) s

/-- TRIAL_WATCHDOG (R524). -/
def execTrialWatchdog (t : Nat) (s : State) : Host.Outcome State Fault Refusal := runStart (fun s => s.trialOver t) s

end Sys2Proof.Machine
end

