-- ==== Sys2Proof/Machine/Liosh.lean ====
section
/-! DEFINITION. The Liosh service monitor (R515 to R520). -/

namespace Sys2Proof.Machine

/-- A command line (Table 22.1), `bad` where it is none. -/
inductive LCmd where
  | help
  | id
  | status
  | reg (addr count : Nat)
  | mbx (id : Nat)
  | events
  | recd (first n : Nat)
  | time
  | links
  | service
  | view
  | regw (addr value : Nat)
  | kat
  | fwSelect (imageB : Bool)
  | reset (warm : Bool)
  | bad
  deriving DecidableEq, Repr

/-! Reading a line. -/

def space : Byte := 0x20

/-- The words of a line between spaces; `cur` is the word begun, last character first. -/
def lineWords : List Byte → List Byte → List (List Byte)
  | cur, [] => if cur.isEmpty then [] else [cur.reverse]
  | cur, b :: r => if b = space then (if cur.isEmpty then lineWords [] r else cur.reverse :: lineWords [] r) else lineWords (b :: cur) r

def lioshDigit (b : Byte) : Option Nat :=
  let n := b.toNat
  if 48 ≤ n ∧ n ≤ 57 then some (n - 48) else if 65 ≤ n ∧ n ≤ 70 then some (n - 55) else if 97 ≤ n ∧ n ≤ 102 then some (n - 87) else none

/-- Digits in a base; underscores pass in hexadecimal. -/
def readDigits (base : Nat) : Option Nat → List Byte → Option Nat
  | acc, [] => acc
  | acc, b :: r =>
    if base = 16 ∧ b = 0x5F ∧ acc.isSome then readDigits base acc r else
    match lioshDigit b with
    | some d => if d < base then readDigits base (some (acc.getD 0 * base + d)) r else none
    | none => none

/-- A number: hexadecimal with 0x, decimal otherwise; at most 32 bits. -/
def readNum (w : List Byte) : Option Nat :=
  let n := match w with
    | 0x30#8 :: 0x78#8 :: r => readDigits 16 none r
    | _ => readDigits 10 none w
  match n with
  | some v => if v < 2 ^ 32 then some v else none
  | none => none

/-- The command of a line. -/
def readLine (line : List Byte) : LCmd :=
  let is := fun (w : List Byte) (cs : List Char) => w == ascii cs
  match lineWords [] line with
  | [w] =>
    if is w ['h', 'e', 'l', 'p'] then .help else if is w ['i', 'd'] then .id else if is w ['s', 't', 'a', 't', 'u', 's'] then .status
    else if is w ['e', 'v', 'e', 'n', 't', 's'] then .events else if is w ['t', 'i', 'm', 'e'] then .time
    else if is w ['l', 'i', 'n', 'k', 's'] then .links else if is w ['s', 'e', 'r', 'v', 'i', 'c', 'e'] then .service
    else if is w ['v', 'i', 'e', 'w'] then .view else if is w ['k', 'a', 't'] then .kat else .bad
  | [w, x] =>
    if is w ['r', 'e', 's', 'e', 't'] then
      (if is x ['c', 'o', 'l', 'd'] then .reset false else if is x ['w', 'a', 'r', 'm'] then .reset true else .bad)
    else match readNum x with
      | none => .bad
      | some a =>
        if is w ['r', 'e', 'g'] then .reg a 1 else if is w ['m', 'b', 'x'] then .mbx a else if is w ['r', 'e', 'c'] then .recd a 1 else .bad
  | [w, x, y] =>
    if is w ['f', 'w'] then
      (if is x ['s', 'e', 'l', 'e', 'c', 't'] then (if is y ['A'] then .fwSelect false else if is y ['B'] then .fwSelect true else .bad) else .bad)
    else match readNum x, readNum y with
      | some a, some b =>
        if is w ['r', 'e', 'g'] then .reg a b else if is w ['r', 'e', 'c'] then .recd a b else if is w ['r', 'e', 'g', 'w'] then .regw a b else .bad
      | _, _ => .bad
  | _ => .bad

/-! Printing. -/

def crlf : List Byte := [0x0D, 0x0A]

/-- A line of output. -/
def outLine (bs : List Byte) : List Byte := bs ++ crlf

def qSyntax : List Byte := outLine (ascii ['?', 'S', 'Y', 'N', 'T', 'A', 'X'])
def qLevel : List Byte := outLine (ascii ['?', 'L', 'E', 'V', 'E', 'L'])
def lineOk : List Byte := outLine (ascii ['O', 'K'])

/-- "?" and the name of a status a monitor command may meet (Table 2.5). -/
def qStatus (status : Nat) : List Byte :=
  outLine (if status = st.denied then ascii ['?', 'D', 'E', 'N', 'I', 'E', 'D']
    else if status = st.busError then ascii ['?', 'B', 'U', 'S', '_', 'E', 'R', 'R', 'O', 'R']
    else if status = st.timeout then ascii ['?', 'T', 'I', 'M', 'E', 'O', 'U', 'T']
    else if status = st.wrongState then ascii ['?', 'W', 'R', 'O', 'N', 'G', '_', 'S', 'T', 'A', 'T', 'E']
    else ascii ['?', 'I', 'N', 'T', 'E', 'R', 'N', 'A', 'L'])

/-- Four hexadecimal digits, and a word as the example prints it: 0x, four digits, underscore, four digits. -/
def hex4 (n : Nat) : List Byte := hex2 (n / 256 % 256) ++ hex2 (n % 256)
def hexWord (n : Nat) : List Byte := ascii ['0', 'x'] ++ hex4 (n / 65536) ++ ascii ['_'] ++ hex4 n

/-- The printed form of a reply whose layout the spec does not give (log 50): the command's number and the values shown. -/
def freeText (k : Nat) (shown : List Byte) : List Byte := Config.freeBytes 50 (byteOf k :: shown)

/-- Prompt at a level. -/
def prompt (service : Bool) : List Byte :=
  if service then ascii ['l', 'i', 'o', 's', 'h', '+', '>'] else ascii ['l', 'i', 'o', 's', 'h', '>']

/-! Commands at a level; `remote` for a line of the SERVICE opcode. -/

/-- `reg a n`; `xs` is what its accesses meet. -/
def State.lioshReg (s : State) (t addr n : Nat) (xs : List Cross) : State × List Byte :=
  if n = 0 ∨ 16 < n then (s, qSyntax)
  else if (regFind addr).isSome && s.blockDown (blockOf addr) then (s, qStatus st.wrongState)
  else match readBlockGo t n addr 0 xs (s, [], 0) with
    | ((s1, _, _), some (.bus _)) => (s1, qStatus st.busError)
    | ((s1, _, _), some (.lost _)) => (s1, qStatus st.timeout)
    | ((s1, vs, _), none) => (s1, freeText 3 (u32 addr ++ vs.flatMap u32))

/-- `mbx id`. -/
def State.lioshMbx (s : State) (t id : Nat) (x : Cross) : State × List Byte :=
  if !mbxIds.contains id ∨ s.blockDown (id / 256) then (s, qStatus st.wrongState)
  else if x.lost.isSome then (s.mbxLost t id, qStatus st.timeout)
  else
    let r := s.mbxSequence t id
    (r.1.stalled x.stall, outLine (ascii ['0', 'x'] ++ hex4 id ++ (r.2.take 6).flatMap (fun w => space :: hexWord w)))

/-- `regw a v`. -/
def State.lioshRegw (s : State) (t addr value : Nat) (x : Cross) : State × List Byte :=
  if blockOf addr = 17 then (s, qStatus st.denied)
  else if (regFind addr).isNone then (s.busErr addr, qStatus st.busError)
  else if s.blockDown (blockOf addr) then (s, qStatus st.wrongState)
  else match x.lost with
    | some took => ((if took then (s.writeReg t addr value x).1 else s).crossLost t addr true, qStatus st.timeout)
    | none => (((s.stalled x.stall).writeReg t addr value x).1, lineOk)

/-- The crossings of reads at addresses (R71, R72): their stalls count until one is abandoned. -/
def State.lioshCross (t : Nat) : List Nat → List Cross → State → State × Bool
  | a :: as, x :: xs, s => if x.lost.isSome then (s.crossLost t a false, false) else State.lioshCross t as xs (s.stalled x.stall)
  | _, _, s => (s, true)

/-- Values of registers read and printed; a unit that is powered down answers WRONG_STATE (R73), an abandoned crossing TIMEOUT. -/
def State.lioshPrint (s : State) (t : Nat) (addrs : List Nat) (xs : List Cross) (k : Nat) (shown : List Byte) : State × List Byte :=
  if addrs.any (fun a => s.blockDown (blockOf a)) then (s, qStatus st.wrongState) else
  let (s1, ok) := s.lioshCross t addrs xs
  (s1, if ok then freeText k shown else qStatus st.timeout)

/-- A change of the session's level. -/
def State.lioshLevel (s : State) (t : Nat) (up : Bool) : State :=
  if s.svc.service = up then s else ({ s with svc := { s.svc with service := up } } : State).apply t [.event 124 [byteOf (b2n up), 0]]

/-- `kat`: a failed test of FU, CP or SL0 to SL3 sets KAT (Table 17.4); `failed` is a mask of units. -/
def State.lioshKat (s : State) (t failed : Nat) : State × List Byte := (if failed % 64 = 0 then s else s.fatal t 4, freeText 12 [byteOf failed])

/-- `fw select`. -/
def State.lioshSelect (s : State) (b : Bool) : State × List Byte :=
  if (s.fw.img b).state = .valid then ({ s with fw := { s.fw with preferB := b } }, lineOk) else (s, qStatus st.wrongState)

/-- `reset`: as RESET, 100 ms after the reply. -/
def State.lioshReset (s : State) (t : Nat) (warm : Bool) : State × List Byte :=
  if s.resetBarred false then (s, qStatus st.wrongState)
  else ({ s with clk := { s.clk with resetDue := some { warm := warm, due := t + 100000000, cause := 0 } } }, lineOk)

/-- EVT_ACTIVE and EVT_LATCH, and what `events` shows of them. -/
def evtWords : List Nat := (List.range 8).map (fun k => Reg.evtActive + 4 * k)

def State.lioshEvents (s : State) (t : Nat) : List Byte := evtWords.flatMap (fun a => u32 (s.readReg t a))

/-- Counters of every link, and what `links` shows of them. -/
def linkCounters : List Nat :=
  (List.range 8).flatMap (fun p => (List.range 8).map (serCnt (p + 1))) ++ (List.range 8).map cnt450 ++ [0, 1].flatMap (fun c => (List.range 12).map (canCnt c))

def State.lioshLinks (s : State) : List Byte := linkCounters.flatMap (fun a => u32 (s.reg a))

/-- The registers that `status` shows. -/
def statusWords : List Nat := [Reg.redStatus, Reg.clkStatus, Reg.safStatus]

/-- One command at a level: the state and what is printed. -/
def State.lioshRun (s : State) (t : Nat) (level remote : Bool) (failed : Nat) (xs : List Cross) (c : LCmd) : State × List Byte :=
  match c with
  | .help => (s, freeText 0 [byteOf (b2n level)])
  | .id => (s, freeText 1 (s.identityBytes ++ [byteOf (b2n s.fw.runB), byteOf (imgCode s.fw.imgA.state), byteOf (imgCode s.fw.imgB.state)]))
  | .status => s.lioshPrint t statusWords xs 2 (s.summaryBytes ++ statusWords.flatMap (fun a => u32 (s.readReg t a)))
  | .reg a n => s.lioshReg t a n xs
  | .mbx id => s.lioshMbx t id (xs.headD Cross.plain)
  | .events => s.lioshPrint t evtWords xs 5 (s.lioshEvents t)
  | .recd q n =>
    if n = 0 ∨ 8 < n then (s, qSyntax)
    else (s, freeText 6 (recRead (.addr 0 0) n (recSetCursor s.recd (.addr 0 0) q false)).2)
  | .time => s.lioshPrint t [Reg.timStatus] xs 7 (timGet (s.timIn t) (s.readReg t Reg.timStatus) s.tim)
  | .links => s.lioshPrint t linkCounters xs 8 s.lioshLinks
  | .service => if !remote ∧ s.sup.serviceEn ∧ !s.red.token then (s.lioshLevel t true, []) else (s, qLevel)
  | .view => if remote then (s, []) else (s.lioshLevel t false, [])
  | .regw a v => if level then s.lioshRegw t a v (xs.headD Cross.plain) else (s, qLevel)
  | .kat => if level then s.lioshKat t failed else (s, qLevel)
  | .fwSelect b => if level then s.lioshSelect b else (s, qLevel)
  | .reset w => if level then s.lioshReset t w else (s, qLevel)
  | .bad => (s, qSyntax)
where
  imgCode (x : ImgState) : Nat := match x with
    | .empty => 0
    | .valid => 1
    | .trial => 2
    | .failed => 3

/-- A command of the session on X21: what it prints, then the prompt. The boot loader prints BOOT (R524). -/
def State.lioshLine (s : State) (t failed : Nat) (xs : List Cross) (c : LCmd) : State :=
  if s.clk.phase = .bootLoader then s.emit (.service (outLine (ascii ['B', 'O', 'O', 'T'])))
  else if !s.chan.ready then s
  else
    let (s1, txt) := s.lioshRun t s.svc.service false failed xs c
    s1.emit (.service (txt ++ prompt s1.svc.service))

/-- The outcome of `kat` typed as characters is not an operand of the command: free (log 51). -/
def katOutcome (t : Nat) : Nat := Config.freeNat 51 [(t : Int)] % 64

/-- A character received on X21 (R515); `xs` is what the accesses of a command it ends meet. -/
def State.lioshChar (s : State) (t : Nat) (b : Byte) (xs : List Cross) : State :=
  if !s.chan.ready ∧ s.clk.phase ≠ .bootLoader then s else
  let s1 := s.emit (.service [b])
  let v := s1.svc
  if b = 0x08 then { s1 with svc := { v with line := v.line.dropLast } }
  else if b = 0x0D then
    let s2 : State := { s1 with svc := { v with line := [], overflow := false } }
    if v.overflow then s2.lioshLine t 0 xs .bad
    else if (lineWords [] v.line).isEmpty then s2.emit (.service (prompt s2.svc.service))
    else s2.lioshLine t (katOutcome t) xs (readLine v.line)
  else if 128 ≤ v.line.length then { s1 with svc := { v with overflow := true } }
  else { s1 with svc := { v with line := v.line ++ [b] } }

/-- SERVICE (R520): one line at VIEW; the reply is what it prints. -/
def serviceH (xs : List Cross) (rq : Rq) (_ : Opn) (s : State) : State × Resp :=
  let (s1, txt) := s.lioshRun rq.t false true 0 xs (readLine (rq.payload.drop 4))
  (s1, .reply st.ok txt)

/-! Commands. -/

def lioshOn (t : Nat) (xs : List Cross) (c : LCmd) (s : State) : Host.Outcome State Fault Refusal := runAt t (fun s => s.lioshLine t 0 xs c) s

/-- SERVICE (R520). -/
def execService (rq : Rq) (xs : List Cross) (s : State) : Host.Outcome State Fault Refusal := runAt rq.t (State.serve · 0xF0 rq (serviceH xs rq)) s

/-- `help` (R518). -/
def execLioshHelp (t : Nat) (s : State) : Host.Outcome State Fault Refusal := lioshOn t [] .help s

/-- `id` (R518). -/
def execLioshId (t : Nat) (s : State) : Host.Outcome State Fault Refusal := lioshOn t [] .id s

/-- `status` (R518). -/
def execLioshStatus (t : Nat) (xs : List Cross) (s : State) : Host.Outcome State Fault Refusal := lioshOn t xs .status s

/-- `reg a n` (R518). -/
def execLioshReg (t addr count : Nat) (xs : List Cross) (s : State) : Host.Outcome State Fault Refusal := lioshOn t xs (.reg addr count) s

/-- `mbx id` (R518). -/
def execLioshMbx (t id : Nat) (x : Cross) (s : State) : Host.Outcome State Fault Refusal := lioshOn t [x] (.mbx id) s

/-- `events` (R518). -/
def execLioshEvents (t : Nat) (xs : List Cross) (s : State) : Host.Outcome State Fault Refusal := lioshOn t xs .events s

/-- `rec s n` (R518). -/
def execLioshRec (t first n : Nat) (s : State) : Host.Outcome State Fault Refusal := lioshOn t [] (.recd first n) s

/-- `time` (R518). -/
def execLioshTime (t : Nat) (xs : List Cross) (s : State) : Host.Outcome State Fault Refusal := lioshOn t xs .time s

/-- `links` (R518). -/
def execLioshLinks (t : Nat) (xs : List Cross) (s : State) : Host.Outcome State Fault Refusal := lioshOn t xs .links s

/-- `service` (R516). -/
def execLioshService (t : Nat) (s : State) : Host.Outcome State Fault Refusal := lioshOn t [] .service s

/-- `view` (R516). -/
def execLioshView (t : Nat) (s : State) : Host.Outcome State Fault Refusal := lioshOn t [] .view s

/-- `regw a v` (R518). -/
def execLioshRegw (t addr value : Nat) (x : Cross) (s : State) : Host.Outcome State Fault Refusal :=
  runAt t (fun s => s.lioshLine t 0 [x] (.regw addr value)) s

/-- `kat` (R518): `failed` is the mask of units whose test fails. -/
def execLioshKat (t failed : Nat) (s : State) : Host.Outcome State Fault Refusal := runAt t (fun s => s.lioshLine t failed [] .kat) s

/-- `fw select` (R518, R521). -/
def execLioshFwSelect (t : Nat) (imageB : Bool) (s : State) : Host.Outcome State Fault Refusal := lioshOn t [] (.fwSelect imageB) s

/-- `reset cold` (R518). -/
def execLioshResetCold (t : Nat) (s : State) : Host.Outcome State Fault Refusal := lioshOn t [] (.reset false) s

/-- `reset warm` (R518). -/
def execLioshResetWarm (t : Nat) (s : State) : Host.Outcome State Fault Refusal := lioshOn t [] (.reset true) s

/-- A character on the service port (R515). -/
def execLioshCharacter (t : Nat) (data : Byte) (xs : List Cross) (s : State) : Host.Outcome State Fault Refusal := runAt t (fun s => s.lioshChar t data xs) s

end Sys2Proof.Machine
end

