-- ==== Sys2Proof/Machine/Pk20.lean ====
section
/-! DEFINITION. The PK-20 personality's frames, the write of phase 120 ms and the alarm list; bytes on MODE 2 and MODE 3 serial ports (R19, R279, R295, R464 to R472). -/

namespace Sys2Proof.Machine

/-! The alarm list (R472). -/

/-- Bits of a W1C status word that the list reads. -/
def State.ctlFlag (s : State) (b : Nat) : Bool := bits (s.reg Reg.ctlStatus) b 1 == 1

/-- The streams of the reference slots. -/
def slotStreams (cfg : Mem) : List Nat := ((List.range 12).map (cmpRef cfg)).filter (fun n => n != 0xFF)

/-- The conditions of alarms 01 to 20 and 25 to 28 at phase 120 ms, by bit, from the process image of the tick; `late` is R19's late output. -/
def State.pkConditions (s : State) (t : Nat) (img : ProcImg) (late : Bool) : Nat :=
  let cfg := s.cfg.active
  let st := s.profile == .strict
  let fl := s.fus.flags
  let err := s.ctl.err
  let exc := (cmpExcPos cfg : Int)
  let hdg := bamToRad (degToBam (cmpExcHdg cfg) 65536) 28
  let ant := fun (a : Nat) => decide ((gnsInput s.gns a).supply = 1 ∨ (gnsInput s.gns a).supply = 3)
  let lost := fun (f : Feed) => f.everValid && f.state != .valid
  let c : Nat → Bool := fun n =>
    if n = 1 then (if st then s.pk.noPos else bits fl 2 1 == 1)
    else if n = 2 then (if st then s.pk.noHdg else bits fl 3 1 == 1)
    else if n = 3 then (slotStreams cfg).any (fun k => streamNow cfg s.fus k == .rejected)
    else if n = 4 then bits fl 6 1 == 1
    else if n = 5 then axisKind s.ctl.mode 0 == .auto && decide (exc * exc < err.x * err.x + err.y * err.y)
    else if n = 6 then axisKind s.ctl.mode 2 == .auto && decide (hdg.natAbs < err.n.natAbs)
    else if n = 7 then (List.range 12).any (fun k => thrType cfg (k + 1) != 0 && bits s.alc.avail k 1 == 0)
    else if n = 8 then (if st then s.pk.clips else s.ctlFlag 2 || bits (s.reg Reg.alcStatus) 0 1 == 1)
    else if n = 9 then s.pk.singular
    else if n = 10 then s.ctlFlag 4
    else if n = 11 then s.ctl.windLost
    else if n = 12 then late
    else if n = 13 then lost s.sup.feedA || lost s.sup.feedB
    else if n = 14 then (List.range 8).any (fun k => fnType s.saf.cfg k == 1 && img.fns.getD k 0 != 2)
    else if n = 15 then s.red.size != 0 && s.red.formUntil.isNone && !s.mates.any (fun m => (s.peer m).role == .standby && (s.peer m).ready)
    else if n = 16 then s.red.lastCause != 0 && decide (s.vessel t ≤ s.red.lastTake + 60000000000)
    else if n = 17 then (allStations.filter (fldEnable cfg)).any (fun k => img.stn.getD (k - 1) 0 != 3)
    else if n = 18 then s.tim.eclipse
    else if n = 19 then s.pkSilent t
    else if n = 20 then ant 0 || ant 1
    else if n = 25 then !st && cqAlarmMask s.alc.groups != 0
    else if n = 26 then !st && s.ctl.osc.any (fun (o : OscAxis) => o.active)
    else if n = 27 then !st && (fusNow s.fus).slots.any (fun (x : CalSlot) => x.ready)
    else if n = 28 then !st && s.fld.ringOpen
    else false
  bitmap 28 (fun k => c (k + 1))

/-- The list after an evaluation: conditions that start enter it unacknowledged; those that have ended and are acknowledged leave it. -/
def State.pkAlarms (s : State) (t cond : Nat) : State :=
  let p := s.pk
  let on := fun (w k : Nat) => bits w k 1 == 1
  let start := fun (k : Nat) => on cond k && !on p.cond k
  let unack := bitmap 28 (fun k => start k || on p.unack k)
  let alarms := bitmap 28 (fun k => start k || (on p.alarms k && (on cond k || on unack k)))
  let fx := (List.range 28).flatMap (fun k =>
    if on alarms k && !on p.alarms k then [Fx.event 121 [byteOf (k + 1), 1]]
    else if !on alarms k && on p.alarms k then [.event 121 [byteOf (k + 1), 0]] else [])
  ({ s with pk := { p with cond := cond, unack := unack, alarms := alarms } } : State).apply t fx

/-! The write of phase 120 ms (R19, R465). -/

/-- What read frames return beside the results of phase 0 (R469). -/
def State.pkShown (s : State) (t : Nat) (r : PkResult) : PkResult :=
  let cfg := s.cfg.active
  { r with
    mode := s.ctl.mode
    thr := (List.range 12).map (fun k =>
      let v := match s.heldNow (thrFeedback cfg (k + 1)) with
        | some h => signed 32 (unsigned 32 (h.v.getD 1 0))
        | none => 0
      (s.feedAngles.getD k 0, v, if bits s.alc.avail k 1 = 1 then 1 else if bits (s.alc.why.getD k 0) 4 1 = 1 then 2 else 0))
    slots := (List.range 12).map (fun k => if cmpRef cfg k = 0xFF then none else some (stateCode (streamNow cfg s.fus (cmpRef cfg k))))
    utc := (s.vessel t : Int) - utcOffset cfg * 1000000000
    worst := worstGroup s.alc.groups
    margin := (s.alc.groups.getD (worstGroup s.alc.groups) {}).margin
    mask := cqAlarmMask s.alc.groups
    alarms := s.pk.alarms
    unack := s.pk.unack }

/-- The held outputs written: set-points, command channels; those of logic stay. -/
def State.pkPut (s : State) (t : Nat) (o : OutSet) : State :=
  { s with
    cyc := { s.cyc with
      buf := { s.cyc.buf with epoch := o.epoch, thrust := o.thrust, az := o.az, forces := o.forces, tau := o.tau, pkAo := o.pkAo }, relAt := t } }

/-- A late output (R19). -/
def State.pkLate (s : State) (t : Nat) : State :=
  ({ s with pk := { s.pk with late := true } } : State).apply t
    [.flag Reg.ctlStatus 6, .count Reg.ctlCntPklate 1, .flag Reg.cmpStatus 2, .count Reg.cmpCntLate 1, .event 122 (u32 s.pk.cycle)]

/-- The alarm relay follows the list. -/
def State.pkRelay (s : State) : State := { s with cyc := { s.cyc with buf := { s.cyc.buf with pkDo := s.pk.unack != 0 } } }

/-- PK20_OUTPUT_WRITE's effect, at internal cycle 12. Nothing was held before the first input take after a start; the outputs then stay (R476). -/
def State.pkWrite (s : State) (t : Nat) : State :=
  if s.pers ≠ .pk20 ∨ !s.inCycle ∨ roundMs (s.vessel t) % 200 ≠ 120 ∨ (s.red.size ≠ 0 ∧ s.red.role = .none) then s else
  let img := if s.cyc.tick = t then s.cyc.img else s.takeImage t
  let late := s.pk.inTick.isSome && s.pk.held.isNone
  let s1 := if late then s.pkLate t else match s.pk.held with
    | some (o, _) => s.pkPut t o
    | none => s
  let s2 := (s1.pkAlarms t (s1.pkConditions t img late)).pkRelay
  if s2.pk.inTick.isNone then s2 else
  let shown := match s.pk.held with
    | some (_, r) => some (s2.pkShown t r)
    | none => s2.pk.shown
  { s2 with pk := { s2.pk with held := none, shown := shown, wrote := some t, reads := [] } }

/-! Frames (R467, R468). -/

/-- Whether the module reads frames on a path (R467). -/
def State.pkHears (s : State) (src : PkSrc) : Bool :=
  let cfg := s.cfg.active
  s.pers == .pk20 && s.active && s.chan.ready && !s.asleep && !s.blockDown 8 &&
    (match src with
     | .serial p => (cmpPath cfg == 0 || cmpPath cfg == 2) && p == cmpPort cfg && serMode cfg p == 3
     | .udp _ => cmpPath cfg == 1 || cmpPath cfg == 2)

/-- Byte 0 of CMP_FRAME. -/
def pkPath (src : PkSrc) : Nat := match src with
  | .serial _ => 0
  | .udp x => if x.portB then 2 else 1

/-- A frame discarded: 0 BCC, 1 length, 2 code, 3 gap; a frame cut by a new STX has no code stated (log 49). -/
def State.pkDiscard (s : State) (t : Nat) (src : PkSrc) (why : Nat) : State :=
  s.apply t [.flag Reg.cmpStatus 0, .count (if why = 0 then Reg.cmpCntBcc else Reg.cmpCntMalformed) 1,
    .event 120 [byteOf (pkPath src), byteOf (if why = 4 then Config.freeNat 49 [] else why)]]

/-- A reply with its code and data. -/
def State.pkReply (s : State) (f : PkFrame) (body : List Byte) : State := s.pkSend f.src (pkFrame (cmpStation s.cfg.active) body)

/-- A refusal (R470). -/
def State.pkRefuse (s : State) (f : PkFrame) (code e : Nat) : State := (s.plainFx (.count Reg.cmpCntNak 1)).pkReply f (pkNak code e)

/-- An executed frame's reply. -/
def State.pkAnswer (s : State) (f : PkFrame) (code : Nat) (data : List Byte) : State :=
  (s.plainFx (.count Reg.cmpCntFrames 1)).pkReply f (hex2 code ++ data)

/-! Numbers (R469). -/

/-- The data's fields; none for empty data. -/
def pkFields (data : List Byte) : List (List Byte) := if data.isEmpty then [] else splitAt 44 data []

/-- A number with exactly `k` decimals: its value × 10^k. -/
def pkNum (k : Nat) (bs : List Byte) : Option Int :=
  match parseNum bs with
  | some (v, d) => if d = k ∧ ((k = 0 ∧ bs.all (fun b => b.toNat != 46)) ∨ k ≠ 0) ∧ bs.getLast? ≠ some 46#8 then some v else none
  | none => none

/-- A number written with `k` decimals from its value × 10^k. -/
def pkText (k : Nat) (v : Int) : List Byte :=
  let n := v.natAbs
  (if v < 0 then [45#8] else []) ++ decimal (n / 10 ^ k) ++ (if k = 0 then [] else [46#8] ++ decFix k (n % 10 ^ k))

/-- Hundredths of degrees of an angle, 0 to 35,999, or tenths. -/
def pkAngle (unit : Nat) (bam : Nat) : Nat := (divNearAway ((bam * 360 * unit : Nat) : Int) (2 ^ 32)).toNat % (360 * unit)

/-- Year, month and day of days since 1970-01-01. -/
def dateOf (days : Nat) : Nat × Nat × Nat :=
  let z := days + 719468
  let era := z / 146097
  let doe := z % 146097
  let yoe := (doe - doe / 1460 + doe / 36524 - doe / 146096) / 365
  let doy := doe - (365 * yoe + yoe / 4 - yoe / 100)
  let mp := (5 * doy + 2) / 153
  let m := if mp < 10 then mp + 3 else mp - 9
  (yoe + era * 400 + (if m ≤ 2 then 1 else 0), m, doy - (153 * mp + 2) / 5 + 1)

/-- YYYYMMDDhhmmss.ss of a UTC instant in ns. -/
def pkTime (utc : Int) : List Byte :=
  let (y, m, d) := dateOf (utc / 86400000000000).toNat
  let tod := (utc % 86400000000000).toNat
  let sec := tod / 1000000000
  decFix 4 y ++ decFix 2 m ++ decFix 2 d ++ decFix 2 (sec / 3600) ++ decFix 2 (sec / 60 % 60) ++ decFix 2 (sec % 60) ++ [46#8] ++
    decFix 2 (tod / 10000000 % 100)

/-! Read frames (R469, R471). -/

def hexText (k n : Nat) : List Byte := (List.range k).map (fun i => hexDigit (n / 16 ^ (k - 1 - i) % 16))

/-- The data of a read frame from a result; none where the request's data is malformed or out of range. -/
def pkReadData (code : Nat) (req : List Byte) (r : PkResult) : Option (List Byte) :=
  let plain := fun (d : List Byte) => if req.isEmpty then some d else none
  match code with
  | 0x01 => plain (comma [decimal r.mode, decimal ((List.range 28).filter (fun k => bits r.alarms k 1 == 1)).length, decimal (r.cycle % 100000)])
  | 0x02 => plain (comma [pkText 2 (divNearAway (r.n * 100) (2 ^ 32)), pkText 2 (divNearAway (r.e * 100) (2 ^ 32))])
  | 0x03 => plain (let a := pkAngle 100 r.psi; decFix 3 (a / 100) ++ [46#8] ++ decFix 2 (a % 100))
  | 0x04 =>
    match pkFields req with
    | [f] => match pkNum 0 f with
      | some n =>
        if n < 1 ∨ 12 < n then none else
        let x := r.thr.getD (n.toNat - 1) (0, 0, 0)
        some (comma [decimal n.toNat, pkText 1 (pkAngle 10 x.1 : Nat), pkText 1 (divNearAway (x.2.1 * 10) 65536), decimal x.2.2])
      | none => none
    | _ => none
  | 0x05 => plain (comma ((List.range 24).map (fun k => decimal (r.codes.getD k 0))))
  | 0x06 => plain (comma (((List.range 28).filter (fun k => bits r.alarms k 1 == 1)).map (fun k => decFix 2 (k + 1) ++ (if bits r.unack k 1 = 1 then [42#8] else []))))
  | 0x20 => plain (comma (r.slots.map (fun x => match x with
    | some c => decimal c
    | none => [45#8])))
  | 0x30 => plain (pkTime r.utc)
  | 0x31 => plain (comma [decimal r.worst, pkText 2 (divNearAway ((r.margin * 100 : Nat) : Int) 16384), hexText 4 r.mask])
  | _ => none

/-- Counters of a read before the write of its cycle, and of one already read since the newest write. -/
def State.pkReadFx (s : State) (src : PkSrc) (code : Nat) : List Fx :=
  let early : Bool := match s.pk.inTick, s.pk.wrote with
    | some a, some b => decide (b < a)
    | some _, none => true
    | none, _ => false
  (if early then [.count Reg.cmpCntEarly 1] else []) ++ (if s.pk.reads.contains (src, code) then [.count Reg.cmpCntRepeat 1] else [])

/-- A read frame. Before any output has been written the values are not stated (log 54). -/
def State.pkRead (s : State) (f : PkFrame) (code : Nat) : State :=
  if code = 0x31 ∧ s.profile = .strict then s.pkRefuse f code 4 else
  match pkReadData code f.data (s.pk.shown.getD {}) with
  | none => s.pkRefuse f code 2
  | some d =>
    let data := if s.pk.shown.isSome then d else Config.freeBytes 54 (byteOf code :: f.data)
    let s1 := s.apply f.t (s.pkReadFx f.src code)
    ({ s1 with pk := { s1.pk with reads := if s1.pk.reads.contains (f.src, code) then s1.pk.reads else (f.src, code) :: s1.pk.reads } } : State).pkAnswer f code data

/-! Set frames (R466, R469). -/

/-- A degree value in hundredths as bam32. -/
def pkHeading (v : Int) : Nat := bamOf (degToBam v 100)

/-- Metres in hundredths as s32.32, where it fits. -/
def pkMetres (v : Int) : Option Int :=
  let x := divNearAway (v * 2 ^ 32) 100
  if satS 64 x = x then some x else none

/-- Percent as s1.15. -/
def pkPercent (v : Int) : Option Int := if -100 ≤ v ∧ v ≤ 100 then some (satS 16 (divNearAway (v * 32768) 100)) else none

/-- Two ASCII digits. -/
def pkTwo (bs : List Byte) : Option Nat :=
  if bs.length = 2 ∧ bs.all (fun b => decide (48 ≤ b.toNat ∧ b.toNat ≤ 57)) then some (10 * ((getU8 bs 0) - 48) + (getU8 bs 1 - 48)) else none

/-- The host action a set frame stands for: opcode and payload; none where its data is malformed or out of range. -/
def pkSetAction (strict : Bool) (cfg : Mem) (code : Nat) (data : List Byte) : Option (Nat × List Byte) :=
  match code, pkFields data with
  | 0x07, [f] => (pkTwo f).bind (fun n => if n ≤ 28 then some (opPkAck, [byteOf n]) else none)
  | 0x10, [f] => (pkNum 0 f).bind (fun m => if 0 ≤ m ∧ m ≤ 3 then some (0x30, [byteOf m.toNat, 0, 0, 0]) else none)
  | 0x11, [a, b] =>
    match (pkNum 2 a).bind pkMetres, (pkNum 2 b).bind pkMetres with
    | some n, some e => some (0x31, s64 n ++ s64 e ++ u32 0 ++ [1, 0, 0, 0])
    | _, _ => none
  | 0x12, [a] => (pkNum 2 a).bind (fun v => if 0 ≤ v ∧ v < 36000 then some (0x31, s64 0 ++ s64 0 ++ u32 (pkHeading v) ++ [2, 0, 0, 0]) else none)
  | 0x13, [a, b, c] =>
    match (pkNum 0 a).bind pkPercent, (pkNum 0 b).bind pkPercent, (pkNum 0 c).bind pkPercent with
    | some x, some y, some n => some (0x33, s16 x ++ s16 y ++ s16 n ++ [0, 0])
    | _, _, _ => none
  | 0x15, [a, b] =>
    match pkNum 0 a, pkNum 0 b with
    | some n, some v => if 1 ≤ n ∧ n ≤ 12 ∧ 0 ≤ v ∧ v ≤ 1 then some (0x51, [byteOf n.toNat, byteOf v.toNat, 0, 0]) else none
    | _, _ => none
  | 0x21, [a, b] =>
    match pkNum 0 a, pkNum 0 b with
    | some r, some v =>
      if 1 ≤ r ∧ r ≤ 12 ∧ 0 ≤ v ∧ v ≤ 1 then
        (if strict then some (opPkRef, [byteOf r.toNat, byteOf v.toNat])
         else some (0x42, u16 (let n := cmpRef cfg (r.toNat - 1); if n = 0xFF then 0xFFFF else n) ++ [byteOf v.toNat, 0]))
      else none
    | _, _ => none
  | _, _ => none

/-- A set frame joins the host actions that wait for their tick. -/
def State.pkSet (s : State) (f : PkFrame) (code : Nat) : State :=
  match pkSetAction (s.profile == .strict) s.cfg.active code f.data with
  | none => s.pkRefuse f code 2
  | some (op, payload) =>
    if s.pk.waits.any (fun w => w.src == f.src && w.code == code) then s.pkRefuse f code 5 else
    let id := s.chan.nextId
    let b : Bnd :=
      { id := id, at_ := f.t, op := op, payload := payload, ident := .addr 0 0, hostIdx := 0xFF, seq := 0, tag := 0, force := false, auth := false, base := 0,
        staged := [], pk := some f.src }
    { s with
      chan := { s.chan with nextId := id + 1 }
      cyc := { s.cyc with bnds := s.cyc.bnds ++ [b] }
      pk := { s.pk with waits := s.pk.waits ++ [⟨f.src, code, id⟩] } }

/-- The read codes and the set codes of Table 19.4. -/
def pkReadCodes : List Nat := [0x01, 0x02, 0x03, 0x04, 0x05, 0x06, 0x20, 0x30, 0x31]
def pkSetCodes : List Nat := [0x07, 0x10, 0x11, 0x12, 0x13, 0x15, 0x21]

/-- A frame on its path (R467 to R470): length, BCC, function code (none where it is not hexadecimal), station, execution. -/
def State.pkFrameIn (s : State) (f : PkFrame) (code : Option Nat) : State :=
  if !s.pkHears f.src then s
  else if 200 < f.data.length then s.pkDiscard f.t f.src 1
  else if !f.bccOk then s.pkDiscard f.t f.src 0
  else match code with
    | none => s.pkDiscard f.t f.src 2
    | some c =>
      if getU8 [f.station] 0 ≠ cmpStation s.cfg.active then s else
      let s1 : State := { s with pk := { s.pk with lastFrame := f.t } }
      if pkReadCodes.contains c then s1.pkRead f c
      else if pkSetCodes.contains c then s1.pkSet f c
      else s1.pkRefuse f c 1

/-- An upper-case hexadecimal digit. -/
def pkHex (b : Byte) : Option Nat := if 97 ≤ b.toNat then none else hexVal b

/-- A function code from its two characters. -/
def pkCodeOf (hi lo : Byte) : Option Nat := match pkHex hi, pkHex lo with
  | some a, some b => some (16 * a + b)
  | _, _ => none

/-! Bytes of a serial port (R279, R295, R468). -/

/-- The frame assembled: all its bytes from STX to BCC. -/
def pkWhole (t port : Nat) (bs : List Byte) : PkFrame × Option Nat :=
  let n := bs.length
  let inner := (bs.drop 1).take (n - 2)
  let f : PkFrame := { t := t, src := .serial port, station := bs.getD 1 0, data := (bs.drop 4).take (n - 6), bccOk := xorAll inner == getU8 bs (n - 1) }
  (f, if n < 6 then none else pkCodeOf (bs.getD 2 0) (bs.getD 3 0))

/-- The frame in progress is gone. -/
def State.pkDrop (s : State) : State := { s with pk := { s.pk with inFrame := false, buf := [] } }

/-- A gap of more than 100 ms within a frame discards it. -/
def State.pkGapScan (s : State) (t port : Nat) : State :=
  if s.pk.inFrame ∧ port = cmpPort s.cfg.active ∧ s.pk.bufAt + 100000000 < t then (s.pkDrop).pkDiscard t (.serial port) 3 else s

/-- A byte on the PK-20 serial port. -/
def State.pkByte (s0 : State) (t port : Nat) (b : Byte) : State :=
  if !s0.pkHears (.serial port) then s0 else
  let s := s0.pkGapScan t port
  let p := s.pk
  let start := fun (s : State) => ({ s with pk := { s.pk with inFrame := true, buf := [b], bufAt := t } } : State)
  if !p.inFrame then (if b = 2#8 then start s else s)
  else if p.buf.getLast? = some 3#8 ∧ 1 < p.buf.length then
    let (f, code) := pkWhole t port (p.buf ++ [b])
    (s.pkDrop).pkFrameIn f code
  else if b = 2#8 then start (s.pkDiscard t (.serial port) 4)
  else if 205 ≤ p.buf.length ∧ b ≠ 3#8 then (s.pkDrop).pkDiscard t (.serial port) 1
  else { s with pk := { p with buf := p.buf ++ [b], bufAt := t } }

/-- A byte on a raw RTCM port: bytes outside a frame are discarded and counted; a whole frame goes to the GNSS block. -/
def State.rtcmByte (s : State) (t port : Nat) (b : Byte) : State :=
  let x := s.port port
  let buf := x.buf ++ [b]
  let keep := fun (s : State) (bs : List Byte) => s.setPort port { x with buf := bs }
  let stray := fun (s : State) (n : Nat) => s.apply t [.count Reg.gnsCntRtcmDisc n]
  if buf.headD 0 ≠ 0xD3#8 then stray (keep s []) 1
  else if buf.length = 2 ∧ 4 ≤ b.toNat then stray (keep s (if b = 0xD3#8 then [b] else [])) (if b = 0xD3#8 then 1 else 2)
  else if 3 ≤ buf.length ∧ buf.length = beNat (slice buf 1 2) % 1024 + 6 then ((keep s []).rtcmIn t port buf).1
  else keep s buf

/-- SERIAL_BYTE's effect, by the port's mode. -/
def State.serialByte (s : State) (t port : Nat) (b : Byte) (framing : Bool) : State :=
  if port = 0 ∨ 8 < port ∨ s.blockDown 8 then s else
  match serMode s.cfg.active port with
  | 1 =>
    let (x, fx) := serByte port b framing (s.port port)
    (s.setPort port x).apply t fx
  | 2 => s.rtcmByte t port b
  | 3 => s.pkByte t port b
  | _ => s

/-! Commands. -/

/-- SERIAL_BYTE (R295). -/
def execSerialByte (t port : Nat) (data : Byte) (framing : Bool) (s : State) : Host.Outcome State Fault Refusal :=
  runAt t (fun s => s.serialByte t port data framing) s

/-- PK20_OUTPUT_WRITE (R19). -/
def execPk20OutputWrite (t : Nat) (s : State) : Host.Outcome State Fault Refusal := runAt t (fun s => s.pkWrite t) s

/-- PK20_FRAME_GAP (R468). -/
def execPk20FrameGap (t port : Nat) (s : State) : Host.Outcome State Fault Refusal :=
  runAt t (fun s => if s.pkHears (.serial port) then s.pkGapScan t port else s) s

/-- READ_STATUS (R469). -/
def execReadStatus (f : PkFrame) (s : State) : Host.Outcome State Fault Refusal := runAt f.t (fun s => s.pkFrameIn f (some 0x01)) s

/-- READ_POSITION (R469). -/
def execReadPosition (f : PkFrame) (s : State) : Host.Outcome State Fault Refusal := runAt f.t (fun s => s.pkFrameIn f (some 0x02)) s

/-- READ_HEADING (R471). -/
def execReadHeading (f : PkFrame) (s : State) : Host.Outcome State Fault Refusal := runAt f.t (fun s => s.pkFrameIn f (some 0x03)) s

/-- READ_THRUSTER (R469). -/
def execReadThruster (f : PkFrame) (s : State) : Host.Outcome State Fault Refusal := runAt f.t (fun s => s.pkFrameIn f (some 0x04)) s

/-- READ_COMMANDS (R463). -/
def execReadCommands (f : PkFrame) (s : State) : Host.Outcome State Fault Refusal := runAt f.t (fun s => s.pkFrameIn f (some 0x05)) s

/-- READ_ALARMS (R472). -/
def execReadAlarms (f : PkFrame) (s : State) : Host.Outcome State Fault Refusal := runAt f.t (fun s => s.pkFrameIn f (some 0x06)) s

/-- ACK_ALARM (R472). -/
def execAckAlarm (f : PkFrame) (s : State) : Host.Outcome State Fault Refusal := runAt f.t (fun s => s.pkFrameIn f (some 0x07)) s

/-- SET_MODE (R469). -/
def execSetMode (f : PkFrame) (s : State) : Host.Outcome State Fault Refusal := runAt f.t (fun s => s.pkFrameIn f (some 0x10)) s

/-- SET_POSITION (R469). -/
def execSetPosition (f : PkFrame) (s : State) : Host.Outcome State Fault Refusal := runAt f.t (fun s => s.pkFrameIn f (some 0x11)) s

/-- SET_HEADING (R469). -/
def execSetHeading (f : PkFrame) (s : State) : Host.Outcome State Fault Refusal := runAt f.t (fun s => s.pkFrameIn f (some 0x12)) s

/-- JOYSTICK (R469). -/
def execJoystick (f : PkFrame) (s : State) : Host.Outcome State Fault Refusal := runAt f.t (fun s => s.pkFrameIn f (some 0x13)) s

/-- THRUSTER_ENABLE (R469). -/
def execThrusterEnable (f : PkFrame) (s : State) : Host.Outcome State Fault Refusal := runAt f.t (fun s => s.pkFrameIn f (some 0x15)) s

/-- READ_REFS (R469). -/
def execReadRefs (f : PkFrame) (s : State) : Host.Outcome State Fault Refusal := runAt f.t (fun s => s.pkFrameIn f (some 0x20)) s

/-- SELECT_REF (R469). -/
def execSelectRef (f : PkFrame) (s : State) : Host.Outcome State Fault Refusal := runAt f.t (fun s => s.pkFrameIn f (some 0x21)) s

/-- READ_TIME (R469). -/
def execReadTime (f : PkFrame) (s : State) : Host.Outcome State Fault Refusal := runAt f.t (fun s => s.pkFrameIn f (some 0x30)) s

/-- READ_CONSEQUENCE (R469). -/
def execReadConsequence (f : PkFrame) (s : State) : Host.Outcome State Fault Refusal := runAt f.t (fun s => s.pkFrameIn f (some 0x31)) s

/-- PK20_UNKNOWN_FUNCTION (R470). -/
def execPk20UnknownFunction (f : PkFrame) (hi lo : Byte) (s : State) : Host.Outcome State Fault Refusal :=
  runAt f.t (fun s => s.pkFrameIn f (pkCodeOf hi lo)) s

end Sys2Proof.Machine
end

