-- ==== Sys2Proof/Machine/RedLink.lean ====
section
/-! DEFINITION. Messages of the redundancy link, joining and repair, input agreement, the opcodes of the Redundancy Manager (R21, R22, R417 to R419, R424 to R432, R439). -/

namespace Sys2Proof.Machine

/-! A sealed epoch taken as the state. -/

/-- Samples of this module admitted in epochs that `e` does not hold: not admitted where its state is resumed (R116). -/
def State.ownLater (s : State) (e : Sealed) : List Sample :=
  let later := s.fus.history.filter (fun (h : HistEpoch) => match e.fus.newest with
    | some n => decide (n < h.tv)
    | none => true)
  (later.flatMap (fun (h : HistEpoch) => h.samples)).filter (fun x => !s.red.unseen.any (fun y => y.stream == x.stream && y.seq == x.seq))

/-- PK-20 state of an epoch; frames and replies under way stay the module's own. -/
def pkAdopt (own new : Pk) : Pk :=
  { new with reads := own.reads, waits := own.waits, lastFrame := own.lastFrame, inFrame := own.inFrame, buf := own.buf, bufAt := own.bufAt }

/-- An epoch of another member as this module holds it: its tick in own MONO with agreed time as it was (R20), and of what Table 1.5 does not name (Time Unit, Chain
controller, counters, latches) its own (R82). -/
def State.ownSeal (s : State) (e : Sealed) (t at_ : Nat) : Sealed :=
  { e with
    tick := at_, ofs := ((e.tick : Nat) : Int) + e.ofs - (at_ : Int), sealAt := t, tim := s.tim, fld := s.fld, cnt := s.chan.cnt, evtActive := s.evt.conds, regs := s.regs }

/-- The module stands as at the seal of an epoch it holds, with its own clock models and unadmitted samples. -/
def State.adopt (s : State) (e : Sealed) : State :=
  { s with
    cfg := { s.cfg with active := e.cfg, hash := e.cfgHash, hashEpoch := e.hashEpoch, origin := e.cfg }
    fus := { e.fus with align := s.fus.align ++ s.ownLater e, rx := s.fus.rx, clocks := s.fus.clocks }
    ctl := e.ctl
    alc := { e.alc with prob := none }
    srv := e.srv
    lgc := { e.lgc with cur := none, held := none, relAt := none }
    pk := pkAdopt s.pk e.pk
    cyc := { s.cyc with
      number := e.number, tick := e.tick, tickV := e.tickV, ofs := e.ofs, ph := {}, law := [], done := [], answers := [], img := e.record.img, pendingSet := none,
      released := false, before := e.released, buf := e.out, last := some e, good := some e, tlim := false, iters := [0, 0, 0, 0], unsealed := false } }

/-- An epoch is received intact (R419); it counts for recovery where it follows the one held before (R25). -/
def State.holdIntact (s : State) (e : Sealed) : State :=
  let r := s.red
  let ok := r.base.isNone || e.number == r.held + 1
  { s with
    srv := e.srv
    red := { r with
      held := e.number
      base := if ok then some e else r.base
      announced := Nat.max r.announced e.number
      intactRun := if r.join then r.intactRun + 1 else r.intactRun } }

/-- A message that fails its CRC (R417). -/
def State.rlError (s : State) : State := s.plainFx (.count Reg.redCntRlerr 1)

/-! Mirrored epochs and repair. -/

/-- The parts of a sealed epoch that a member computes itself. -/
def ownParts : List Nat := [2, 3, 4, 6, 8, 9]

/-- SEAL_MESSAGE's effect. -/
def State.sealIn (s : State) (t : Nat) (m : RlSeal) : State :=
  if !m.crcOk then s.rlError
  else if !s.follows then s
  else if m.gap then
    match s.red.base with
    | some e =>
      if e.number + 1 ≠ m.epoch then s else
      let g := gapSeal (cyclePms e.cfg e.pers) 1 e
      (s.adopt g).holdIntact g
    | none => s
  else
    let s1 : State := { s with red := { s.red with announced := Nat.max s.red.announced m.epoch } }
    match s1.cyc.last with
    | some e =>
      if e.number ≠ m.epoch then ({ s1 with red := { s1.red with intactRun := 0 } } : State).control (.repair m.epoch ownParts)
      else if m.differ.isEmpty && m.sealOk then s1.holdIntact { e with srv := m.srv, out := m.out, released := m.released }
      else
        let s2 : State := { s1 with red := { s1.red with repEpoch := m.epoch, intactRun := 0 } }
        (s2.control (.repair m.epoch m.differ)).repaired t m.from_ m.epoch
    | none => ({ s1 with red := { s1.red with intactRun := 0 } } : State).control (.repair m.epoch ownParts)

/-- The Active's configuration is adopted whole (R416, R425), with the epoch at which it became active. -/
def State.adoptCfg (s : State) (c : Mem × Nat) : State :=
  let s1 := s.setConfig c.1
  { s1 with cfg := { s1.cfg with hashEpoch := c.2, txns := [], origin := c.1 } }

/-- REPAIR_MESSAGE's effect. An epoch's tick is taken over by its VESSEL time. -/
def State.repairIn (s : State) (t : Nat) (m : RlRepair) : State :=
  if !m.crcOk then s.rlError
  else if !s.follows then s
  else
    let s1 := s.plainFx (.count Reg.redCntRepair m.parts.length)
    let s2 := match m.cfg with
      | some c => s1.adoptCfg c
      | none => s1
    let s3 : State := match m.buf with
      | some b => { s2 with lgc := { s2.lgc with buf := b.1, bufSize := b.2 } }
      | none => s2
    match m.ok, m.sealed with
    | true, some e =>
      let at_ := ((t : Int) + e.tickV - (s3.vessel t : Int)).toNat
      let e1 := s3.ownSeal e t at_
      (s3.adopt e1).holdIntact e1
    | _, _ => s3

/-- What the Active sends a member that asks for parts: `all` with configuration and load buffer (R425). -/
def State.repairMsg (s : State) (all : Bool) (parts : List Nat) : RlRepair :=
  { from_ := s.red.modNum, epoch := s.red.intact, parts := parts, sealed := s.red.base, cfg := if all then some (s.cfg.active, s.cfg.hashEpoch) else none,
    buf := if all then some (s.lgc.buf, s.lgc.bufSize) else none, ok := s.red.base.isSome, crcOk := true }

/-! The record (R21, R22, R418). -/

/-- The samples of a cycle's take-in with what their streams' time sources make of them. -/
def fusTimed (cfg : Mem) (tick : Nat) (ofs : Int) (f : Fus) : List (RawSample × Sample) :=
  let due := f.rx.filter (fun x => decide (x.stamp < tick) && strEnable cfg x.stream)
  let arr := sortBy (fun (a b : RawSample) => decide (a.stamp < b.stamp) || (a.stamp == b.stamp && decide (a.stream < b.stream))) due
  (arr.foldl (fun (q : List ClockModel × List (RawSample × Sample)) x =>
    let r := timeSample cfg ofs x (q.1.getD x.stream {})
    (q.1.set x.stream r.1, q.2 ++ [(x, r.2.1)])) (f.clocks, [])).2

def sameSample (a b : Sample) : Bool := a.stream == b.stream && a.seq == b.seq

/-- Whether the epoch of a sample has left the fusion history. -/
def pastHistory (f : Fus) (x : Sample) : Bool := match f.newest with
  | some n => decide (ceilEp x.ts + 128 * epNs ≤ n)
  | none => false

/-- Whether a sample's epoch has passed its wait limit by two cycles between two ticks (R22). -/
def extraNow (cfg : Mem) (pms : Nat) (v0 v1 : Int) (x : Sample) : Bool :=
  let lim := ceilEp x.ts + ((cfgU16 cfg 0x0801 (4 * strGroup cfg x.stream) + 2 * pms : Nat) : Int) * 1000000
  decide (v0 < lim ∧ lim ≤ v1)

/-- Whether that had passed before: a sample that arrives later still was not admitted (R22). -/
def extraPast (cfg : Mem) (pms : Nat) (v0 : Int) (x : Sample) : Bool :=
  decide (ceilEp x.ts + ((cfgU16 cfg 0x0801 (4 * strGroup cfg x.stream) + 2 * pms : Nat) : Int) * 1000000 ≤ v0)

/-- Whether two bodies of the GNSS baseband differ by more than CMP_POS horizontally, or by more than CMP_HDG in heading (R288); the plane is that of R120 at the listed
latitude (log 114). -/
def gnsDiffers (cfg : Mem) (link : Nat) (q x : List Byte) : Bool :=
  if link = 0x22 then decide (gnsCmpHdg cfg * 65536 < (bamDiff (getS32 x 8) (getS32 q 8)).natAbs * 360)
  else
    let (n, e) := datumMapRaw (getU32 q 8) (getU32 q 12) (getU32 x 8) (getU32 x 12)
    let lim : Int := ((gnsCmpPos cfg * 65536 : Nat) : Int)
    decide (lim * lim < n * n + e * e)

/-- Whether a sample that arrived differs from the listed one: its body has another CRC-32C (R22); samples of the GNSS baseband by their tolerances (R288). -/
def sampleDiffers (cfg : Mem) (q x : Sample) : Bool :=
  if [0x20, 0x21, 0x22].contains (strLink cfg q.stream) then gnsDiffers cfg (strLink cfg q.stream) q.body x.body
  else crc32c q.body != crc32c x.body

/-- The findings of a cycle (R22): listed samples that are still unseen, the findings (stream, kind), the streams with samples; `v0` is the VESSEL time of the cycle
before. -/
def State.findings (s : State) (v0 v1 : Int) (p : FuPlan) : List Sample × List (Nat × Nat) × List Nat :=
  let cfg := s.cfg.active
  let listed := p.late ++ p.closes.flatMap (fun c => c.2.1)
  let timed := (fusTimed cfg s.cyc.tick (v1 - s.cyc.tick) s.fus).map (fun x => x.2)
  let own := s.fus.align ++ s.fus.deferred ++ timed
  let differ := fun (q : Sample) => own.any (fun x => sameSample q x && sampleDiffers cfg q x)
  let here := fun (q : Sample) => own.any (sameSample q)
  let open_ := (s.red.unseen ++ listed).filter (fun q => !here q)
  let missing := open_.filter (pastHistory s.fus)
  let known := fun (x : Sample) =>
    listed.any (sameSample x) || s.red.unseen.any (sameSample x) || s.fus.history.any (fun (h : HistEpoch) => h.samples.any (sameSample x))
  let extra := (own.filter (extraNow cfg s.cyc.pms v0 v1) ++ timed.filter (extraPast cfg s.cyc.pms v0)).filter (fun x => !known x)
  let kinds := missing.map (fun q => (q.stream, 0)) ++ extra.map (fun q => (q.stream, 1)) ++ ((s.red.unseen ++ listed).filter differ).map (fun q => (q.stream, 2))
  (open_.filter (fun q => !pastHistory s.fus q), kinds, (listed ++ timed).map (fun q => q.stream))

/-- The runs of findings after a cycle: a cycle without samples of a stream leaves its run. -/
def findRuns (old : List (Nat × Nat × Nat)) (kinds : List (Nat × Nat)) (seen : List Nat) : List (Nat × Nat × Nat) :=
  let kept := old.filter (fun x => !seen.contains x.1 && !kinds.any (fun k => k.1 == x.1))
  kinds.eraseDups.foldl (fun (a : List (Nat × Nat × Nat)) k =>
    let n := match old.find? (fun x => x.1 == k.1 && x.2.1 == k.2) with
      | some x => x.2.2 + 1
      | none => 1
    a ++ [(k.1, k.2, n)]) kept

/-- Input agreement of the cycle, and the own samples of listed ones that had closed before they arrived taken out. -/
def State.agreeInputs (s : State) (v0 : Int) (m : RlRecord) : State :=
  let (un, kinds, seen) := s.findings v0 m.tickV m.plan
  let late := (fusTimed s.cfg.active s.cyc.tick (m.tickV - s.cyc.tick) s.fus).filter (fun x => s.red.unseen.any (sameSample x.2))
  { s with
    fus := { s.fus with rx := s.fus.rx.filter (fun x => !late.any (fun y => y.1 == x)) }
    red := { s.red with unseen := un, find := findRuns s.red.find kinds seen } }

/-- A section as the record has it (R213): its service, signals and return count, with the loss and the return that the image reports. -/
def secFollow (k : Nat) (i : SecImg) (x : Section) : Section × List Fx :=
  let lost := x.inService && (i.detect.isSome || !i.inService)
  let back := i.inService && (lost || !x.inService)
  ({ x with inService := i.inService, lostDi := i.lostDi, lostChain := i.lostChain, clear := i.clear, lossSrc := i.lossSrc, detect := none, back := none },
   (if lost then secLossFx k i.lossSrc else []) ++ (if back then secReturnFx k i.lossSrc else []))

def State.followSections (s : State) (t : Nat) : State :=
  let r := s.alc.secs.zipIdx.map (fun x => secFollow x.2 (s.cyc.img.secs.getD x.2 {}) x.1)
  ({ s with alc := { s.alc with secs := r.map (·.1) } } : State).apply t (r.flatMap (·.2))

/-- RECORD_MESSAGE's effect: the cycle is computed from the record alone, its phases shifted by its arrival. -/
def State.recordIn (s : State) (t : Nat) (m : RlRecord) : State :=
  if !m.crcOk then ({ s with red := { s.red with recErr := true } } : State).rlError
  else if !s.follows || m.from_ != s.activeMate || !s.inCycle || s.cyc.ph.began || decide (s.cyc.tick + m.pms * 100000 < t) then s
  else
    let v0 := s.cyc.tickV - (m.pms : Int) * 1000000
    let s1 : State := { s with
      fus := if m.step = 0 then s.fus else fusVesselStep m.step s.fus
      red := { s.red with recordShift := t - s.cyc.tick, recErr := s.red.recErr || m.repaired }
      cyc := { s.cyc with number := m.epoch, tickV := m.tickV, pms := m.pms, img := m.img, ofs := (m.tick : Int) - s.cyc.tick, step := m.step } }
    if m.cfgHash ≠ s.cfg.hash ∧ m.acts.all (fun b => !txnOps.contains b.op) then s1.joinAnew t else
    let s2 := ((s1.followSections t).takeActions m.acts).agreeInputs v0 m
    let (f, fx) := fuFollow s2.cfg.active s2.cyc.tick (m.tickV - s2.cyc.tick) m.epoch m.plan s2.fus
    (({ s2 with fus := f } : State).apply t fx).afterFusion

/-- RECORD_TIMEOUT's effect: the cycle is not computed. -/
def State.recordLate (s : State) (t : Nat) : State :=
  if !s.follows || !s.inCycle || s.cyc.ph.began || decide (t < s.cyc.tick + s.cyc.pms * 100000) || s.cyc.unsealed then s else
  let s1 : State := { s with cyc := { s.cyc with unsealed := true } }
  (s1.apply t [.count Reg.redCntReclate 1, .event 113 [byteOf s.activeMate, 3]]).joinAnew t

/-! Input-path faults (R430). -/

/-- The streams and kinds that two lists of findings share for the time of INPUT_PERSIST. -/
def sharedFinds (k : Nat) (a b : List (Nat × Nat × Nat)) : List (Nat × Nat) :=
  (a.filter (fun x => decide (k ≤ x.2.2) && b.any (fun y => y.1 == x.1 && y.2.1 == x.2.1 && decide (k ≤ y.2.2)))).map (fun x => (x.1, x.2.1))

/-- The members that report, and their findings: in a group of three Standby and Backup, in one of two the member without the token. -/
def State.reporters (s : State) : List (Nat × List (Nat × Nat × Nat)) :=
  let mates := (s.mates.filter (fun m => (s.peer m).role != .active)).map (fun m => (m, (s.peer m).find))
  if s.follows then (s.red.modNum, s.red.find) :: mates else mates

/-- Whether a stream is the voted source of its class. -/
def State.votedNow (s : State) (n : Nat) : Bool := match s.fus.history.getLast? with
  | some h => h.after.classes.any (fun (c : ClassStep) => c.voted == some n)
  | none => false

/-- RED_INPUT where a finding has persisted; the Active's INPUT flag where the Standby receives a stream that the Active needs. -/
def State.inputScan (s : State) (t : Nat) : State :=
  let k := Nat.max 1 (cfgU16 s.cfg.active 0x0D00 4)
  let rs := s.reporters
  let (now, three) := match rs with
    | [a, b] => (sharedFinds k a.2 b.2, true)
    | [a] => (sharedFinds k a.2 a.2, false)
    | _ => ([], false)
  let members := bitmap 3 (fun m => rs.any (fun r => r.1 == m + 1))
  let comp := fun (x : Nat × Nat) => three && x.2 != 0 && (strRequired s.cfg.active x.1 || s.votedNow x.1)
  let new := now.filter (fun x => !s.red.inputs.contains x.1)
  let fx := new.flatMap (fun x => [Fx.flag Reg.redStatus 3, .event 114 [byteOf x.1, byteOf x.2, byteOf members, byteOf (b2n (comp x))]])
  let flags := setBits s.red.flags 10 1 (b2n (s.red.role == .active && now.any comp))
  ({ s with red := { s.red with inputs := now.map Prod.fst, flags := flags } } : State).apply t fx

/-! Comparison messages. -/

/-- COMPARE_MESSAGE's effect: the newest set the Active released is held (R434), the pair judged. -/
def State.compareIn (s : State) (t : Nat) (m : RlCompare) : State :=
  if !m.crcOk then s.rlError else
  let keep := m.released && (s.peer m.from_).role == .active
  let s1 : State := { s with red := { s.red with
    theirs := pushMax 32 m s.red.theirs
    heldSet := if keep then some (m.epoch, m.out) else s.red.heldSet } }
  s1.judge t m.from_ m.epoch

/-- VERDICT_MESSAGE's effect: how the sender agrees with the third member, and its findings. -/
def State.verdictIn (s : State) (t : Nat) (m : RlVerdict) : State :=
  if !m.crcOk then s.rlError else
  let s1 := s.modPeer m.from_ (fun p => { p with find := m.find })
  let third := s1.mates.filter (fun k => k != m.from_)
  let s2 : State := match third with
    | [k] =>
      if m.epoch ≤ s1.red.othersAt then s1 else
      { s1 with red := { s1.red with othersAt := m.epoch, others := if bits m.agree (k - 1) 1 = 1 then 0 else s1.red.others + 1 } }
    | _ => s1
  ((if s2.mates.length = 2 then s2.decideThree t m.epoch else s2).inputScan t).roleScan t

/-! Handovers (R438). -/

/-- A handover ends with a result: the request's final reply, where it was sent here. -/
def State.endHandover (s : State) (t result active first : Nat) : State :=
  match s.red.handover with
  | none => s
  | some h =>
    let s1 : State := { s with red := { s.red with
      handover := none, readyUntil := none, testResult := result, lastTest := if result = 0 then some (s.vessel t) else s.red.lastTest,
      testDue := s.red.testDue && result != 0 } }
    match h.id with
    | some id => s1.answer id st.ok ([byteOf result, byteOf active, 0, 0] ++ u64 first)
    | none => s1

/-- A handover is asked of the Active, or begins with this module as target. -/
def State.handoverIn (s : State) (from_ target flags epoch : Nat) : State :=
  let self := s.red.modNum
  if s.red.role = .active then
    if s.red.handover.isSome then s else
    let h : Handover :=
      { target := target, back := bits flags 0 1 == 1, epoch := s.cyc.number, origin := self, id := none, onWayBack := false, result := none, armed := false }
    ({ s with red := { s.red with handover := some h } } : State).control (.handover target flags s.cyc.number)
  else if target ≠ self then s
  else
    let old := s.red.handover
    let h : Handover :=
      { target := self, back := bits flags 0 1 == 1, epoch := epoch, origin := from_, id := old.bind (fun x => x.id), onWayBack := bits flags 1 1 == 1, result := none,
        armed := false }
    { s with red := { s.red with handover := some h } }

/-- CONTROL_MESSAGE's effect. -/
def State.controlIn (s : State) (t : Nat) (m : RlCtl) : State :=
  if !m.crcOk then s.rlError else
  match m.what with
  | .join =>
    let s1 := s.modPeer m.from_ (fun p => { p with run := 0, prior := 0, fault := false })
    let s2 : State := { s1 with red := { s1.red with arb := none } }
    if s2.red.role = .active then s2.emit (.rl (.repair (s2.repairMsg true [1, 2, 3, 4, 5, 6, 7, 8, 9]))) else s2
  | .repair epoch parts =>
    if s.red.role = .active then (s.emit (.rl (.repair (s.repairMsg false parts)))).repaired t m.from_ epoch else s
  | .handover target flags epoch => s.handoverIn m.from_ target flags epoch
  | .handoverEnd result active first =>
    if active ≠ 0 then s.endHandover t result active first
    else { s with red := { s.red with handover := s.red.handover.map (fun h => { h with result := some result }) } }
  | .inputs bad => if bad then { s with red := { s.red with arb := none } } else s.arbSelf t m.from_
  | .arbitration differs kat => ({ s with red := { s.red with theirArb := some (differs, kat) } } : State).arbSelf t m.from_

/-! Heartbeats (R417, R424 to R426, R431, R432, R458, R525). -/

/-- A member that runs another personality or image than the token holder takes no role. -/
def State.matchHolder (s : State) (t : Nat) (m : RlBeat) : State :=
  if !m.token then s else
  let p := s.peer m.from_
  let mism := s.stored != (m.pers, m.profile)
  let fw := (s.fw.running.major, s.fw.running.minor, s.fw.running.patch) != m.version
  let s1 := s.setPeer m.from_ { p with mism := mism, fwMism := fw }
  let ver := u32 (s.fw.running.patch + 65536 * s.fw.running.minor + 0x1000000 * s.fw.running.major)
  let fx := (if mism && !p.mism then [Fx.event 123 [byteOf (persCode s.stored.1), byteOf (profCode s.stored.2), 2]] else []) ++
    (if fw && !p.fwMism then [Fx.start 127 m.from_ ([byteOf m.from_, 0, 0, 0] ++ ver)]
     else if !fw && p.fwMism then [Fx.ended 127 m.from_ ([byteOf m.from_, 0, 0, 0] ++ ver)] else [])
  let s2 := s1.apply t fx
  if mism || fw then s2.roleTo t .none 0 else s2

/-- Whether the module may take part: no mismatch, no fault, no conflict of numbers. -/
def State.mayJoin (s : State) : Bool := !s.red.faulted && !s.red.conflict && !s.red.peers.any (fun p => p.mism || p.fwMism)

/-- A member without a role joins the Active that it hears; its saved epoch is discarded (R424, R426). -/
def State.joinActive (s : State) (t : Nat) : State :=
  if s.red.role ≠ .none ∨ s.red.formUntil.isSome ∨ s.red.token ∨ s.clk.phase ≠ .running ∨ !s.mayJoin then s else
  let s1 := ({ s with saved := none, red := { s.red with base := none, held := 0 } } : State).roleTo t .backup 0
  s1.joinAnew t

/-- What the Active's heartbeat tells of its flags: a takeover's cause (R431). -/
def State.activeFlags (s : State) (t : Nat) (m : RlBeat) : State :=
  let over_ := bits m.flags 5 6 - (bits m.flags 5 6 &&& bits (s.flagsNow t) 5 6)
  if m.faulted ∨ bits m.flags 0 5 ≠ 0 then (if s.red.cause = 0 then { s with red := { s.red with cause := 3, detectAt := t } } else s)
  else if over_ ≠ 0 ∧ s.red.role = .standby ∧ s.redReady t then
    (if s.red.cause = 0 then { s with red := { s.red with cause := 4, detectAt := t } } else s)
  else if s.red.due.isNone then { s with red := { s.red with cause := 0 } }
  else s

/-- The Active gives up for a comparative flag that a READY Standby does not carry. -/
def State.yieldFlags (s : State) (t : Nat) (m : RlBeat) : State :=
  let f := bits (s.flagsNow t) 5 6
  if s.red.token ∧ s.red.role = .active ∧ m.role = .standby ∧ m.ready ∧ f - (f &&& bits m.flags 5 6) ≠ 0 then
    { s with red := { s.red with giveUp := true, cause := 4 } }
  else s

/-- HEARTBEAT_MESSAGE's effect. -/
def State.beatIn (s : State) (t : Nat) (m : RlBeat) : State :=
  if s.red.size = 0 ∨ s.red.modNum = 0 then s
  else if !m.crcOk then s.rlError
  else if m.group ≠ cfgU16 s.cfg.active 0x0D00 2 then s
  else if m.from_ = s.red.modNum then
    if s.red.conflict then s else
    (({ s with red := { s.red with conflict := true, formUntil := none } } : State).apply t [.event 113 [byteOf m.from_, 4]]).roleTo t .none 0
  else if m.from_ = 0 ∨ 3 < m.from_ then s
  else
    let p := s.peer m.from_
    let back := !p.present && p.lastBeat != 0
    let s1 := s.setPeer m.from_
      { p with
        role := m.role, present := true, ready := m.ready, faulted := m.faulted, latent := m.latent, flags := m.flags, lastBeat := t, newest := m.newest,
        saved := m.saved, pref := m.pref }
    let s2 := if back then s1.apply t [.event 113 [byteOf m.from_, 1]] else s1
    let s3 := s2.matchHolder t m
    let s4 := if m.role = .active then
        let a : State := { s3 with red := { s3.red with announced := Nat.max s3.red.announced m.newest, rlLost := false, edgeLost := false } }
        let b := if (s3.red.rlLost ∨ p.role ≠ .active) ∧ a.red.join then a.control .join else a
        (b.joinActive t).activeFlags t m
      else s3.yieldFlags t m
    s4.roleScan t

/-- The result a lost link gives a handover whose token has not been given up (R439). -/
def State.linkLost (s : State) (t m : Nat) : State := match s.red.handover with
  | some h =>
    if (m = h.target ∨ m = h.origin) ∧ h.result = none ∧ (s.red.token ∨ 60 ≤ s.red.loop) then
      s.endHandover t 6 h.origin (if s.red.token then s.red.firstOwn else 0)
    else s
  | none => s

/-- One member's heartbeats judged at a time. -/
def State.lossOf (s : State) (t m : Nat) : State :=
  let p := s.peer m
  let lim := cfgU8 s.cfg.active 0x0D00 1 * 1000000
  let gone := p.present && decide (p.lastBeat + lim ≤ t)
  let s1 := if gone then
      ((s.setPeer m { p with present := false }).apply t [.event 113 [byteOf m, 0]]).linkLost t m
    else s
  if p.role ≠ .active ∨ s1.red.token ∨ !(gone || !p.present) then s1
  else if s1.red.lastEdge + lim ≤ t then
    if s1.red.edgeLost then s1 else
    ({ s1 with red := { s1.red with edgeLost := true, cause := 2, detectAt := t } } : State).apply t [.event 113 [byteOf m, 2]]
  else if s1.red.rlLost ∨ s1.red.role = .none then s1
  else ({ s1 with red := { s1.red with rlLost := true } } : State).joinAnew t

/-- HEARTBEAT_LOSS's effect (R432). -/
def State.beatLoss (s : State) (t : Nat) : State :=
  if s.red.size = 0 then s else ([1, 2, 3].filter (fun m => m != s.red.modNum)).foldl (fun a m => State.lossOf a t m) s

/-! The opcodes (Table 17.7). -/

/-- RED_GET_STATE. -/
def redStateH (rq : Rq) (_ : Opn) (s : State) : State × Resp :=
  let r := s.red
  let word := s.readReg rq.t Reg.redStatus
  let peer := fun (m : Nat) =>
    let w := s.readReg rq.t (Reg.redPeer + 4 * m)
    [byteOf (w % 4), byteOf (w % 256), 0, 0] ++ u32 (bits w 8 11)
  let test := s.readReg rq.t Reg.redTest
  (s, .reply st.ok ([byteOf (roleCode r.role), byteOf r.modNum, byteOf r.size, byteOf (bits word 8 8)] ++ u32 (s.flagsNow rq.t) ++ u64 r.intact ++
    [0, 1, 2].flatMap peer ++ u16 (test % 65536) ++ [byteOf (bits test 16 8), 0]))

/-- The target a request names: 0 is the Standby. -/
def State.handoverTarget (s : State) (n : Nat) : Nat :=
  if n ≠ 0 then n
  else if s.red.role = .standby then s.red.modNum
  else ((s.mates.filter (fun m => (s.peer m).role == .standby)).head?).getD 0

/-- Whether a target is READY or carries LATENT. -/
def State.targetOk (s : State) (t m : Nat) : Bool :=
  if m = s.red.modNum then s.red.role != .active && (s.redReady t || s.red.latent)
  else s.mates.contains m && (s.peer m).role != .active && ((s.peer m).ready || (s.peer m).latent)

/-- Whether a takeover or a handover is running. -/
def State.redBusy (s : State) : Bool :=
  s.red.handover.isSome || s.red.onAt.isSome || s.red.check.isSome || s.red.giveUp || s.red.releaseAt.isSome || s.red.cause != 0 ||
    (s.red.token && s.red.role != .active)

/-- RED_REQUEST_HANDOVER at acceptance (R439). -/
def handoverH (rq : Rq) (o : Opn) (s : State) : State × Resp :=
  let target := s.handoverTarget (getU8 rq.payload 0)
  let flags := getU8 rq.payload 1 % 2
  let here := s.red.role == .active || s.red.role == .standby
  if s.red.size = 0 || !here || !s.targetOk rq.t target || s.redBusy || s.red.unres || s.mates.any (fun m => (s.peer m).run != 0) then refuseWith s st.wrongState
  else
    let origin := if s.red.role = .active then s.red.modNum else s.activeMate
    let h : Handover :=
      { target := target, back := flags == 1, epoch := s.cyc.number, origin := origin, id := some o.id, onWayBack := false, result := none, armed := false }
    (({ s with red := { s.red with handover := some h } } : State).control (.handover target flags s.cyc.number), .later)

/-- RED_SET_ROLE_PREF. -/
def rolePrefH (rq : Rq) (_ : Opn) (s : State) : State × Resp :=
  let p := getU8 rq.payload 0
  if 3 < p then refuseWith s st.wrongState
  else ({ s with red := { s.red with pref := p } }, .reply st.ok [byteOf s.red.pref, 0, 0, 0])

/-! Commands. -/

/-- RED_GET_STATE (R439). -/
def execRedGetState (rq : Rq) (s : State) : Host.Outcome State Fault Refusal := runAt rq.t (State.serve · 0xA0 rq (redStateH rq)) s

/-- RED_REQUEST_HANDOVER (R439). -/
def execRedRequestHandover (rq : Rq) (s : State) : Host.Outcome State Fault Refusal := runAt rq.t (State.serve · 0xA1 rq (handoverH rq)) s

/-- RED_SET_ROLE_PREF (R439). -/
def execRedSetRolePref (rq : Rq) (s : State) : Host.Outcome State Fault Refusal := runAt rq.t (State.serve · 0xA2 rq (rolePrefH rq)) s

/-- RECORD_MESSAGE (R418). -/
def execRecordMessage (t : Nat) (m : RlRecord) (s : State) : Host.Outcome State Fault Refusal := runAt t (fun s => s.recordIn t m) s

/-- RECORD_TIMEOUT (R418). -/
def execRecordTimeout (t : Nat) (s : State) : Host.Outcome State Fault Refusal := runAt t (fun s => s.recordLate t) s

/-- COMPARE_MESSAGE (R427). -/
def execCompareMessage (t : Nat) (m : RlCompare) (s : State) : Host.Outcome State Fault Refusal := runAt t (fun s => s.compareIn t m) s

/-- VERDICT_MESSAGE (R417). -/
def execVerdictMessage (t : Nat) (m : RlVerdict) (s : State) : Host.Outcome State Fault Refusal := runAt t (fun s => s.verdictIn t m) s

/-- SEAL_MESSAGE (R419). -/
def execSealMessage (t : Nat) (m : RlSeal) (s : State) : Host.Outcome State Fault Refusal := runAt t (fun s => s.sealIn t m) s

/-- REPAIR_MESSAGE (R425). -/
def execRepairMessage (t : Nat) (m : RlRepair) (s : State) : Host.Outcome State Fault Refusal := runAt t (fun s => s.repairIn t m) s

/-- CONTROL_MESSAGE (R417). -/
def execControlMessage (t : Nat) (m : RlCtl) (s : State) : Host.Outcome State Fault Refusal := runAt t (fun s => s.controlIn t m) s

/-- HEARTBEAT_MESSAGE (R417). -/
def execHeartbeatMessage (t : Nat) (m : RlBeat) (s : State) : Host.Outcome State Fault Refusal := runAt t (fun s => s.beatIn t m) s

/-- HEARTBEAT_LOSS (R432). -/
def execHeartbeatLoss (t : Nat) (s : State) : Host.Outcome State Fault Refusal := runAt t (fun s => s.beatLoss t) s

end Sys2Proof.Machine
end

