-- ==== Sys2Proof/Machine/Redundancy.lean ====
section
/-! DEFINITION. The interlock line, takeover, formation, the check of the output stage (R420 to R424, R433 to R438). -/

namespace Sys2Proof.Machine

/-! Giving the token up. -/

/-- The role of a member that has given up the token, and its cycle in progress: it stands as at its newest sealed epoch (R423, R438). -/
def State.standDown (s : State) (t cause : Nat) : State :=
  let s1 := (s.tokenOff).dropActions
  let s2 := match s1.red.base with
    | some e => s1.adopt e
    | none => s1
  let s3 := s2.roleTo t (if s2.red.faulted then .none else .standby) cause
  { s3 with red := { s3.red with cause := 0 } }

/-- TOKEN_RELEASE's effect: 0.5 ms after a tick. The old Active of a handover is READY for 1 s more. -/
def State.tokenRelease (s : State) (t : Nat) : State :=
  match s.red.releaseAt with
  | none => s
  | some d =>
    if t < d ∨ s.red.size = 0 ∨ !s.red.token then s else
    let planned : Bool := match s.red.handover with
      | some h => h.origin == s.red.modNum && h.armed && s.red.cause == 0
      | none => false
    let s1 := s.standDown t (if planned then 8 else s.red.cause)
    if planned then { s1 with red := { s1.red with readyUntil := some (t + 1000000000) } } else s1

/-- TOKEN_WATCHDOG's effect: 20 ms after the last toggle. -/
def State.watchdog (s : State) (t : Nat) : State :=
  if !s.red.driver ∨ t < s.red.lastToggle + 20000000 then s
  else if s.red.size = 0 then s.tokenOff
  else s.standDown t 0

/-- DEMAND_RELEASE's effect: the demand loop has carried 8 mA or more for 5 ms. -/
def State.demandRelease (s : State) (t : Nat) : State :=
  match s.red.demandSince with
  | some d => if s.red.driver ∧ s.red.size ≠ 0 ∧ d + 5000000 ≤ t then s.standDown t s.red.cause else s
  | none => s

/-! Taking the token (R421, R434). -/

/-- Whether this module is the target of a handover under way. -/
def State.isTarget (s : State) : Bool := match s.red.handover with
  | some h => h.target == s.red.modNum && h.result.isNone
  | none => false

/-- Whether this module was Active before a handover that failed, within its second (R438). -/
def State.mayReturn (s : State) (t : Nat) : Bool := match s.red.handover, s.red.readyUntil with
  | some h, some u => h.origin == s.red.modNum && h.result.isSome && decide (t ≤ u)
  | _, _ => false

/-- The time for which a member waits for an idle loop: 2 ms for a Standby, 12 ms for a Backup. While a handover's target has its turn the others wait as Backups. -/
def State.idleNeed (s : State) (t : Nat) : Nat :=
  if s.red.elect || s.isTarget || s.mayReturn t || (s.red.role == .standby && s.red.handover.isNone) then 2000000 else 12000000

/-- Whether the member may take the token (R415, R436, R438). -/
def State.mayTake (s : State) (t : Nat) : Bool :=
  s.red.size != 0 && s.clk.phase == .running && !s.red.token && !s.red.driver && !s.red.faulted && !s.red.conflict &&
    (s.red.elect || (s.follows && (s.redReady t || (s.isTarget && s.red.latent) || s.mayReturn t)))

/-- The held output set (R434). -/
def State.heldOut (s : State) : OutSet := match s.red.heldSet, s.red.base with
  | some (n, o), some e => if e.number < n then o else e.out
  | some (_, o), none => o
  | none, some e => e.out
  | none, none => s.cyc.buf

/-- LOOP_IDLE_WAIT's effect: the loop has read idle for `idle` ns; the held set is loaded, the driver switched on. -/
def State.idleWait (s : State) (t idle : Nat) : State :=
  if !s.mayTake t ∨ idle < s.idleNeed t then s else
  let own := s.isTarget || s.mayReturn t
  let cause := if s.red.elect then s.red.cause else if own then 8 else if s.red.cause = 0 then 1 else s.red.cause
  { s with
    red := { s.red with driver := true, onAt := some t, cause := cause, detectAt := if s.red.cause = 0 then t - idle else s.red.detectAt }
    cyc := { s.cyc with buf := if s.red.elect then s.cyc.buf else s.heldOut } }

/-- A handover's target reports failure to the old Active, which takes command again (R438). -/
def State.targetFailed (s : State) (code : Nat) : State :=
  match s.red.handover with
  | some h =>
    if h.target = s.red.modNum then
      ({ s with red := { s.red with handover := some { h with result := some code }, testResult := code } } : State).control (.handoverEnd code 0 0)
    else s
  | none => s

/-- A taking member fails: LATENT, RED_TAKEOVER_FAIL; a test has failed where it was a handover. -/
def State.takeFails (s : State) (t code : Nat) : State :=
  let test := if s.isTarget then [Fx.event 115 [2, byteOf code, byteOf s.red.modNum]] else []
  (({ s with red := { s.red with latent := true, check := none } } : State).apply t
    ([.flag Reg.redStatus 2, .count Reg.redCntTkfail 1, .event 112 [byteOf s.red.modNum, byteOf code]] ++ test)).targetFailed code

/-- TOKEN_CONFIRM's effect: the member's sense reads `loop` × 0.1 mA, within 0.2 ms of switching on or not. -/
def State.confirm (s : State) (t loop : Nat) : State :=
  match s.red.onAt with
  | none => s
  | some d =>
    if s.red.token then s
    else if 60 ≤ loop ∧ t ≤ d + 200000 then
      let s1 : State := { s with
        red := { s.red with token := true, onAt := none, confirmed := some t, loop := loop, lastToggle := t, lastEdge := t, idleSince := none, due := none }
        aio := { s.aio with drven := true }
        cyc := { s.cyc with latched := s.cyc.buf } }
      s1.svcDrop t
    else
      let s1 : State := { s with red := { s.red with driver := false, onAt := none, elect := false, cause := 0 } }
      s1.takeFails t 1

/-! The takeover (R433). -/

/-- The newer of two CMD_EPOCHs by their signed 16-bit difference. -/
def newer16 (a b : Nat) : Nat := if 0 < signed 16 ((a + 65536 - b % 65536) % 65536) then a else b

/-- Stations at a takeover (R341, R346): as the epoch's process image has them, with the newest cycle read while forwarding; every cycle since then is missed. -/
def State.chainTakeover (s : State) (t : Nat) (e : Sealed) : ChainSt × List Fx :=
  let cfg := e.cfg
  let f := s.fld
  let stns := f.stations.zipIdx.map (fun x => { x.1 with state := e.record.img.stn.getD x.2 0, lastCyc := e.record.img.stnCyc.getD x.2 0, run := 0 })
  let f0 := { f with stations := stns, gotA := f.fwd, gotB := [], dup := [], cmdEpoch := (newer16 (newer16 f.cmdEpoch e.cmdEpoch) f.fwdEpoch + 1) % 65536 }
  match f.fwd with
  | [] =>
    let n := (t - e.sealAt) / 1000000
    let (f1, fx) := chainGap cfg t f0 n
    ({ f1 with fwd := [] }, fx)
  | d :: _ =>
    let n := (t - d.stamp) / 1000000
    let (f1, _, fx1) := stationsEval cfg t f0 (allStations.filter (fldEnable cfg))
    let (f2, fx2) := chainGap cfg t f1 n
    ({ f2 with fwd := [], cyc := (f.fwdCyc + n) % 2 ^ 32 }, fx1 ++ fx2)

/-- The newer of two highest numbers, modulo 2^32 (R37). -/
def newerSeq (a b : Option Nat) : Option Nat := match a, b with
  | some x, some y => if 2 ^ 31 < (x + 2 ^ 32 - y % 2 ^ 32) % 2 ^ 32 then b else a
  | some _, none => a
  | none, _ => b

/-- A host of a sealed epoch among this module's hosts (R42, R435): of a known one the window moves up to the epoch's highest number and its replies are held, beside what
this module has itself answered; another takes its entry's index or the lowest free one. -/
def mergeHost (t : Nat) (hs : List HostRec) (h : HostRec) : List HostRec :=
  let seqs := h.tickReplies.map (fun x => x.seq)
  if hs.any (fun x => x.ident == h.ident) then
    hs.map (fun x =>
      if x.ident = h.ident then
        h.tickReplies.foldl (fun (z : HostRec) r => holdReply r z)
          { x with tickReplies := h.tickReplies, high := newerSeq x.high h.high, seen := seqs ++ x.seen.filter (fun n => !seqs.contains n) }
      else x)
  else
    let free := (List.range 8).filter (fun i => !hs.any (fun x => x.idx == i))
    match (if free.contains h.idx then some h.idx else free.head?) with
    | some i => hs ++ [{ h with idx := i, held := h.tickReplies, seen := seqs, lastPkt := t, lastA := none, lastB := none, since := t, lastResult := [] }]
    | none => hs

/-- The number of a host's identity here. -/
def State.idxOf (s : State) (w : Ident) (old : Nat) : Nat := match s.host? w with
  | some h => h.idx
  | none => old

/-- The cycle ticks since an epoch's that lie before the first tick in role, or at it where its cycle was begun in the old role. -/
def State.missedTicks (s : State) (t : Nat) (e : Sealed) : Nat :=
  let p := cyclePms e.cfg e.pers * 1000000
  if s.cyc.tick = t then (t - e.tick + 500000) / p else (t - e.tick - 500000) / p

/-- The gap epochs go to the other members. -/
def State.mirrorGap (s : State) (pms : Nat) (e : Sealed) (n : Nat) : State :=
  (List.range n).foldl (fun (a : State) k => a.emit (.rl (.sealed { (a.sealMsg (gapSeal pms (k + 1) e)) with gap := true }))) s

/-- The state resumed from the newest epoch held intact: gap epochs sealed, command and hosts as the epoch has them. -/
def State.takeEpoch (s : State) (t : Nat) (e : Sealed) : State :=
  let n := s.missedTicks t e
  let pms := cyclePms e.cfg e.pers
  let g := gapSeal pms n e
  let (fl, fx) := s.chainTakeover t e
  let buf := s.cyc.buf
  let s1 := s.adopt e
  let s2 : State := { s1 with
    cyc := { s1.cyc with number := g.number, tick := g.tick, tickV := g.tickV, last := some g, good := some g, buf := buf, bnds := [], before := false }
    srv := { e.srv with loops := e.srv.loops.map srvTakeover }
    lgc := { s1.lgc with taken := true }
    fld := fl
    chan := { s1.chan with hosts := e.hosts.foldl (mergeHost t) s1.chan.hosts }
    red := { s1.red with base := some g, held := g.number, announced := g.number, firstOwn := g.number + 1 } }
  let k := if e.pers = .pk20 then pkGap (roundMs e.tickV) (roundMs g.tickV + 1) else n
  let s3 : State := { s2 with ctl := { s2.ctl.stepResid k with holder := s2.ctl.holder.map (fun h => (s2.idxOf h.2 h.1, h.2)) } }
  ((s3.apply t fx).discardTxns).mirrorGap pms e n

/-- The winner of an election begins as after its start (R424): warm from its saved epoch, or cold. -/
def State.takeElected (s : State) (t : Nat) : State :=
  let s1 := if s.clk.start = .warm ∧ s.cyc.good.isSome then (s.resume t).plainFx (.count Reg.clkCntWarm 1) else s
  { s1 with red := { s1.red with fit := true, join := false, firstOwn := s1.cyc.number + 1 } }

/-- How a handover stands once a member has taken command: failed and returned, or superseded. -/
def State.handoverAfter (s : State) (t cause : Nat) : State :=
  match s.red.handover with
  | none => s
  | some h =>
    if cause = 8 ∧ h.target = s.red.modNum ∧ h.result = none then s
    else
      let code := if cause = 8 then h.result.getD 1 else if h.origin = s.red.modNum ∧ h.result = none then 1 else h.result.getD 7
      (s.endHandover t code s.red.modNum s.red.firstOwn).control (.handoverEnd code s.red.modNum s.red.firstOwn)

/-- RED_TAKEOVER's effect: the first millisecond tick after confirmation. -/
def State.takeover (s : State) (t : Nat) : State :=
  match s.red.token && s.red.size != 0 && s.red.role != .active, s.red.confirmed with
  | true, some c =>
    if t ≤ c then s else
    let r := s.red
    let s1 := if r.elect then s.takeElected t else match r.base with
      | some e => s.takeEpoch t e
      | none => { s with red := { s.red with firstOwn := s.cyc.number + 1 } }
    let s2 := s1.roleTo t .active r.cause
    let s3 : State := { s2 with
      cyc := { s2.cyc with halt := false }
      red := { s2.red with elect := false, cause := 0, check := some t, readyUntil := none, join := false, others := 0 } }
    let s4 := if r.elect then s3 else
      ({ s3 with red := { s3.red with lastTake := s3.vessel t, lastCause := r.cause } } : State).apply t
        [.count Reg.redCntTakeover 1,
         .event 109 ([byteOf r.cause, byteOf r.modNum, 0, 0] ++ u32 (satN 32 ((t - r.detectAt) / 1000)) ++ u64 s3.red.firstOwn)]
    s4.handoverAfter t r.cause
  | _, _ => s

/-! The check of the output stage (R437, R438). -/

/-- What fails in the output stage, as a result code of Table 17.7; 0 nothing. -/
def State.stageFault (s : State) (cmdValid : Bool) : Nat :=
  let cfg := s.cfg.active
  if s.aio.ao.zipIdx.any (fun x => x.1.flt && aoRange cfg x.2 != 0) then 2
  else if s.aio.dout.any (fun x => x.flt) then 3
  else if !cmdValid then 4
  else if (allStations.filter (fldEnable cfg)).any (fun k => let x := fldStn s.fld k; x.state == 3 && bits x.status 1 1 == 1) then 5
  else 0

/-- A target's check has passed: LATENT clears, command passes back where RETURN asks for it. -/
def State.stagePassed (s : State) (t : Nat) : State :=
  let s1 : State := { s with red := { s.red with check := none } }
  match s1.red.handover with
  | none => s1
  | some h =>
    if h.target ≠ s1.red.modNum ∨ h.result.isSome then s1 else
    let s2 := ({ s1 with red := { s1.red with latent := false, lastTest := some (s1.vessel t), testDue := false, testResult := 0 } } : State).apply t
      [.event 115 [1, 0, byteOf s1.red.modNum]]
    if h.back then
      let g : Handover := { h with target := h.origin, back := false, epoch := s2.cyc.number, origin := s2.red.modNum, onWayBack := true, armed := false }
      ({ s2 with red := { s2.red with handover := some g } } : State).control (.handover h.origin 2 s2.cyc.number)
    else (s2.endHandover t 0 s2.red.modNum s2.red.firstOwn).control (.handoverEnd 0 s2.red.modNum s2.red.firstOwn)

/-- OUTPUT_STAGE_CHECK's effect, in the first 5 ms in role; `cmdValid` tells whether every returning copy has carried CMD_VALID = 1. -/
def State.stageCheck (s : State) (t : Nat) (cmdValid : Bool) : State :=
  match s.red.check with
  | none => s
  | some d =>
    let code := s.stageFault cmdValid
    if code ≠ 0 then
      let test := s.isTarget
      let s1 := s.takeFails t code
      if test then { s1 with red := { s1.red with giveUp := true, readyUntil := none } } else s1
    else if t < d + 5000000 then s
    else s.stagePassed t

/-! Formation (R424). -/

/-- Whether a member is eligible, by its flags: CMD and NUM at OP2, no fatal flag. -/
def flagsFit (f : Nat) : Bool := bits f 0 6 == 0

/-- The members heard that are eligible, with their ranks. -/
def State.rivals (s : State) : List (Nat × Nat × Nat) :=
  ([1, 2, 3].filter (fun m => m != s.red.modNum && (s.peer m).present && !(s.peer m).faulted && flagsFit (s.peer m).flags)).map (fun m => (s.peer m).rank m)

/-- FORMATION_TIMEOUT's effect: 2 s after the start the member joins, or is elected, or waits as Backup. -/
def State.form (s : State) (t : Nat) : State :=
  match s.red.formUntil with
  | none => s
  | some d =>
    if t < d then s else
    let s1 : State := { s with red := { s.red with formUntil := none } }
    let alone := !([1, 2, 3].any (fun m => m != s.red.modNum && (s.peer m).present))
    if !s1.mayJoin then s1
    else if s1.activeMate ≠ 0 && (s1.peer s1.activeMate).present then s1.joinActive t
    else if 60 ≤ s1.red.loop then s1
    else if !flagsFit (s1.flagsNow t) then s1
    else if s1.rivals.all (fun r => ranksBefore s1.rank r) then { s1 with red := { s1.red with elect := true, cause := if alone then 10 else 0 } }
    else (({ s1 with red := { s1.red with base := none, held := 0 } } : State).roleTo t .backup 0).joinAnew t

/-! Arbitration, tests. -/

/-- ARBITRATION_REPLAY_DONE's effect (R429 step 3): the replay of the first disputed cycle and the known-answer tests. -/
def State.replayDone (s : State) (t : Nat) (differs kat : Bool) : State :=
  match s.red.arb, s.mates with
  | some _, m :: _ =>
    let s1 := ({ s with red := { s.red with ownArb := some (differs, kat) } } : State).control (.arbitration differs kat)
    let s2 := s1.arbSelf t m
    if kat then s2.fatal t 4 else s2
  | _, _ => s

/-- RED_TEST's effect (R438): due once TEST_INTERVAL days have passed since the last passing test, then every 24 h. -/
def State.testScan (s : State) (t : Nat) : State :=
  let v := s.vessel t
  let day := 86400000000000
  let over_ : Bool := match s.red.lastTest with
    | some x => decide (cfgU16 s.cfg.active 0x0D00 6 * day ≤ v - x)
    | none => true
  if s.red.size = 0 ∨ !over_ ∨ (s.red.testDue ∧ v < s.red.testRaised + day) then s else
  ({ s with red := { s.red with testDue := true, testRaised := v } } : State).apply t [.event 115 [0, 0, 0]]

/-! Commands. -/

/-- TOKEN_WATCHDOG (R420). -/
def execTokenWatchdog (t : Nat) (s : State) : Host.Outcome State Fault Refusal := runAt t (fun s => s.watchdog t) s

/-- LOOP_IDLE_WAIT (R421). -/
def execLoopIdleWait (t idle : Nat) (s : State) : Host.Outcome State Fault Refusal := runAt t (fun s => s.idleWait t idle) s

/-- TOKEN_CONFIRM (R421). -/
def execTokenConfirm (t loop : Nat) (s : State) : Host.Outcome State Fault Refusal := runAt t (fun s => s.confirm t loop) s

/-- DEMAND_RELEASE (R422). -/
def execDemandRelease (t : Nat) (s : State) : Host.Outcome State Fault Refusal := runAt t (fun s => s.demandRelease t) s

/-- TOKEN_RELEASE (R423). -/
def execTokenRelease (t : Nat) (s : State) : Host.Outcome State Fault Refusal := runAt t (fun s => s.tokenRelease t) s

/-- RED_TAKEOVER (R433). -/
def execRedTakeover (t : Nat) (s : State) : Host.Outcome State Fault Refusal := runAt t (fun s => s.takeover t) s

/-- OUTPUT_STAGE_CHECK (R437). -/
def execOutputStageCheck (t : Nat) (cmdValid : Bool) (s : State) : Host.Outcome State Fault Refusal := runAt t (fun s => s.stageCheck t cmdValid) s

/-- FORMATION_TIMEOUT (R424). -/
def execFormationTimeout (t : Nat) (s : State) : Host.Outcome State Fault Refusal := runAt t (fun s => s.form t) s

/-- ARBITRATION_REPLAY_DONE (R429). -/
def execArbitrationReplayDone (t : Nat) (differs katFailed : Bool) (s : State) : Host.Outcome State Fault Refusal :=
  runAt t (fun s => s.replayDone t differs katFailed) s

/-- RED_TEST (R438). -/
def execRedTest (t : Nat) (s : State) : Host.Outcome State Fault Refusal := runAt t (fun s => s.testScan t) s

/-- KNOWN_ANSWER_TEST (R431): `failed` has a bit for each unit whose test failed. -/
def execKnownAnswerTest (t failed : Nat) (s : State) : Host.Outcome State Fault Refusal := runAt t (fun s => if failed = 0 then s else s.fatal t 4) s

end Sys2Proof.Machine
end

