-- ==== Sys2Proof/Machine/Datagram.lean ====
section
/-! DEFINITION. A datagram to port 22480 as it arrives: checks 1 to 4, and the opcode it names (R29, R34, R45). -/

namespace Sys2Proof.Machine

/-- The execution of every defined opcode; a register access of such a datagram meets nothing on its way. -/
def opHandler (op : Nat) (rq : Rq) : Opn → State → State × Resp :=
  let x := Cross.plain
  match op with
  | 0x00 => nopH rq
  | 0x01 => identityH rq
  | 0x02 => statusH rq
  | 0x03 => resetH rq
  | 0x04 => eventMaskH rq
  | 0x05 => ackEventH rq
  | 0x06 => standbyH rq
  | 0x07 => wakeH rq
  | 0x08 => selectH rq
  | 0x10 => regReadH x rq
  | 0x11 => regWriteH x rq
  | 0x12 => readBlockH (List.replicate 256 x) rq
  | 0x13 => mbxReadH x rq
  | 0x20 => cfgOpenH rq
  | 0x21 => cfgWriteH rq
  | 0x22 => cfgReadH rq
  | 0x23 => cfgCommitH rq
  | 0x24 => cfgAbortH rq
  | 0x25 => cfgHashH rq
  | 0x30 => dpHeldH rq
  | 0x31 => dpHeldH rq
  | 0x32 => dpHeldH rq
  | 0x33 => dpHeldH rq
  | 0x34 => dpStateH rq
  | 0x35 => boundary rq
  | 0x40 => fusSolutionH rq
  | 0x41 => fusStreamH rq
  | 0x42 => fusStateH rq
  | 0x43 => fusCalH rq
  | 0x44 => fusInjectH rq
  | 0x50 => alcResultH rq
  | 0x51 => alcThrH rq
  | 0x52 => alcConsequenceH rq
  | 0x53 => boundary rq
  | 0x58 => srvStateH rq
  | 0x59 => srvTableH rq
  | 0x60 => lgcLoadH rq
  | 0x61 => lgcRunH rq 1
  | 0x62 => lgcRunH rq 2
  | 0x63 => lgcSetH rq
  | 0x64 => lgcGetH rq
  | 0x65 => lgcStatusH rq
  | 0x70 => recCursorH rq
  | 0x71 => recReadH rq
  | 0x72 => recClearH rq
  | 0x73 => recUserH rq
  | 0x80 => timGetH rq
  | 0x81 => timSetH rq
  | 0x82 => timJumpH rq
  | 0x90 => safLoginH rq
  | 0x91 => safWriteH rq
  | 0x92 => safCommitH rq
  | 0x93 => safLogH rq
  | 0x94 => safResetH rq
  | 0xA0 => redStateH rq
  | 0xA1 => handoverH rq
  | 0xA2 => rolePrefH rq
  | 0xB0 => gnsFixH rq
  | 0xB1 => gnsChannelsH rq
  | 0xB2 => gnsCorrectionsH rq
  | 0xB3 => gnsColdH rq
  | 0xC0 => aioFilterH rq
  | 0xC1 => aioCalH rq
  | 0xD0 => lnkCountersH rq
  | 0xD1 => lnkCanH rq
  | 0xD2 => lnkSerH rq
  | 0xD8 => fldStationH rq
  | 0xD9 => fldScanH rq
  | 0xF0 => serviceH [] rq
  | 0xF1 => fwBeginH rq
  | 0xF2 => fwDataH rq
  | 0xF3 => fwEndH rq
  | _ => fun _ s => refuseWith s st.badOpcode

/-! The header (Table 2.1). -/

def dgAuth (b : List Byte) : Bool := bits (getU8 b 13) 1 1 == 1
def dgPay (b : List Byte) : Nat := getU16 b 6

/-- The first of checks 1 to 4 that fails; 0 none. -/
def dgCheck (b : List Byte) : Nat :=
  let n := b.length
  if n < 20 ∨ getU8 b 0 ≠ 0x56 ∨ getU8 b 1 ≠ 0x4C ∨ bits (getU16 b 4) 14 2 ≠ 0 then 1
  else if getU8 b 2 ≠ 1 then 2
  else if n ≠ 20 + dgPay b + (if dgAuth b then 16 else 0) ∨ 1408 < dgPay b ∨ getU16 b 14 ≠ 0 ∨ bits (getU16 b 4) 6 8 ≠ 0 ∨ getU8 b 12 ≠ 0 ∨
      bits (getU8 b 13) 2 1 ≠ 0 then 3
  else if crc32c (b.take (n - 4)) ≠ getU32 b (n - 4) then 4
  else 0

/-- The request a datagram carries. -/
def dgRequest (d : RawDatagram) : Rq :=
  let b := d.bytes
  { t := d.t, portB := d.portB, mac := d.mac, ip := d.ip, udp := d.udp, tag := getU16 b 4 % 64, seq := getU32 b 8, force := bits (getU8 b 13) 0 1 == 1,
    trailer := if dgAuth b then some (slice b (16 + dgPay b) 16) else none, payload := slice b 16 (dgPay b),
    rsv := bits (getU8 b 13) 3 5 }

/-- A reply to a failed check, with the tag and sequence number as received. -/
def State.dgAnswer (s : State) (d : RawDatagram) (status : Nat) : State :=
  let b := d.bytes
  let s1 : State := { s with chan := { s.chan with rxBytes := s.chan.rxBytes + b.length } }
  s1.sendAll [⟨d.portB, d.mac, d.ip, d.udp⟩] (replyParts none (getU8 b 3) (getU16 b 4 % 64) (getU32 b 8) status [])

/-- A datagram to port 22480: checks 1 to 4, then as the request it is. -/
def State.datagram (s : State) (d : RawDatagram) : State :=
  let k := dgCheck d.bytes
  if k = 0 then
    let rq := dgRequest d
    let op := getU8 d.bytes 3
    s.serve op rq (opHandler op rq)
  else if !s.chan.ready then s
  else if k = 1 then s.cnt (fun c => { c with foreignDg := satInc c.foreignDg })
  else if k = 2 then (s.cnt (fun c => { c with badVersion := satInc c.badVersion })).dgAnswer d st.badOpcode
  else if k = 3 then (s.cnt (fun c => { c with badLength := satInc c.badLength })).dgAnswer d st.badLength
  else (s.cnt (fun c => { c with badCrc := satInc c.badCrc })).dgAnswer d st.badCrc

/-- UNDEFINED_OPCODE_REQUEST (R45). -/
def execUndefinedOpcodeRequest (dg : RawDatagram) (s : State) : Host.Outcome State Fault Refusal := runAt dg.t (fun s => s.datagram dg) s

end Sys2Proof.Machine
end

