-- ==== Sys2Proof/Machine/Supply.lean ====
section
/-! DEFINITION. Supply: feed monitors, ride-through and the save that follows it, auxiliary supplies, temperature limits, operating time (R445, R449, R488, R499 to R505, R513). -/

namespace Sys2Proof.Machine

/-! Feed monitors (R499, Table 21.2). -/

/-- Since when a condition has held: it begins with its first sample and ends when two consecutive samples do not meet it. -/
def heldSince (t : Nat) (now before : Bool) (x : Option Int) : Option Int :=
  if now then (match x with
    | some y => some y
    | none => some (t : Int))
  else if before then x else none

/-- Whether a condition that holds now has lasted `ns`. -/
def lasted (t ns : Nat) (now : Bool) (x : Option Int) : Bool := match x with
  | some y => now && decide (y + ns ≤ t)
  | none => false

/-- The state after a sample of `mv`. -/
def feedNext (t : Nat) (mv : Int) (f : Feed) : FeedState :=
  let both := fun (p : Int → Bool) => p f.prevMv && p mv
  let up9 := lasted t 10000000 (decide (9000 ≤ mv)) f.above9
  if both (fun v => decide (v < -1000)) then .reversed
  else if both (fun v => decide (v.natAbs < 1000)) then .absent
  else match f.state with
    | .reversed => if both (fun v => decide (-1000 ≤ v)) then (if 1000 ≤ mv then .low else .absent) else .reversed
    | .absent => if both (fun v => decide (1000 ≤ v)) then .low else .absent
    | .low => if up9 then .valid else .low
    | .valid =>
      if both (fun v => decide (v < 8500)) then .low
      else if lasted t 50000000 (decide (62000 < mv)) f.above62 then .high else .valid
    | .high =>
      if both (fun v => decide (v < 8500)) then .low
      else if lasted t 100000000 (decide (mv ≤ 58000)) f.below58 then .valid else .high

/-- A feed's sample: voltage in mV, current in mA; a REVERSED feed carries none. -/
def feedSampled (t : Nat) (mv : Int) (ma : Nat) (f0 : Feed) : Feed :=
  let f := { f0 with
    above9 := heldSince t (decide (9000 ≤ mv)) (decide (9000 ≤ f0.prevMv)) f0.above9
    above62 := heldSince t (decide (62000 < mv)) (decide (62000 < f0.prevMv)) f0.above62
    below58 := heldSince t (decide (mv ≤ 58000)) (decide (f0.prevMv ≤ 58000)) f0.below58 }
  let x := feedNext t mv f
  { f with state := x, mv := mv, ma := if x = .reversed then 0 else ma, prevMv := mv, everValid := f.everValid || x == .valid }

def feedValid (f : Feed) : Bool := f.state == .valid

/-- Whether a feed is lost (R500). -/
def feedLost (f : Feed) : Bool := f.everValid && !feedValid f

/-- SUP_FEED at the start or the end of a loss. -/
def feedFx (n : Nat) (old new : Feed) : List Fx :=
  let det := [byteOf n, byteOf (feedCode new.state), 0, 0] ++ s32 new.mv
  if feedLost new && !feedLost old then [.start 5 n det] else if feedLost old && !feedLost new then [.ended 5 n det] else []

/-- A feed's power in µW. -/
def feedPower (f : Feed) : Nat := f.mv.toNat * f.ma

def bump (c : Bool) (n : Nat) : Nat := if c then satInc n else n

/-- SUPPLY and SUPPLY_COUNTS after samples of both feeds. -/
def supSampled (t : Nat) (mvA : Int) (maA : Nat) (mvB : Int) (maB : Nat) (u : Sup) : Sup :=
  let a := feedSampled t mvA maA u.feedA
  let b := feedSampled t mvB maB u.feedB
  let into := fun (x : FeedState) (old new : Feed) => new.state == x && old.state != x
  { u with
    feedA := a
    feedB := b
    lossA := bump (feedLost a && !feedLost u.feedA) u.lossA
    lossB := bump (feedLost b && !feedLost u.feedB) u.lossB
    highCnt := bump (into .high u.feedB b) (bump (into .high u.feedA a) u.highCnt)
    reversedCnt := bump (into .reversed u.feedB b) (bump (into .reversed u.feedA a) u.reversedCnt)
    inputMw := (feedPower a + feedPower b) / 1000 }

/-- Whether valid supply is present (R504). -/
def Sup.powered (u : Sup) : Bool := feedValid u.feedA || feedValid u.feedB

/-! Ride-through (R488, R501). -/

/-- Detail of SUP_RIDE_THROUGH. -/
def rideDetail (code : Nat) (ns : Int) : List Byte := [byteOf code, 0, 0, 0] ++ u32 (satN 32 (ns / 1000).toNat)

/-- The module goes off with nothing saved: no cycle was running. -/
def State.powerGone (s : State) : State :=
  let s1 := s.tokenOff
  { s1 with
    clk := { s1.clk with phase := .off, saveOk := false, rideEnded := false, firstTick := false }
    cyc := { s1.cyc with halt := true }
    chan := { s1.chan with ready := false } }

/-- The supply-loss record, and the queue flushed from hold-up energy (R449). -/
def State.supplyRecord (s : State) (t : Nat) : State :=
  let lost := b2n (feedLost s.sup.feedA) + 2 * b2n (feedLost s.sup.feedB)
  let n := s.recd.queue.length
  let x := s.recRecord t 4 0 0 ([byteOf lost, 0, 0, 0] ++ u32 n ++ u64 0) none
  let s1 : State := { s with recd := { s.recd with queue := x :: s.recd.queue, opNv := recOpTime s.recd t } }
  (List.range (n + 1)).foldl (fun (a : State) _ => a.recWritten t true true) s1

/-- What follows the end of a ride-through by expiry or early end: the cycle in progress completes, no further cycle starts. -/
def State.ending (s : State) : State :=
  let s1 : State := { s with gns := gnsSaved s.mono true s.gns }
  if s1.inCycle && !s1.cyc.halt then
    let s2 : State := { s1 with clk := { s1.clk with phase := .ending, rideEnded := true }, cyc := { s1.cyc with halt := true } }
    if s2.cyc.ph.sealed || s2.cyc.unsealed || !s2.cyc.ph.began then s2.beginSave else s2
  else s1.powerGone

/-- A ride-through that began at `r` ends by expiry (code 2) or early (code 3). -/
def State.rideOver (s : State) (t : Nat) (r : Int) (code : Nat) : State :=
  let s1 : State := { s with
    clk := { s.clk with rideMono := none }
    sup := { s.sup with rideOther := satInc s.sup.rideOther } }
  ((s1.apply t [.ended 6 0 (rideDetail code (t - r))]).supplyRecord t).ending

/-- Length of a ride-through. -/
def rideLimit : Int := 50000000

/-- RIDE_THROUGH_EXPIRY's effect. -/
def State.rideExpired (s : State) (t : Nat) : State := match s.clk.rideMono with
  | some r => if r + rideLimit ≤ t then s.rideOver t r 2 else s
  | none => s

/-- Whether the module has power and no shutdown runs. -/
def State.mayRide (s : State) : Bool := s.clk.phase == .starting || s.clk.phase == .running || s.clk.phase == .standby || s.clk.phase == .bootLoader

/-- Ride-through begins, or a feed's return ends it. -/
def State.rideStep (s : State) (t : Nat) (before : Bool) : State :=
  match s.clk.rideMono with
  | none =>
    if before && !s.sup.powered && s.mayRide then
      State.apply { s with
        clk := { s.clk with rideMono := some (t : Int) }
        sup := { s.sup with storeCharged := false } } t [.start 6 0 (rideDetail 0 0)]
    else s
  | some r =>
    if s.sup.powered then
      if t ≤ r + rideLimit then
        State.apply { s with
          clk := { s.clk with rideMono := none }
          sup := { s.sup with rideReturn := satInc s.sup.rideReturn } } t [.ended 6 0 (rideDetail 1 (t - r))]
      else s.rideOver t r 2
    else s

/-- FEED_SAMPLE's effect. An unpowered module's monitors report nothing. -/
def State.feeds (s : State) (t : Nat) (mvA : Int) (maA : Nat) (mvB : Int) (maB : Nat) : State :=
  let u := supSampled t mvA maA mvB maB s.sup
  let s1 : State := { s with sup := u }
  if s.clk.phase = .off then s1 else
  (s1.apply t (feedFx 0 s.sup.feedA u.feedA ++ feedFx 1 s.sup.feedB u.feedB)).rideStep t s.sup.powered

/-- SAVE_COMPLETE's effect: the epoch is saved, or the save did not read back; the module goes off. -/
def State.saveDone (s : State) (ok : Bool) : State :=
  if s.clk.phase ≠ .saving then s else
  { s with
    saved := if ok then s.cyc.good else none
    clk := { s.clk with phase := .off, saveOk := ok && s.cyc.good.isSome, firstTick := false }
    chan := { s.chan with ready := false } }

/-! Auxiliary supplies and temperature (R505, R513). -/

/-- Detail of ENV_LIMIT. -/
def State.envDetail (s : State) (cause : Nat) (out : Bool) : List Byte := [byteOf cause, byteOf (b2n out), 0, 0] ++ s16 s.clk.baseTemp

/-- An auxiliary supply's sample: 18.0 V for 10 ms to enter, 17.0 V to leave. -/
def auxSampled (t : Nat) (mv : Int) (x : Aux) : Aux :=
  let y := { x with above := heldSince t (decide (18000 ≤ mv)) (decide (18000 ≤ x.prevMv)) x.above, prevMv := mv }
  let low := decide (mv < 17000) && decide (x.prevMv < 17000)
  { y with valid := if x.valid then !low else lasted t 10000000 (decide (18000 ≤ mv)) y.above }

/-- ENV_LIMIT as an auxiliary supply is lost or returns. -/
def State.auxFx (s : State) (cause : Nat) (old new : Aux) : List Fx :=
  if old.valid && !new.valid then [.start 15 cause (s.envDetail cause true)]
  else if !old.valid && new.valid && s.evt.conds.contains (15, cause) then [.ended 15 cause (s.envDetail cause false)] else []

/-- AUX_SUPPLY_SAMPLE's effect. -/
def State.auxSupplies (s : State) (t : Nat) (sMv doMv : Int) : State :=
  let a := auxSampled t sMv s.sup.auxS
  let b := auxSampled t doMv s.sup.auxDo
  ({ s with sup := { s.sup with auxS := a, auxDo := b } } : State).apply t (s.auxFx 0 s.sup.auxS a ++ s.auxFx 1 s.sup.auxDo b)

/-- Start or end of a temperature condition. -/
def State.tempFx (s : State) (cause : Nat) (old new : Bool) : List Fx :=
  if old = new then [] else if new then [.start 15 cause (s.envDetail cause true)] else [.ended 15 cause (s.envDetail cause false)]

/-- ENV_LIMIT's effect: the base plate's temperature, s8.8 °C. -/
def State.baseMeasured (s : State) (t : Nat) (base : Int) : State :=
  let hot := decide (70 * 256 < base)
  let cold := decide (base < -25 * 256)
  let s1 : State := { s with
    clk := { s.clk with baseTemp := base }
    sup := { s.sup with hot := hot, coldBase := cold }
    tim := timTemp (base * 1000 / 256) s.tim }
  s1.apply t (s1.tempFx 2 s.sup.hot hot ++ s1.tempFx 3 s.sup.coldBase cold)

/-! Commands. -/

/-- FEED_SAMPLE (R499). -/
def execFeedSample (t : Nat) (mvA : Int) (maA : Nat) (mvB : Int) (maB : Nat) (s : State) : Host.Outcome State Fault Refusal :=
  runAt t (fun s => s.feeds t mvA maA mvB maB) s

/-- RIDE_THROUGH_EXPIRY (R488, R501). -/
def execRideThroughExpiry (t : Nat) (s : State) : Host.Outcome State Fault Refusal := runAt t (fun s => s.rideExpired t) s

/-- STORE_RESERVE_REACHED (R501): the early end. -/
def execStoreReserveReached (t : Nat) (s : State) : Host.Outcome State Fault Refusal :=
  runAt t (fun s => match s.clk.rideMono with
    | some r => s.rideOver t r 3
    | none => s) s

/-- SAVE_COMPLETE (R488, R503). -/
def execSaveComplete (t : Nat) (ok : Bool) (s : State) : Host.Outcome State Fault Refusal := runAt t (fun s => s.saveDone ok) s

/-- AUX_SUPPLY_SAMPLE (R505). -/
def execAuxSupplySample (t : Nat) (sMv doMv : Int) (s : State) : Host.Outcome State Fault Refusal := runAt t (fun s => s.auxSupplies t sMv doMv) s

/-- ENV_LIMIT (R513). -/
def execEnvLimit (t : Nat) (base : Int) (s : State) : Host.Outcome State Fault Refusal := runAt t (fun s => s.baseMeasured t base) s

/-- OPERATING_TIME_SAVE (R445). -/
def execOperatingTimeSave (t : Nat) (s : State) : Host.Outcome State Fault Refusal :=
  runAt t (fun s => { s with recd := { s.recd with opNv := recOpTime s.recd t } }) s

/-- ENERGY_STORE_CHARGED (R502). -/
def execEnergyStoreCharged (t : Nat) (s : State) : Host.Outcome State Fault Refusal :=
  runAt t (fun s => { s with sup := { s.sup with storeCharged := s.sup.storeCharged || s.clk.rideMono.isNone } }) s

/-- AON_BACKUP_CHARGED (R504). -/
def execAonBackupCharged (t : Nat) (s : State) : Host.Outcome State Fault Refusal :=
  runAt t (fun s => { s with sup := { s.sup with aonCharged := true } }) s

end Sys2Proof.Machine
end

