-- ==== Sys2Proof/Machine/Dispatch.lean ====
section
/-! DEFINITION. One arm per command: its meaning. -/

namespace Sys2Proof.Machine

/-- The effect of a command. -/
def exec (i : Instr) (s : State) : Host.Outcome State Fault Refusal :=
  match i with
  | .nop rq => Sys2Proof.Machine.execNop rq s
  | .getIdentity rq => Sys2Proof.Machine.execGetIdentity rq s
  | .getStatus rq => Sys2Proof.Machine.execGetStatus rq s
  | .resetCold rq => Sys2Proof.Machine.execResetCold rq s
  | .resetWarm rq => Sys2Proof.Machine.execResetWarm rq s
  | .resetStart t => Sys2Proof.Machine.execResetStart t s
  | .setEventMask rq => Sys2Proof.Machine.execSetEventMask rq s
  | .ackEvent rq => Sys2Proof.Machine.execAckEvent rq s
  | .enterStandby rq => Sys2Proof.Machine.execEnterStandby rq s
  | .wake rq => Sys2Proof.Machine.execWake rq s
  | .selectPersonality rq => Sys2Proof.Machine.execSelectPersonality rq s
  | .personalityRestart t => Sys2Proof.Machine.execPersonalityRestart t s
  | .regRead rq x => Sys2Proof.Machine.execRegRead rq x s
  | .regWrite rq x => Sys2Proof.Machine.execRegWrite rq x s
  | .regReadBlock rq xs => Sys2Proof.Machine.execRegReadBlock rq xs s
  | .mbxRead rq x => Sys2Proof.Machine.execMbxRead rq x s
  | .registerWrite t addr value x => Sys2Proof.Machine.execRegisterWrite t addr value x s
  | .regCrossTimeout rq op xs took => Sys2Proof.Machine.execRegCrossTimeout rq op xs took s
  | .mbxSelWrite t value x => Sys2Proof.Machine.execMbxSelWrite t value x s
  | .mbxSnapshotComplete t done => Sys2Proof.Machine.execMbxSnapshotComplete t done s
  | .mbxData7Read t x => Sys2Proof.Machine.execMbxData7Read t x s
  | .cfgOpen rq => Sys2Proof.Machine.execCfgOpen rq s
  | .cfgWrite rq => Sys2Proof.Machine.execCfgWrite rq s
  | .cfgRead rq => Sys2Proof.Machine.execCfgRead rq s
  | .cfgCommit rq => Sys2Proof.Machine.execCfgCommit rq s
  | .cfgAbort rq => Sys2Proof.Machine.execCfgAbort rq s
  | .cfgGetHash rq => Sys2Proof.Machine.execCfgGetHash rq s
  | .cfgTxnExpired t => Sys2Proof.Machine.execCfgTxnExpired t s
  | .eventRetxRound t => Sys2Proof.Machine.execEventRetxRound t s
  | .evtDestLost t => Sys2Proof.Machine.execEvtDestLost t s
  | .hostPathLost t => Sys2Proof.Machine.execHostPathLost t s
  | .arpRequest t portB mac ip target => Sys2Proof.Machine.execArpRequest t portB mac ip target s
  | .icmpEcho t portB mac ip data => Sys2Proof.Machine.execIcmpEcho t portB mac ip data s
  | .ipDiscard t portB why => Sys2Proof.Machine.execIpDiscard t portB why s
  | .cycleTick t => Sys2Proof.Machine.execCycleTick t s
  | .fusionPhaseDone t => Sys2Proof.Machine.execFusionPhaseDone t s
  | .controlLaw t => Sys2Proof.Machine.execControlLaw t s
  | .oscillationTimeout t => Sys2Proof.Machine.execOscillationTimeout t s
  | .ctlJoyTimeout t => Sys2Proof.Machine.execCtlJoyTimeout t s
  | .ctlTraverseDone t => Sys2Proof.Machine.execCtlTraverseDone t s
  | .windHoldExpiry t => Sys2Proof.Machine.execWindHoldExpiry t s
  | .sl0Start t => Sys2Proof.Machine.execSl0Start t s
  | .sl0Complete t => Sys2Proof.Machine.execSl0Complete t s
  | .sl0Deadline t iters => Sys2Proof.Machine.execSl0Deadline t iters s
  | .scenarioComplete t lane => Sys2Proof.Machine.execScenarioComplete t lane s
  | .alcConsequence t => Sys2Proof.Machine.execAlcConsequence t s
  | .consequenceClear t => Sys2Proof.Machine.execConsequenceClear t s
  | .outputDeadline t prog => Sys2Proof.Machine.execOutputDeadline t prog s
  | .epochSeal t => Sys2Proof.Machine.execEpochSeal t s
  | .sealFault t => Sys2Proof.Machine.execSealFault t s
  | .mirrorComplete t => Sys2Proof.Machine.execMirrorComplete t s
  | .collectorDrainPass t => Sys2Proof.Machine.execCollectorDrainPass t s
  | .millisecondTick t meas => Sys2Proof.Machine.execMillisecondTick t meas s
  | .busSectionReturn t => Sys2Proof.Machine.execBusSectionReturn t s
  | .srvValidation t => Sys2Proof.Machine.execSrvValidation t s
  | .srvPhaseOverrun t => Sys2Proof.Machine.execSrvPhaseOverrun t s
  | .chainCopyReturn t copy => Sys2Proof.Machine.execChainCopyReturn t copy s
  | .chainCycleComplete t => Sys2Proof.Machine.execChainCycleComplete t s
  | .chainForward t portB mac frame => Sys2Proof.Machine.execChainForward t portB mac frame s
  | .fldForeign t portB mac => Sys2Proof.Machine.execFldForeign t portB mac s
  | .chainScanSend t => Sys2Proof.Machine.execChainScanSend t s
  | .chainScanComplete t a b => Sys2Proof.Machine.execChainScanComplete t a b s
  | .fldPortLink t portB up => Sys2Proof.Machine.execFldPortLink t portB up s
  | .fusGetSolution rq => Sys2Proof.Machine.execFusGetSolution rq s
  | .fusGetStream rq => Sys2Proof.Machine.execFusGetStream rq s
  | .fusSetStreamStateDeselect rq => Sys2Proof.Machine.execFusSetStreamStateDeselect rq s
  | .fusSetStreamStateSelect rq => Sys2Proof.Machine.execFusSetStreamStateSelect rq s
  | .fusSetStreamStateReadmit rq => Sys2Proof.Machine.execFusSetStreamStateReadmit rq s
  | .fusCalControlStart rq => Sys2Proof.Machine.execFusCalControlStart rq s
  | .fusCalControlFreeze rq => Sys2Proof.Machine.execFusCalControlFreeze rq s
  | .fusCalControlResume rq => Sys2Proof.Machine.execFusCalControlResume rq s
  | .fusCalControlAccept rq => Sys2Proof.Machine.execFusCalControlAccept rq s
  | .fusCalControlDiscard rq => Sys2Proof.Machine.execFusCalControlDiscard rq s
  | .fusInject rq => Sys2Proof.Machine.execFusInject rq s
  | .dpSetMode rq => Sys2Proof.Machine.execDpSetMode rq s
  | .dpSetTarget rq => Sys2Proof.Machine.execDpSetTarget rq s
  | .dpTraverse rq => Sys2Proof.Machine.execDpTraverse rq s
  | .dpJoystick rq => Sys2Proof.Machine.execDpJoystick rq s
  | .dpGetState rq => Sys2Proof.Machine.execDpGetState rq s
  | .dpTakeCommandTake rq => Sys2Proof.Machine.execDpTakeCommandTake rq s
  | .dpTakeCommandRelease rq => Sys2Proof.Machine.execDpTakeCommandRelease rq s
  | .alcGetResult rq => Sys2Proof.Machine.execAlcGetResult rq s
  | .alcSetThrusterStateDisable rq => Sys2Proof.Machine.execAlcSetThrusterStateDisable rq s
  | .alcSetThrusterStateEnable rq => Sys2Proof.Machine.execAlcSetThrusterStateEnable rq s
  | .alcGetConsequence rq => Sys2Proof.Machine.execAlcGetConsequence rq s
  | .alcSetPowerLimits rq => Sys2Proof.Machine.execAlcSetPowerLimits rq s
  | .srvGetState rq => Sys2Proof.Machine.execSrvGetState rq s
  | .srvTableLoad rq => Sys2Proof.Machine.execSrvTableLoad rq s
  | .lgcLoadImageBegin rq => Sys2Proof.Machine.execLgcLoadImageBegin rq s
  | .lgcLoadImageData rq => Sys2Proof.Machine.execLgcLoadImageData rq s
  | .lgcLoadImageInstall rq => Sys2Proof.Machine.execLgcLoadImageInstall rq s
  | .lgcStart rq => Sys2Proof.Machine.execLgcStart rq s
  | .lgcStop rq => Sys2Proof.Machine.execLgcStop rq s
  | .lgcSetValue rq => Sys2Proof.Machine.execLgcSetValue rq s
  | .lgcGetValue rq => Sys2Proof.Machine.execLgcGetValue rq s
  | .lgcGetStatus rq => Sys2Proof.Machine.execLgcGetStatus rq s
  | .logicCycle t => Sys2Proof.Machine.execLogicCycle t s
  | .logicCycleComplete t => Sys2Proof.Machine.execLogicCycleComplete t s
  | .recSetCursor rq => Sys2Proof.Machine.execRecSetCursor rq s
  | .recRead rq => Sys2Proof.Machine.execRecRead rq s
  | .recClear rq => Sys2Proof.Machine.execRecClear rq s
  | .recWriteUser rq => Sys2Proof.Machine.execRecWriteUser rq s
  | .recRecordWrite t ok1 ok2 => Sys2Proof.Machine.execRecRecordWrite t ok1 ok2 s
  | .recCoalesceEnd t => Sys2Proof.Machine.execRecCoalesceEnd t s
  | .recCursorWrite t value => Sys2Proof.Machine.execRecCursorWrite t value s
  | .recWindowLoaded t => Sys2Proof.Machine.execRecWindowLoaded t s
  | .timGet rq => Sys2Proof.Machine.execTimGet rq s
  | .timSetPpsEpoch rq => Sys2Proof.Machine.execTimSetPpsEpoch rq s
  | .timSetHostTime rq => Sys2Proof.Machine.execTimSetHostTime rq s
  | .timAcceptJump rq => Sys2Proof.Machine.execTimAcceptJump rq s
  | .vesselMeasurement t => Sys2Proof.Machine.execVesselMeasurement t s
  | .timeReferenceLost t => Sys2Proof.Machine.execTimeReferenceLost t s
  | .timSourceSwitch t => Sys2Proof.Machine.execTimSourceSwitch t s
  | .timHoldoverLimit t => Sys2Proof.Machine.execTimHoldoverLimit t s
  | .ppsInEdge t => Sys2Proof.Machine.execPpsInEdge t s
  | .ppsInLost t => Sys2Proof.Machine.execPpsInLost t s
  | .ppsOutputEdge t => Sys2Proof.Machine.execPpsOutputEdge t s
  | .ptpMessage t msg => Sys2Proof.Machine.execPtpMessage t msg s
  | .ptpSyncTx t mbps => Sys2Proof.Machine.execPtpSyncTx t mbps s
  | .gnssMeasurementEpoch t meas => Sys2Proof.Machine.execGnssMeasurementEpoch t meas s
  | .gbSampleHandover t late => Sys2Proof.Machine.execGbSampleHandover t late s
  | .acquisitionDetect t input cells => Sys2Proof.Machine.execAcquisitionDetect t input cells s
  | .channelLockLoss t input chan why => Sys2Proof.Machine.execChannelLockLoss t input chan why s
  | .gnsSignal t input levels => Sys2Proof.Machine.execGnsSignal t input levels s
  | .antennaSupplyCheck t ma1 ma2 => Sys2Proof.Machine.execAntennaSupplyCheck t ma1 ma2 s
  | .antennaRetry t ma1 ma2 => Sys2Proof.Machine.execAntennaRetry t ma1 ma2 s
  | .rtcmFrame t frame => Sys2Proof.Machine.execRtcmFrame t frame s
  | .correctionExpiry t => Sys2Proof.Machine.execCorrectionExpiry t s
  | .gnssStoreWrite t whole => Sys2Proof.Machine.execGnssStoreWrite t whole s
  | .gnsGetFix rq => Sys2Proof.Machine.execGnsGetFix rq s
  | .gnsGetChannels rq => Sys2Proof.Machine.execGnsGetChannels rq s
  | .gnsSetCorrections rq => Sys2Proof.Machine.execGnsSetCorrections rq s
  | .gnsColdStart rq => Sys2Proof.Machine.execGnsColdStart rq s
  | .serialSentence t port => Sys2Proof.Machine.execSerialSentence t port s
  | .serialByte t port data framing => Sys2Proof.Machine.execSerialByte t port data framing s
  | .lnkSerSilent t => Sys2Proof.Machine.execLnkSerSilent t s
  | .serialTxComplete t port => Sys2Proof.Machine.execSerialTxComplete t port s
  | .alertAlfRepeat t => Sys2Proof.Machine.execAlertAlfRepeat t s
  | .alertAlcList t => Sys2Proof.Machine.execAlertAlcList t s
  | .iec450Datagram t portB group port src data => Sys2Proof.Machine.execIec450Datagram t portB group port src data s
  | .canFrameRx t ctl frame => Sys2Proof.Machine.execCanFrameRx t ctl frame s
  | .canTxComplete t ctl obj res => Sys2Proof.Machine.execCanTxComplete t ctl obj res s
  | .canBusIntegration t ctl => Sys2Proof.Machine.execCanBusIntegration t ctl s
  | .canCtrlRestart t ctl x => Sys2Proof.Machine.execCanCtrlRestart t ctl x s
  | .canFifoPop t ctl fifo x => Sys2Proof.Machine.execCanFifoPop t ctl fifo x s
  | .crcInit t unit x => Sys2Proof.Machine.execCrcInit t unit x s
  | .crcStart t unit x => Sys2Proof.Machine.execCrcStart t unit x s
  | .crcDmaComplete t unit => Sys2Proof.Machine.execCrcDmaComplete t unit s
  | .crcDataWrite t unit value x => Sys2Proof.Machine.execCrcDataWrite t unit value x s
  | .crcValueWrite t unit value x => Sys2Proof.Machine.execCrcValueWrite t unit value x s
  | .lnkGetCounters rq => Sys2Proof.Machine.execLnkGetCounters rq s
  | .lnkCanTx rq => Sys2Proof.Machine.execLnkCanTx rq s
  | .lnkSerTx rq => Sys2Proof.Machine.execLnkSerTx rq s
  | .fldGetStation rq => Sys2Proof.Machine.execFldGetStation rq s
  | .fldScan rq => Sys2Proof.Machine.execFldScan rq s
  | .aioFilterOutput t chan raw => Sys2Proof.Machine.execAioFilterOutput t chan raw s
  | .diSample t levels => Sys2Proof.Machine.execDiSample t levels s
  | .doTripRetry t out => Sys2Proof.Machine.execDoTripRetry t out s
  | .aioFilterSetStop rq => Sys2Proof.Machine.execAioFilterSetStop rq s
  | .aioFilterSetLoad rq => Sys2Proof.Machine.execAioFilterSetLoad rq s
  | .aioFilterSetStart rq => Sys2Proof.Machine.execAioFilterSetStart rq s
  | .aioCalPoint1 rq => Sys2Proof.Machine.execAioCalPoint1 rq s
  | .aioCalPoint2 rq => Sys2Proof.Machine.execAioCalPoint2 rq s
  | .aioCalCommit rq => Sys2Proof.Machine.execAioCalCommit rq s
  | .aioCalFactory rq => Sys2Proof.Machine.execAioCalFactory rq s
  | .safInputSample t levels tp => Sys2Proof.Machine.execSafInputSample t levels tp s
  | .safCycle t meas => Sys2Proof.Machine.execSafCycle t meas s
  | .safTelegram t => Sys2Proof.Machine.execSafTelegram t s
  | .safTelegramRx t consumer ok => Sys2Proof.Machine.execSafTelegramRx t consumer ok s
  | .safOutputTest t out low ok => Sys2Proof.Machine.execSafOutputTest t out low ok s
  | .safClockCheck t ticks => Sys2Proof.Machine.execSafClockCheck t ticks s
  | .safMemoryTest t ok => Sys2Proof.Machine.execSafMemoryTest t ok s
  | .safSessionTimeout t => Sys2Proof.Machine.execSafSessionTimeout t s
  | .safLockoutEnd t => Sys2Proof.Machine.execSafLockoutEnd t s
  | .safLoginLogin rq => Sys2Proof.Machine.execSafLoginLogin rq s
  | .safLoginLogout rq => Sys2Proof.Machine.execSafLoginLogout rq s
  | .safLoginChangePassword rq => Sys2Proof.Machine.execSafLoginChangePassword rq s
  | .safCfgWrite rq => Sys2Proof.Machine.execSafCfgWrite rq s
  | .safCfgCommit rq => Sys2Proof.Machine.execSafCfgCommit rq s
  | .safGetLog rq => Sys2Proof.Machine.execSafGetLog rq s
  | .safResetFunction rq => Sys2Proof.Machine.execSafResetFunction rq s
  | .redGetState rq => Sys2Proof.Machine.execRedGetState rq s
  | .redRequestHandover rq => Sys2Proof.Machine.execRedRequestHandover rq s
  | .redSetRolePref rq => Sys2Proof.Machine.execRedSetRolePref rq s
  | .recordMessage t m => Sys2Proof.Machine.execRecordMessage t m s
  | .recordTimeout t => Sys2Proof.Machine.execRecordTimeout t s
  | .compareMessage t m => Sys2Proof.Machine.execCompareMessage t m s
  | .verdictMessage t m => Sys2Proof.Machine.execVerdictMessage t m s
  | .sealMessage t m => Sys2Proof.Machine.execSealMessage t m s
  | .repairMessage t m => Sys2Proof.Machine.execRepairMessage t m s
  | .controlMessage t m => Sys2Proof.Machine.execControlMessage t m s
  | .heartbeatMessage t m => Sys2Proof.Machine.execHeartbeatMessage t m s
  | .heartbeatLoss t => Sys2Proof.Machine.execHeartbeatLoss t s
  | .tokenWatchdog t => Sys2Proof.Machine.execTokenWatchdog t s
  | .loopIdleWait t idle => Sys2Proof.Machine.execLoopIdleWait t idle s
  | .tokenConfirm t loop => Sys2Proof.Machine.execTokenConfirm t loop s
  | .demandRelease t => Sys2Proof.Machine.execDemandRelease t s
  | .tokenRelease t => Sys2Proof.Machine.execTokenRelease t s
  | .redTakeover t => Sys2Proof.Machine.execRedTakeover t s
  | .outputStageCheck t cmdValid => Sys2Proof.Machine.execOutputStageCheck t cmdValid s
  | .formationTimeout t => Sys2Proof.Machine.execFormationTimeout t s
  | .arbitrationReplayDone t differs katFailed => Sys2Proof.Machine.execArbitrationReplayDone t differs katFailed s
  | .redTest t => Sys2Proof.Machine.execRedTest t s
  | .knownAnswerTest t failed => Sys2Proof.Machine.execKnownAnswerTest t failed s
  | .powerOn p => Sys2Proof.Machine.execPowerOn p s
  | .commandChannelReady t => Sys2Proof.Machine.execCommandChannelReady t s
  | .dpReady t => Sys2Proof.Machine.execDpReady t s
  | .warmRestart t => Sys2Proof.Machine.execWarmRestart t s
  | .feedSample t mvA maA mvB maB => Sys2Proof.Machine.execFeedSample t mvA maA mvB maB s
  | .rideThroughExpiry t => Sys2Proof.Machine.execRideThroughExpiry t s
  | .storeReserveReached t => Sys2Proof.Machine.execStoreReserveReached t s
  | .saveComplete t ok => Sys2Proof.Machine.execSaveComplete t ok s
  | .coreRestart p => Sys2Proof.Machine.execCoreRestart p s
  | .auxSupplySample t sMv doMv => Sys2Proof.Machine.execAuxSupplySample t sMv doMv s
  | .envLimit t base => Sys2Proof.Machine.execEnvLimit t base s
  | .clkReference t why => Sys2Proof.Machine.execClkReference t why s
  | .extReferenceReturn t => Sys2Proof.Machine.execExtReferenceReturn t s
  | .rcTrim t khz => Sys2Proof.Machine.execRcTrim t khz s
  | .clkOscWarm t terr => Sys2Proof.Machine.execClkOscWarm t terr s
  | .oppointStep t => Sys2Proof.Machine.execOppointStep t s
  | .thermalStepdown t die => Sys2Proof.Machine.execThermalStepdown t die s
  | .thermalRecovery t die => Sys2Proof.Machine.execThermalRecovery t die s
  | .clkLock t domain pllB => Sys2Proof.Machine.execClkLock t domain pllB s
  | .pllRelock t domain pllB ok => Sys2Proof.Machine.execPllRelock t domain pllB ok s
  | .fwUpdateBegin rq => Sys2Proof.Machine.execFwUpdateBegin rq s
  | .fwUpdateData rq => Sys2Proof.Machine.execFwUpdateData rq s
  | .fwUpdateEndVerify rq => Sys2Proof.Machine.execFwUpdateEndVerify rq s
  | .fwUpdateEndVerifyStart rq => Sys2Proof.Machine.execFwUpdateEndVerifyStart rq s
  | .fwUpdateEndAbandon rq => Sys2Proof.Machine.execFwUpdateEndAbandon rq s
  | .fwUpdateTimeout t => Sys2Proof.Machine.execFwUpdateTimeout t s
  | .trialWatchdog t => Sys2Proof.Machine.execTrialWatchdog t s
  | .service rq xs => Sys2Proof.Machine.execService rq xs s
  | .lioshHelp t => Sys2Proof.Machine.execLioshHelp t s
  | .lioshId t => Sys2Proof.Machine.execLioshId t s
  | .lioshStatus t xs => Sys2Proof.Machine.execLioshStatus t xs s
  | .lioshReg t addr count xs => Sys2Proof.Machine.execLioshReg t addr count xs s
  | .lioshMbx t id x => Sys2Proof.Machine.execLioshMbx t id x s
  | .lioshEvents t xs => Sys2Proof.Machine.execLioshEvents t xs s
  | .lioshRec t first n => Sys2Proof.Machine.execLioshRec t first n s
  | .lioshTime t xs => Sys2Proof.Machine.execLioshTime t xs s
  | .lioshLinks t xs => Sys2Proof.Machine.execLioshLinks t xs s
  | .lioshService t => Sys2Proof.Machine.execLioshService t s
  | .lioshView t => Sys2Proof.Machine.execLioshView t s
  | .lioshRegw t addr value x => Sys2Proof.Machine.execLioshRegw t addr value x s
  | .lioshKat t failed => Sys2Proof.Machine.execLioshKat t failed s
  | .lioshFwSelect t imageB => Sys2Proof.Machine.execLioshFwSelect t imageB s
  | .lioshResetCold t => Sys2Proof.Machine.execLioshResetCold t s
  | .lioshResetWarm t => Sys2Proof.Machine.execLioshResetWarm t s
  | .pk20OutputWrite t => Sys2Proof.Machine.execPk20OutputWrite t s
  | .pk20FrameGap t port => Sys2Proof.Machine.execPk20FrameGap t port s
  | .readStatus f => Sys2Proof.Machine.execReadStatus f s
  | .readPosition f => Sys2Proof.Machine.execReadPosition f s
  | .readHeading f => Sys2Proof.Machine.execReadHeading f s
  | .readThruster f => Sys2Proof.Machine.execReadThruster f s
  | .readCommands f => Sys2Proof.Machine.execReadCommands f s
  | .readAlarms f => Sys2Proof.Machine.execReadAlarms f s
  | .ackAlarm f => Sys2Proof.Machine.execAckAlarm f s
  | .setMode f => Sys2Proof.Machine.execSetMode f s
  | .setPosition f => Sys2Proof.Machine.execSetPosition f s
  | .setHeading f => Sys2Proof.Machine.execSetHeading f s
  | .joystick f => Sys2Proof.Machine.execJoystick f s
  | .thrusterEnable f => Sys2Proof.Machine.execThrusterEnable f s
  | .readRefs f => Sys2Proof.Machine.execReadRefs f s
  | .selectRef f => Sys2Proof.Machine.execSelectRef f s
  | .readTime f => Sys2Proof.Machine.execReadTime f s
  | .readConsequence f => Sys2Proof.Machine.execReadConsequence f s
  | .undefinedOpcodeRequest dg => Sys2Proof.Machine.execUndefinedOpcodeRequest dg s
  | .canBusError t ctl err => Sys2Proof.Machine.execCanBusError t ctl err s
  | .pullInLock t input chan low ns => Sys2Proof.Machine.execPullInLock t input chan low ns s
  | .navDataDecoded t input chan data => Sys2Proof.Machine.execNavDataDecoded t input chan data s
  | .ptpDelayReqTx t mbps => Sys2Proof.Machine.execPtpDelayReqTx t mbps s
  | .operatingTimeSave t => Sys2Proof.Machine.execOperatingTimeSave t s
  | .energyStoreCharged t => Sys2Proof.Machine.execEnergyStoreCharged t s
  | .aonBackupCharged t => Sys2Proof.Machine.execAonBackupCharged t s
  | .lioshCharacter t data xs => Sys2Proof.Machine.execLioshCharacter t data xs s
  | .pk20UnknownFunction f hi lo => Sys2Proof.Machine.execPk20UnknownFunction f hi lo s

end Sys2Proof.Machine
end

