-- ==== Sys2Proof/Safety.lean ====
section
/-! DEFINITION. What a safe step and a safe run are, and the terms of the claims: a request that is admitted, what it is answered, the invariants. -/

namespace Sys2Proof.Machine

/-- A step that answers a next state. -/
def SafeStep (s : State) : Prop := ∃ t, step s = .next t

/-- A run of `n` steps none of which stops. -/
def SafeRun : Nat → State → Prop
  | 0, _ => True
  | n + 1, s => ∃ t, step s = .next t ∧ SafeRun n t

/-- A request of opcode `op` passes checks 5 to 12 and the role part of check 13 (Table 2.4): its source is the tracked host `w` with record `h`, its
sequence number is new, its opcode is defined and in the personality, its trailer gives `au`, its tag and one of the 64 places are free. -/
structure Admitted (s : State) (op : Nat) (rq : Rq) (w : Ident) (h : HostRec) (au : Bool) : Prop where
  ready : s.chan.ready = true
  source : (identOf s.cfg.active rq.from_).map Prod.fst = some w
  host : s.host? w = some h
  fresh : seqKind h rq.seq = 0
  known : opDefined op = true
  pers : (s.pers == .pk20 && !opInPk op s.profile) = false
  auth : authCheck s.cfg.active op rq = some au
  tag : s.chan.opens.any (fun x => x.ident == w && x.tag == rq.tag % 64) = false
  room : s.chan.opens.length < 64
  len : lenOk op rq.payload = true
  awake : (s.asleep && !opAsleep op) = false
  role : (opActive op && !s.active) = false
  ids : ∀ o ∈ s.chan.opens, o.id < s.chan.nextId

/-- The open request an admitted request becomes. -/
def requestOf (s : State) (op : Nat) (rq : Rq) (w : Ident) (h : HostRec) (au : Bool) : Opn :=
  { id := s.chan.nextId, hostIdx := h.idx, ident := w, seq := rq.seq, tag := rq.tag % 64, op := op, srcs := [rq.from_], auth := au, t := rq.t,
    force := rq.force }

/-- The registers written where an event occurs or an alert is sent: the latches, the recorder's status and counters, the count of alert datagrams. -/
def eventRegs : List Nat :=
  [Reg.evtLatch, Reg.evtLatch + 4, Reg.evtLatch + 8, Reg.evtLatch + 12, Reg.recStatus, Reg.recCntDrop, Reg.recCntCoalesce, cnt450 7]

/-- Recorder `r` with what occurrences of events change in it as `d` has it: its queue, its coalescing, the count of dropped records (R444, R447). -/
def Recorder.withEvents (r d : Recorder) : Recorder := { r with queue := d.queue, coalesce := d.coalesce, dropped := d.dropped }

/-- Serial links `q` with what alert sentences change in them as `a` has it: the alerts' list and the ports' transmit queues (R302, R303). -/
def Ser.withAlerts (q a : Ser) : Ser :=
  { q with alerts := a.alerts, revs := a.revs, acked := a.acked, ports := (q.ports.zip a.ports).map (fun x => { x.1 with txq := x.2.txq }) }

/-- The frame of a command that is no request: `t` is `s` but for MONO, what was sent, the count of sent bytes, the event reporter, the records that wait in
the recorder, the alerts with the serial ports' transmit queues, and the registers of `rs` and `eventRegs`. A unit the command changes stands changed in `s`. -/
def Calm (rs : List Nat) (s t : State) : Prop :=
  { t with mono := s.mono, out := s.out, regs := s.regs, evt := s.evt, recd := t.recd.withEvents s.recd, ser := t.ser.withAlerts s.ser, chan := { t.chan with txBytes := s.chan.txBytes } } = s ∧
    ∀ a, a ∉ eventRegs → a ∉ rs → t.reg a = s.reg a

/-- The frame of a request: as `Calm`, and the channel's hosts, open requests, next number and received bytes may differ; its counters and results stand. -/
def Served (rs : List Nat) (s t : State) : Prop :=
  { t with mono := s.mono, out := s.out, regs := s.regs, evt := s.evt, recd := t.recd.withEvents s.recd, ser := t.ser.withAlerts s.ser,
           chan := { t.chan with hosts := s.chan.hosts, opens := s.chan.opens, nextId := s.chan.nextId, rxBytes := s.chan.rxBytes,
                                 txBytes := s.chan.txBytes } } = s ∧
    ∀ a, a ∉ eventRegs → a ∉ rs → t.reg a = s.reg a

/-- Event `ev` stands in EVT_LATCH (R50). -/
def Latched (t : State) (ev : Nat) : Prop := bits (t.reg (Reg.evtLatch + 4 * (ev / 32))) (ev % 32) 1 = 1

/-- Event `ev` has a present condition of cause `key` (R50). -/
def Present (t : State) (ev key : Nat) : Prop := (ev, key) ∈ t.evt.conds

/-- A reply to a request has been sent whole to its source, from the module's address on the port of its arrival. -/
def WasSent (s t : State) (op : Nat) (rq : Rq) (au : Bool) (status : Nat) (data : List Byte) : Prop :=
  ∀ p ∈ replyParts (if au then some (authKey s.cfg.active) else none) op (rq.tag % 64) rq.seq status data,
    Out.udp (s.ownIp rq.portB) 22480 rq.from_ ipHdr p ∈ t.out

/-- A request has been answered with its final reply, and its tag is free again (R38). -/
def Replied (s t : State) (op : Nat) (rq : Rq) (au : Bool) (status : Nat) (data : List Byte) : Prop :=
  WasSent s t op rq au status data ∧ t.chan.opens = s.chan.opens

/-- A request has been answered ACCEPTED, and its tag stays open (R40). -/
def Interim (s t : State) (op : Nat) (rq : Rq) (w : Ident) (h : HostRec) (au : Bool) : Prop :=
  WasSent s t op rq au st.accepted [] ∧ t.chan.opens = s.chan.opens ++ [requestOf s op rq w h au]

/-- Command `c` is a request of opcode `op` that, admitted, answers a next state with its final reply alone; `u`, from the open request, is the state but for
what the frame leaves open. -/
def Replies (c : Instr) (op : Nat) (rq : Rq) (s : State) (status : Nat) (data : List Byte) (u : Opn → State) (rs : List Nat) : Prop :=
  ∀ w h au, Admitted s op rq w h au → ∃ t, exec c s = .next t ∧ Replied s t op rq au status data ∧ Served rs (u (requestOf s op rq w h au)) t

/-- Command `c` is a request of opcode `op` that, admitted, answers a next state in which it is ACCEPTED and open. -/
def Accepts (c : Instr) (op : Nat) (rq : Rq) (s : State) (u : Opn → State) (rs : List Nat) : Prop :=
  ∀ w h au, Admitted s op rq w h au → ∃ t, exec c s = .next t ∧ Interim s t op rq w h au ∧ Served rs (u (requestOf s op rq w h au)) t

/-- Command `c` is a request of opcode `op` that, admitted, is refused at check 13: its final reply has no payload, the refusals' count goes up, and nothing
else changes but what the frame leaves open. -/
def Refuses (c : Instr) (op : Nat) (rq : Rq) (s : State) (status : Nat) : Prop :=
  Replies c op rq s status [] (fun _ => s.cnt (fun n => { n with refused := satInc n.refused })) []

/-- Command `c` is a request of opcode `op` that, admitted, is ACCEPTED and joins the host actions that wait for the cycle tick (R41), with the
configuration it is based on and what it stages. -/
def Waits (c : Instr) (op : Nat) (rq : Rq) (s : State) (base : Nat) (staged : Mem) : Prop :=
  Accepts c op rq s (fun o => s.queueBnd o rq base staged) []

/-- The status and counter registers of the Chain controller and of its stations. -/
def chainRegs : List Nat := (List.range 320).map (fun k => Reg.fldStatus + 4 * k)

/-- The status and counters of the Time Unit. -/
def timRegs : List Nat := [Reg.timStatus, Reg.timCntStep, Reg.timCntRefused, Reg.timCntOutlier, Reg.timCntPpsbad, Reg.timCntPtpdisc]

/-- The status and counters of the GNSS baseband. -/
def gnsRegs : List Nat := (List.range 24).map (fun k => Reg.gnsStatus + 4 * k)

/-- Cycles run: the module is started and has had its first tick. -/
def Cycling (s : State) : Prop := s.clk.firstTick = true ∧ s.clk.phase = .running

/-- The register file holds one word at most for an address, addresses rising, none equal to its register's reset value. -/
def RegsCanonical (s : State) : Prop := sparseWf regDflt s.regs = true

end Sys2Proof.Machine
end

