-- ==== Sys2Proof/Certificates/Slice0/Obligations.lean ====
section
/-! DEFINITION. The statements of the model for the provers. -/

open Sys2Proof Sys2Proof.Machine

/-! The queue. -/

/-- The command in front of the queue is run on the state with the rest of the queue; an empty queue leaves the state (log 1). -/
def Obligations.StepRunsFront : Prop :=
  (∀ (c : Instr) (rest : List Instr) (s : State), step { s with pending := c :: rest } = exec c { s with pending := rest }) ∧
  ∀ s : State, s.pending = [] → step s = .next s

/-- Every command answers a next state, whose queue is the one it was run with. -/
def Obligations.EveryCommandCompletes : Prop :=
  ∀ (c : Instr) (s : State), ∃ t, exec c s = .next t ∧ t.pending = s.pending

/-! Requests of the command channel (chapter 02). -/

/-- NOP, GET_IDENTITY, GET_STATUS and CFG_GET_HASH: their replies (Tables 2.10 to 2.13, R57) and frame. -/
def Obligations.ChannelReads : Prop :=
  ∀ (s : State) (rq : Rq),
    Replies (.nop rq) 0x00 rq s 0 [] (fun _ => s) [] ∧
    Replies (.getIdentity rq) 0x01 rq s 0
      (u16 0x5753 ++ u16 0x0480 ++ [0x42#8, 0#8, byteOf s.fw.running.major, byteOf s.fw.running.minor] ++ u16 s.fw.running.patch ++
        [byteOf (if s.pers = .native then 0 else 1), byteOf (if s.pers = .native then 0 else if s.profile = .strict then 0 else 1)] ++ u64 Config.serial)
      (fun _ => s) [] ∧
    (getU8 rq.payload 0 = 0 → Replies (.getStatus rq) 0x02 rq s 0
      (u64 s.cyc.number ++ u32 s.cfg.hash ++ [byteOf (roleCode s.red.role), byteOf s.ctl.mode, 0#8, 0#8]) (fun _ => s) []) ∧
    (getU8 rq.payload 0 = 1 → Replies (.getStatus rq) 0x02 rq s 0
      ([s.chan.cnt.foreignDg, s.chan.cnt.badVersion, s.chan.cnt.badLength, s.chan.cnt.badCrc, s.chan.cnt.unlisted, s.chan.cnt.duplicates, s.chan.cnt.stale,
        s.chan.cnt.ipDiscards, s.chan.cnt.notInPersonality, s.chan.cnt.authFailures, s.chan.cnt.earlyReads, s.chan.cnt.repeatReads, s.chan.cnt.eventRetx,
        s.chan.cnt.busySources, s.chan.cnt.badOpcode, s.chan.cnt.tagInUse, s.chan.cnt.noTag, s.chan.cnt.refused].flatMap (fun n => u32 (satN 32 n)))
      (fun _ => s) []) ∧
    Replies (.cfgGetHash rq) 0x25 rq s 0 (u32 s.cfg.hash ++ u32 0 ++ u64 s.cfg.hashEpoch) (fun _ => s) []

/-- GET_STATUS with a selector other than 0 or 1 (R529). -/
def Obligations.StatusSelectorRefused : Prop :=
  ∀ (s : State) (rq : Rq), 1 < getU8 rq.payload 0 → Refuses (.getStatus rq) 0x02 rq s 0x09

/-- SET_EVENT_MASK makes its sender a destination with the mask of its payload and the port it arrived on, other destinations stay (R51); ACK_EVENT of a
sequence not below that of the held record releases it, so that a record of the event that is still held is of the acknowledgement's own step (R52). -/
def Obligations.EventRequests : Prop :=
  ∀ (s : State) (rq : Rq) (w : Ident) (h : HostRec) (au : Bool),
    (Admitted s 0x04 rq w h au → ∃ t, exec (.setEventMask rq) s = .next t ∧ Replied s t 0x04 rq au 0 [] ∧ Served [] s t ∧
      (∃ d ∈ t.evt.dests, d.ident = w ∧ d.mask = leNat (slice rq.payload 0 16) ∧ d.setSeq = rq.seq ∧ d.ports = [rq.from_]) ∧
      ∀ (i : Nat) (d : Dest), s.evt.dests[i]? = some d → d.ident ≠ w → ∃ e, t.evt.dests[i]? = some e ∧ e.ident = d.ident ∧ e.mask = d.mask ∧ e.ports = d.ports) ∧
    (Admitted s 0x05 rq w h au → ∀ (i : Nat) (d : Dest) (r : EvRec), s.evt.dests.findIdx? (fun d => d.ident == w) = some i → s.evt.dests[i]? = some d →
      d.recs.find? (fun x => x.ev == getU8 rq.payload 0) = some r → r.seq ≤ getU32 rq.payload 4 → r.born ≠ rq.t / 1000 →
      ∃ t, exec (.ackEvent rq) s = .next t ∧ Replied s t 0x05 rq au 0 [] ∧
        Served [] (if getU8 rq.payload 0 = 74 then { s with fld := { s.fld with seen := [] } }
          else if getU8 rq.payload 0 = 80 then { s with ser := { s.ser with
            ports := s.ser.ports.map (fun p => { p with errRaised := false })
            p450 := { s.ser.p450 with errRaised := false } } }
          else s) t ∧
        ∃ e, t.evt.dests[i]? = some e ∧ e.ident = w ∧ e.mask = d.mask ∧ e.rounds = 0 ∧ ∀ x ∈ e.recs, x.ev = getU8 rq.payload 0 → x.born = rq.t / 1000)

/-- EVENT_RETX_ROUND sends each destination's held records again in its round, with RETX, and counts the round; EVT_DEST_LOST removes a destination whose
eleventh round falls due and reports it (R53); HOST_PATH_LOST starts the condition of a port of a bound host that has been silent for 2 s while the other was
heard (R527). -/
def Obligations.EventRounds : Prop :=
  ∀ (s : State) (t : Nat),
    (∀ (i : Nat) (d : Dest) (n : Nat), s.chan.ready = true → s.evt.dests[i]? = some d → d.recs ≠ [] → d.recs.length ≤ 29 → d.rounds < 10 → d.nextRound = some n →
      n ≤ t → ∃ x, exec (.eventRetxRound t) s = .next x ∧
        x.evt.dests[i]? = some { d with rounds := d.rounds + 1, nextRound := some (n + 1000000000), pktSeq := (d.pktSeq + 1) % 2 ^ 32 } ∧
        ∀ p ∈ d.ports, Out.udp (s.ownIp p.portB) 22481 p ipHdr (packet 0xE0 0xC000 ((d.pktSeq + 1) % 2 ^ 32) 0 0 none
          (u16 d.recs.length ++ u16 0 ++ d.recs.flatMap (fun r => evRecBytes (s.evt.conds.any (fun c => c.1 == r.ev)) true r))) ∈ x.out) ∧
    (∀ (i : Nat) (d : Dest), s.evt.dests[i]? = some d → ∃ x, exec (.eventRetxRound t) s = .next x ∧
      (∀ e, x.evt.dests[i]? = some e → e.ident = d.ident ∧ e.recs = d.recs ∧
        e.rounds = (if d.recs ≠ [] ∧ d.rounds < 10 ∧ (∃ n, d.nextRound = some n ∧ n ≤ t) then d.rounds + 1 else d.rounds)) ∧
      x.evt.dests.length = s.evt.dests.length ∧ Calm [] { s with chan := { s.chan with cnt := { s.chan.cnt with eventRetx := x.chan.cnt.eventRetx } } } x) ∧
    (∀ d ∈ s.evt.dests, ∀ n, 10 ≤ d.rounds → d.recs ≠ [] → d.nextRound = some n → n ≤ t → ∃ x, exec (.evtDestLost t) s = .next x ∧
      x.evt.dests.map Dest.ident = (s.evt.dests.filter (fun d => !(decide (10 ≤ d.rounds) && !d.recs.isEmpty && d.nextRound.any (fun n => decide (n ≤ t))))).map Dest.ident ∧
      Latched x 11 ∧ Calm [] s x) ∧
    ((∀ d ∈ s.evt.dests, d.rounds < 10 ∨ d.recs = [] ∨ ∀ n, d.nextRound = some n → t < n) →
      ∃ x, exec (.evtDestLost t) s = .next x ∧ x.evt = s.evt ∧ Calm [] s x) ∧
    (∀ h ∈ s.chan.hosts, boundBoth h.ident = true → h.lastA.getD h.since + 2000000000 ≤ t → (∃ o, h.lastB = some o ∧ t < o + 2000000000) →
      ∃ x, exec (.hostPathLost t) s = .next x ∧ Calm [] s x ∧ Present x 8 (2 * h.idx) ∧ ((8, 2 * h.idx) ∉ s.evt.conds → Latched x 8)) ∧
    (∀ h ∈ s.chan.hosts, boundBoth h.ident = true → h.lastB.getD h.since + 2000000000 ≤ t → (∃ o, h.lastA = some o ∧ t < o + 2000000000) →
      ∃ x, exec (.hostPathLost t) s = .next x ∧ Calm [] s x ∧ Present x 8 (2 * h.idx + 1) ∧ ((8, 2 * h.idx + 1) ∉ s.evt.conds → Latched x 8))

/-- ARP and ICMP echo requests are answered and discarded frames are counted (R30), the channel being ready. -/
def Obligations.NetworkFrames : Prop :=
  ∀ (s : State) (t mac ip : Nat) (portB : Bool) (data : List Byte) (why : DiscardWhy), s.chan.ready = true →
    (∃ x, exec (.arpRequest t portB mac ip (s.ownIp portB)) s = .next x ∧ Out.arp portB mac ip ∈ x.out ∧ Calm [] s x) ∧
    (∀ target, target ≠ s.ownIp portB → ∃ x, exec (.arpRequest t portB mac ip target) s = .next x ∧ Calm [] s x) ∧
    (∃ x, exec (.icmpEcho t portB mac ip data) s = .next x ∧ Out.echo portB mac ip data ∈ x.out ∧ Calm [] s x) ∧
    (∃ x, exec (.ipDiscard t portB why) s = .next x ∧
      Calm [] { s with chan := { s.chan with cnt := { s.chan.cnt with ipDiscards := satN 32 (s.chan.cnt.ipDiscards + 1) } } } x)

/-- A whole datagram of an opcode that is not defined: answered BAD_OPCODE and counted, with its sequence taken (R45, Table 2.4). -/
def Obligations.UndefinedOpcode : Prop :=
  ∀ (s : State) (d : RawDatagram) (w : Ident) (h : HostRec), dgCheck d.bytes = 0 → opDefined (getU8 d.bytes 3) = false → s.chan.ready = true →
    (identOf s.cfg.active (dgRequest d).from_).map Prod.fst = some w → s.host? w = some h → seqKind h (dgRequest d).seq = 0 →
    (∀ o ∈ s.chan.opens, o.id < s.chan.nextId) →
    ∃ t, exec (.undefinedOpcodeRequest d) s = .next t ∧ Replied s t (getU8 d.bytes 3) (dgRequest d) false 0x04 [] ∧
      Served [] { s with chan := { s.chan with cnt := { s.chan.cnt with badOpcode := satN 32 (s.chan.cnt.badOpcode + 1) } } } t

/-! Registers and the mailbox (chapter 03). -/

/-- What a software write makes of a field (Table 3.2): `old` is the register's word before, `v` the word written, `x` what hardware does in the same
clock. -/
def fieldAfter (f : Fld) (old v : Nat) (x : Cross) : Nat := match f.cls with
  | .rw => bits v f.lo f.w
  | .wo => bits v f.lo f.w
  | .rws => ((2 ^ f.w - 1 - bits x.done f.lo f.w) &&& bits old f.lo f.w) ||| bits v f.lo f.w
  | .w1c => ((2 ^ f.w - 1 - bits v f.lo f.w) &&& bits old f.lo f.w) ||| bits x.setBits f.lo f.w
  | .rwh => if bits x.hwMask f.lo f.w = 0 then bits v f.lo f.w else bits x.hwVal f.lo f.w
  | .cnt => (bits v f.lo f.w + x.inc) % 2 ^ f.w

/-- REG_READ and REG_READ_BLOCK return the words of their registers and account their stalls, their crossings not being abandoned; an address that is no register
is a bus error (R64, R67, R68, R71). A word is read in the state after the request's arrival, `y`. -/
def Obligations.RegisterReads : Prop :=
  ∀ (s : State) (rq : Rq) (w : Ident) (h : HostRec) (au : Bool),
    let a := getU32 rq.payload 0
    let n := getU16 rq.payload 4
    (∀ x, Admitted s 0x10 rq w h au → (regFind a).isSome = true → s.blockDown (blockOf a) = false → x.lost = none →
      ∃ t y, exec (.regRead rq x) s = .next t ∧ Served [] s y ∧
        Replied s t 0x10 rq au 0 (u32 (y.readReg rq.t a) ++ u16 (satN 16 x.stall) ++ u16 0) ∧
        t.reg Reg.sysXstall = setBits (s.reg Reg.sysXstall) 0 16 (Nat.max (bits (s.reg Reg.sysXstall) 0 16) (satN 16 x.stall)) % 2 ^ 32 ∧
        (a ≠ Reg.mbxData + 28 → Served [Reg.sysXstall] s t) ∧
        (a = Reg.mbxData + 28 → Served [Reg.sysXstall] { s with mbx := if s.mbx.backAt rq.t then s.mbx.at_ rq.t else { s.mbx.at_ rq.t with valid := false } } t)) ∧
    (∀ x, Admitted s 0x10 rq w h au → (regFind a).isSome = false →
      ∃ t, exec (.regRead rq x) s = .next t ∧ Replied s t 0x10 rq au 0x0B [] ∧ Served [Reg.sysStatus, Reg.sysBuserrAddr, Reg.sysBuserrCount] s t ∧
        bits (t.reg Reg.sysStatus) 2 1 = 1 ∧ t.reg Reg.sysBuserrAddr = a ∧ t.reg Reg.sysBuserrCount = (s.reg Reg.sysBuserrCount + 1) % 2 ^ 32) ∧
    (∀ xs, Admitted s 0x12 rq w h au → 1 ≤ n → n ≤ 256 → s.blockDown (blockOf a) = false → (∀ x ∈ xs, x.lost = none) →
      (∀ i < n, (regFind (a + 4 * i)).isSome = true ∧ a + 4 * i ≠ Reg.mbxData + 28) →
      ∃ (t : State) (vs : List Nat), exec (.regReadBlock rq xs) s = .next t ∧
        Replied s t 0x12 rq au 0 (u32 (((List.range n).map (fun i => (xs.getD i Cross.plain).stall)).sum) ++ u16 n ++ u16 0 ++ vs.flatMap u32) ∧
        vs.length = n ∧ (∀ i < n, ∃ y, Served [Reg.sysXstall] s y ∧ vs[i]? = some (y.readReg rq.t (a + 4 * i))) ∧ Served [Reg.sysXstall] s t) ∧
    (∀ xs, (n = 0 ∨ 256 < n) → Refuses (.regReadBlock rq xs) 0x12 rq s 0x09)

/-- REG_WRITE and a software write change the fields of their register as Table 3.2 says and note a discarded write; SAF registers are refused and an
address that is no register is a bus error (R65 to R67, R69, R75). The registers whose write has an effect of its own have their own statements. -/
def Obligations.RegisterWrites : Prop :=
  ∀ (s : State) (rq : Rq) (w : Ident) (h : HostRec) (au : Bool) (x : Cross),
    let a := getU32 rq.payload 0
    let v := getU32 rq.payload 4
    (∀ g, Admitted s 0x11 rq w h au → x.lost = none → regFind a = some g → blockOf a ∉ [3, 6, 7, 17, 19, 20] → s.blockDown (blockOf a) = false → a ∉ eventRegs →
      a ∉ [Reg.sysStatus, Reg.sysXstall, Reg.sysWlostCount] →
      ∃ t disc, exec (.regWrite rq x) s = .next t ∧ Replied s t 0x11 rq au 0 (u16 (satN 16 x.stall) ++ u8 (b2n disc) ++ u8 0) ∧
        (disc = true ↔ ∃ f ∈ g.flds, f.cls = .rwh ∧ bits x.hwMask f.lo f.w ≠ 0) ∧ (∀ f ∈ g.flds, bits (t.reg a) f.lo f.w = fieldAfter f (s.reg a) v x) ∧
        (disc = true → bits (t.reg Reg.sysStatus) 0 1 = 1 ∧ t.reg Reg.sysWlostCount = (s.reg Reg.sysWlostCount + 1) % 2 ^ 32) ∧
        Served [a, Reg.sysXstall, Reg.sysStatus, Reg.sysWlostAddr, Reg.sysWlostCount] s t) ∧
    (blockOf a = 17 → Refuses (.regWrite rq x) 0x11 rq s 0x0A) ∧
    (Admitted s 0x11 rq w h au → blockOf a ≠ 17 → regFind a = none →
      ∃ t, exec (.regWrite rq x) s = .next t ∧ Replied s t 0x11 rq au 0x0B [] ∧ Served [Reg.sysStatus, Reg.sysBuserrAddr, Reg.sysBuserrCount] s t ∧
        t.reg Reg.sysBuserrAddr = a) ∧
    (blockOf a ≠ 17 → (regFind a).isSome = true → s.blockDown (blockOf a) = true → Refuses (.regWrite rq x) 0x11 rq s 0x09) ∧
    (∀ t b u g, x.lost = none → regFind b = some g → s.blockDown (blockOf b) = false → blockOf b ∉ [3, 6, 7, 19, 20] →
      b ∉ [Reg.sysStatus, Reg.sysXstall, Reg.sysWlostCount] →
      ∃ y, exec (.registerWrite t b u x) s = .next y ∧ (b ≠ cnt450 7 → ∀ f ∈ g.flds, bits (y.reg b) f.lo f.w = fieldAfter f (s.reg b) u x) ∧
        Calm [b, Reg.sysXstall, Reg.sysStatus, Reg.sysWlostAddr, Reg.sysWlostCount] s y)

/-- A crossing abandoned after 100 µs answers TIMEOUT, sets XTO and raises event 7 (R72): of a read nothing else happens, of a write its whole effect or none, of
a block read the words before it are read, of a mailbox read no snapshot arrives. -/
def Obligations.CrossingTimeout : Prop :=
  ∀ (s : State) (rq : Rq) (w : Ident) (h : HostRec) (au : Bool),
    let a := getU32 rq.payload 0
    let n := getU16 rq.payload 4
    let id := getU16 rq.payload 0
    let lost := fun (t : State) => bits (t.reg Reg.sysStatus) 1 1 = 1 ∧ Latched t 7
    (∀ xs took, Admitted s 0x10 rq w h au → (regFind a).isSome = true → s.blockDown (blockOf a) = false →
      ∃ t, exec (.regCrossTimeout rq 0x10 xs took) s = .next t ∧ Replied s t 0x10 rq au 0x0C [] ∧ Served [Reg.sysStatus] s t ∧ lost t) ∧
    (∀ xs, Admitted s 0x11 rq w h au → blockOf a ≠ 17 → (regFind a).isSome = true → s.blockDown (blockOf a) = false →
      ∃ t, exec (.regCrossTimeout rq 0x11 xs false) s = .next t ∧ Replied s t 0x11 rq au 0x0C [] ∧ Served [Reg.sysStatus] s t ∧ lost t) ∧
    (∀ xs g, Admitted s 0x11 rq w h au → regFind a = some g → blockOf a ∉ [3, 6, 7, 17, 19, 20] → s.blockDown (blockOf a) = false → a ∉ eventRegs →
      a ≠ Reg.sysStatus →
      ∃ t, exec (.regCrossTimeout rq 0x11 xs true) s = .next t ∧ Replied s t 0x11 rq au 0x0C [] ∧ Served [a, Reg.sysStatus] s t ∧ lost t ∧
        ∀ f ∈ g.flds, bits (t.reg a) f.lo f.w = fieldAfter f (s.reg a) (getU32 rq.payload 4) Cross.plain) ∧
    (∀ xs took, Admitted s 0x12 rq w h au → xs.length < n → n ≤ 256 → s.blockDown (blockOf a) = false → (∀ x ∈ xs, x.lost = none) →
      (∀ i ≤ xs.length, (regFind (a + 4 * i)).isSome = true ∧ a + 4 * i ≠ Reg.mbxData + 28) →
      ∃ t, exec (.regCrossTimeout rq 0x12 xs took) s = .next t ∧ Replied s t 0x12 rq au 0x0C [] ∧ Served [Reg.sysXstall, Reg.sysStatus] s t ∧ lost t) ∧
    (∀ xs took, Admitted s 0x13 rq w h au → id ∈ mbxIds → s.blockDown (id / 256) = false →
      ∃ t, exec (.regCrossTimeout rq 0x13 xs took) s = .next t ∧ Replied s t 0x13 rq au 0x0C [] ∧ t.reg Reg.mbxSel = id ∧ t.mbx.pend = none ∧ t.mbx.valid = false ∧
        Served [Reg.mbxSel, Reg.mbxStat, Reg.sysStatus] { s with mbx := t.mbx } t ∧ lost t)

/-- The mailbox: a write of MBX_SEL starts a snapshot or sets BADID, the snapshot makes the value of its instant the one that is read from its completion on, a
read of MBX_DATA7 ends its validity unless a snapshot completes in that very clock, and MBX_READ does all of it at once (R76 to R80). -/
def Obligations.Mailbox : Prop :=
  ∀ (s : State) (t v : Nat) (x : Cross), x.lost = none →
    (v % 65536 ∈ mbxIds → s.blockDown 3 = false → ∃ y, exec (.mbxSelWrite t v x) s = .next y ∧ y.reg Reg.mbxSel = v % 65536 ∧
      Calm [Reg.sysXstall, Reg.mbxSel, Reg.mbxStat] { s with mbx := { s.mbx.at_ t with pend := some (v % 65536), back := none, valid := false } } y ∧
      ((s.mbx.at_ t).valid = true → bits (y.reg Reg.mbxStat) 3 1 = 1)) ∧
    (v % 65536 ∉ mbxIds → s.blockDown 3 = false → ∃ y, exec (.mbxSelWrite t v x) s = .next y ∧ bits (y.reg Reg.mbxStat) 2 1 = 1 ∧
      Calm [Reg.sysXstall, Reg.mbxSel, Reg.mbxStat] { s with mbx := s.mbx.at_ t } y) ∧
    (∀ done id ws, (s.mbx.at_ t).pend = some id → (s.mbx.at_ t).back = none → State.mbxWords { s with out := [] } t id = some ws →
      ∃ y, exec (.mbxSnapshotComplete t done) s = .next y ∧ Calm [] { s with mbx := y.mbx } y ∧ (t < done → y.mbx.pend = some id ∧ y.mbx.valid = (s.mbx.at_ t).valid) ∧
        (y.mbx.at_ done).pend = none ∧ (y.mbx.at_ done).valid = true ∧ (y.mbx.at_ done).cur = id ∧ (y.mbx.at_ done).data = ws) ∧
    (s.blockDown 3 = false → ∃ y, exec (.mbxData7Read t x) s = .next y ∧
      Calm [Reg.sysXstall] { s with mbx := if s.mbx.backAt t then s.mbx.at_ t else { s.mbx.at_ t with valid := false } } y) ∧
    (∀ (rq : Rq) (w : Ident) (h : HostRec) (au : Bool), Admitted s 0x13 rq w h au → getU16 rq.payload 0 ∈ mbxIds →
      s.blockDown (getU16 rq.payload 0 / 256) = false →
      ∃ y z ws, exec (.mbxRead rq x) s = .next y ∧ Served [Reg.mbxSel, Reg.mbxStat] { s with mbx := z.mbx } z ∧
        ws = (z.mbxWords rq.t (getU16 rq.payload 0)).getD (s.mbx.at_ rq.t).data ∧
        Replied s y 0x13 rq au 0 (u16 (getU16 rq.payload 0) ++ u16 0 ++ u16 (satN 16 x.stall) ++ u16 0 ++ ws.flatMap u32) ∧
        y.mbx.cur = getU16 rq.payload 0 ∧ y.mbx.data = ws ∧ y.mbx.valid = false ∧ y.mbx.pend = none ∧
        Served [Reg.mbxSel, Reg.mbxStat, Reg.sysXstall] { s with mbx := y.mbx } y) ∧
    (∀ (rq : Rq), getU16 rq.payload 0 ∉ mbxIds → Refuses (.mbxRead rq x) 0x13 rq s 0x09)

/-- The CRC units: INIT loads the polynomial's initial value, data and DMA feed the shift register, a second write while DMA runs is discarded with COLL, and
a saved value is restored into a unit at rest (R317). Each access is of a block that is up and is not abandoned (R72, R73). -/
def Obligations.CrcUnits : Prop :=
  ∀ (s : State) (t u v : Nat) (c : CrcUnit) (x : Cross),
    let ctrl := crcAt Reg.crcCtrl u
    let value := crcAt Reg.crcValue u
    u < 4 → s.crc[u]? = some c → x.lost = none → s.blockDown 20 = false →
    (∃ y, exec (.crcInit t u x) s = .next y ∧ Calm [Reg.sysXstall, ctrl, value] s y ∧ y.reg value = crcInit (bits (s.reg ctrl) 0 3) % 2 ^ 32 ∧
      bits (y.reg ctrl) 3 1 = 0) ∧
    (∃ y, exec (.crcStart t u x) s = .next y ∧ Calm [Reg.sysXstall, ctrl] { s with crc := s.crc.set u { c with busy := true } } y ∧ bits (y.reg ctrl) 4 1 = 1) ∧
    (c.busy = false → bits (s.reg ctrl) 5 2 ≤ 2 → ∃ y, exec (.crcDataWrite t u v x) s = .next y ∧ Calm [Reg.sysXstall, value] s y ∧
      y.reg value = crcFeed (bits (s.reg ctrl) 0 3) (s.reg value) (leBytes (2 ^ bits (s.reg ctrl) 5 2) v) % 2 ^ 32) ∧
    (c.busy = true → ∃ y, exec (.crcDataWrite t u v x) s = .next y ∧ Calm [Reg.sysXstall, crcAt Reg.crcStat u] s y ∧ bits (y.reg (crcAt Reg.crcStat u)) 1 1 = 1 ∧
      y.reg value = s.reg value) ∧
    (c.busy = true → c.again = false → ∃ y, exec (.crcDmaComplete t u) s = .next y ∧
      Calm [ctrl, value, crcAt Reg.crcStat u] { s with crc := s.crc.set u { c with busy := false } } y ∧
      y.reg value = crcFeed (bits (s.reg ctrl) 0 3) (s.reg value) (s.crcSource u).1 % 2 ^ 32 ∧ bits (y.reg ctrl) 4 1 = 0) ∧
    (c.busy = false → ∃ y, exec (.crcValueWrite t u v x) s = .next y ∧ Calm [Reg.sysXstall, value] s y ∧ y.reg value = v % 2 ^ 32)

/-! Configuration transactions (R54 to R60). -/

/-- CFG_OPEN, CFG_WRITE, CFG_READ and CFG_ABORT: a transaction opens on the active hash, bytes are staged in it, read through it, and discarded with it.
CFG_COMMIT of a transaction that passes its checks waits for the tick (R56), is closed to other requests but CFG_READ until then, and closes at the tick
(R58); transactions without a request for 600 s are discarded with event 10 (R59). -/
def Obligations.Transactions : Prop :=
  (∀ (s : State) (rq : Rq),
    let k := getU16 rq.payload 0
    let item := getU16 rq.payload 2
    let off := getU32 rq.payload 4
    (∀ i, s.cfg.txns.length < 4 → 1 ≤ i → i ≤ 4 → (∀ x ∈ s.cfg.txns, x.handle ≠ i) → (∀ j, 1 ≤ j → j < i → ∃ x ∈ s.cfg.txns, x.handle = j) →
      Replies (.cfgOpen rq) 0x20 rq s 0 (u16 i ++ u16 0 ++ u32 s.cfg.hash)
        (fun _ => { s with cfg := { s.cfg with txns := s.cfg.txns ++ [⟨i, s.cfg.hash, [], rq.t, false⟩] } }) []) ∧
    (4 ≤ s.cfg.txns.length → Refuses (.cfgOpen rq) 0x20 rq s 0x0D) ∧
    (∀ x size, s.txn? k = some x → x.committed = false → itemSize item = some size → itemClosed item = false → off + (rq.payload.drop 12).length ≤ size →
      (stageBytes x.staged (cfgKey item off) (rq.payload.drop 12)).length ≤ 262144 →
      Replies (.cfgWrite rq) 0x21 rq s 0 []
        (fun _ => { s with cfg := { s.cfg with txns := s.cfg.txns.map (fun y => if y.handle = k then
          { y with staged := stageBytes x.staged (cfgKey item off) (rq.payload.drop 12), lastUse := rq.t } else y) } }) []) ∧
    (∀ x size, s.txn? k = some x → k ≠ 0xFFFF → itemSize item = some size → off + getU16 rq.payload 8 ≤ size → item ≠ 0x0021 →
      Replies (.cfgRead rq) 0x22 rq s 0 ((List.range (getU16 rq.payload 8)).map (fun i => stagedByte s.cfg.active x.staged item (off + i)))
        (fun _ => { s with cfg := { s.cfg with txns := s.cfg.txns.map (fun y => if y.handle = k then { y with lastUse := rq.t } else y) } }) []) ∧
    (∀ size, k = 0xFFFF → itemSize item = some size → off + getU16 rq.payload 8 ≤ size → item ≠ 0x0021 → s.txn? k = none →
      Replies (.cfgRead rq) 0x22 rq s 0 ((List.range (getU16 rq.payload 8)).map (fun i => stagedByte s.cfg.active [] item (off + i))) (fun _ => s) []) ∧
    (∀ size, k = 0xFFFF → itemSize item = some size → off + getU16 rq.payload 8 ≤ size → item = 0x0021 → s.txn? k = none →
      Replies (.cfgRead rq) 0x22 rq s 0 (zeros (getU16 rq.payload 8)) (fun _ => s) []) ∧
    (∀ x, s.txn? k = some x → x.committed = false →
      Replies (.cfgAbort rq) 0x24 rq s 0 [] (fun _ => { s with cfg := { s.cfg with txns := s.cfg.txns.filter (fun y => y.handle != k) } }) []) ∧
    (∀ x, s.txn? k = some x → x.committed = true → Refuses (.cfgAbort rq) 0x24 rq s 0x09 ∧
      ∀ c op, (c, op) ∈ [(Instr.cfgWrite rq, 0x21), (.cfgCommit rq, 0x23)] → Replies c op rq s 0x09 []
        (fun _ => State.cnt { s with cfg := { s.cfg with txns := s.cfg.txns.map (fun y => if y.handle = k then { y with lastUse := rq.t } else y) } }
          (fun n => { n with refused := satInc n.refused })) [])) ∧
  (∀ (s : State) (b : Bnd), b.op = 0x23 → ∀ y ∈ (s.applyTick b).cfg.txns, y.handle ≠ getU16 b.payload 0) ∧
  ∀ (s : State) (rq : Rq) (t : Nat) (x : Txn),
    let k := getU16 rq.payload 0
    (s.txn? k = some x → x.committed = false → s.commitCheck x.base x.staged = none →
      Accepts (.cfgCommit rq) 0x23 rq s (fun o =>
        State.queueBnd { s with cfg := { s.cfg with txns := s.cfg.txns.map (fun y => if y.handle = k then { y with lastUse := rq.t, committed := true } else y) } }
          o rq x.base x.staged) []) ∧
    (x ∈ s.cfg.txns → x.committed = false → x.lastUse + 600000000000 ≤ t →
      ∃ y, exec (.cfgTxnExpired t) s = .next y ∧ Latched y 10 ∧
        Calm [] { s with cfg := { s.cfg with txns := s.cfg.txns.filter (fun z => z.committed || decide (t < z.lastUse + 600000000000)) } } y)

/-! The station-keeping cycle (chapters 01, 06 to 08). -/

/-- CYCLE_TICK of a module outside a group, where VESSEL stands at a multiple of P and a period has passed: the next cycle opens with its number and tick, no
host action being due (R9 to R11, R41), at a millisecond tick. A tick that is not due changes nothing. -/
def Obligations.CycleOpens : Prop :=
  ∀ (s : State) (t : Nat),
    (s.clk.phase = .running → s.cyc.halt = false → s.red.size = 0 → s.cyc.ms = t ∨ s.msDue t = true → roundMs (s.vessel t) % cyclePms s.cfg.active s.pers = 0 →
      (s.clk.firstTick = true → s.cyc.tick + s.cyc.pms * 999000 ≤ t) → (∀ b ∈ s.cyc.bnds, t < b.at_ + 1000000) →
      ∃ x, exec (.cycleTick t) s = .next x ∧ x.cyc.number = s.cyc.number + 1 ∧ x.cyc.tick = t ∧ x.cyc.pms = cyclePms s.cfg.active s.pers ∧
        x.clk.firstTick = true ∧ x.cyc.ph = { began := true } ∧ x.cyc.released = false ∧ x.cyc.before = s.cyc.released ∧ x.cyc.bnds = s.cyc.bnds ∧
        x.cyc.answers = [] ∧ x.cyc.last = s.cyc.last ∧ x.cyc.buf = s.cyc.buf ∧ x.cfg = s.cfg ∧ x.ctl = s.ctl ∧ x.srv = s.srv ∧ x.lgc = s.lgc ∧ x.saf = s.saf ∧
        x.fld = s.fld ∧ x.chan.opens = s.chan.opens ∧ x.chan.results = s.chan.results ∧ x.stored = s.stored) ∧
    (s.tickDue t = false → ∃ x, exec (.cycleTick t) s = .next x ∧ Calm [] s x)

/-- FUSION_PHASE_DONE publishes the solution of the cycle and accounts the phase, an overrun past 0.20 P raises event 35 (R107, R109); CONTROL_LAW, without a
host action of its own, runs the wind feed-forward and the law of the personality and publishes the DP result of the cycle, whose control quantities stay in the
cycles of the PK-20 personality that run no law (R169 to R171). -/
def Obligations.FusionAndLaw : Prop :=
  ∀ (s : State) (t : Nat), Cycling s →
    (s.cyc.ph.began = true → s.cyc.ph.fu = false →
      ∃ x, exec (.fusionPhaseDone t) s = .next x ∧ x.cyc.ph = { s.cyc.ph with fu := true } ∧
        x.chan.results = { s.chan.results with fus := pushResult s.cyc.number (match s.fus.sol with | some v => solutionBytes v | none => []) s.chan.results.fus } ∧
        x.cyc.num = (colFill t 4 (match s.fus.sol with | some v => solutionBytes v | none => []) s.cyc.num).1 ∧
        bits (x.reg Reg.fusPhase) 0 16 = satN 16 s.fuMicros ∧ (s.phaseAt 20 < t → Latched x 35 ∧ bits (x.reg Reg.fusStatus) 0 1 = 1) ∧
        Calm [Reg.fusPhase, Reg.fusStatus] { s with cyc := { s.cyc with ph := { s.cyc.ph with fu := true }, num := x.cyc.num },
                                                     chan := { s.chan with results := x.chan.results } } x) ∧
    (s.cyc.ph.fu = true → s.cyc.ph.law = false → s.phaseAt 20 ≤ t → s.cyc.law = [] →
      let c := (ctlBegin s.cfg.active s.lawReads s.ctl).1
      ∃ x, exec (.controlLaw t) s = .next x ∧
        x.ctl = (if s.solves = false then s.ctl else if s.strict then (pkLaw s.cfg.active s.lawReads c).1 else (ctlRun s.cfg.active s.lawReads c).1) ∧
        x.chan.results = { s.chan.results with dp := pushResult s.cyc.number (dpStateBytes s.cyc.number (x.readReg t Reg.ctlStatus) x.ctl) s.chan.results.dp } ∧
        bits (x.reg Reg.ctlPhase) 0 16 = lawMicros s.cyc.number ∧ x.cyc = { s.cyc with ph := { s.cyc.ph with law := true } } ∧
        x.fus = { s.fus with winds := x.fus.winds } ∧ x.alc = s.alc ∧ x.cfg = s.cfg ∧ x.srv = s.srv ∧ x.lgc = s.lgc ∧ x.chan.opens = s.chan.opens)

/-- The timed steps of the law: the joystick's ramp begins after its timeout (R152), a Traverse whose profiles are complete ends in STATION on its final target
(R162), the wind force held while its source is lost fades from 10 s to 20 s (R158), an oscillation ends where its axis has not crossed down for PMAX (R167). Their
times are agreed times (R20). -/
def Obligations.LawTimers : Prop :=
  ∀ (s : State) (t : Nat), Cycling s →
    (∀ m, s.ctl.manualSince = some m → s.ctl.ramp = none → ctlJoyTimeoutMs s.cfg.active * 1000000 ≤ s.agreedTick - Nat.max (s.ctl.joyAt.getD m) m →
      ∃ x, exec (.ctlJoyTimeout t) s = .next x ∧ Calm [Reg.ctlStatus] { s with ctl := { s.ctl with ramp := some s.agreedTick } } x ∧ Latched x 52 ∧
        bits (x.reg Reg.ctlStatus) 4 1 = 1) ∧
    (s.ctl.mode = 4 → s.ctl.trav ≠ [] → (∀ p ∈ s.ctl.trav, travT p ≤ p.el) →
      ∃ x, exec (.ctlTraverseDone t) s = .next x ∧ x.ctl.mode = 3 ∧ x.ctl.trav = [] ∧ (x.ctl.n, x.ctl.e, x.ctl.psi) = ctlFinal s.ctl ∧ Latched x 48 ∧ Latched x 53 ∧
        Calm [] { s with ctl := x.ctl } x ∧ x.ctl.tauCmd = s.ctl.tauCmd ∧ x.ctl.integ = s.ctl.integ ∧ x.ctl.gainSet = s.ctl.gainSet) ∧
    (∀ t0, s.ctl.windLost = true → s.ctl.windAt = some t0 →
      ∃ x, exec (.windHoldExpiry t) s = .next x ∧ Calm [] { s with ctl := { s.ctl with fw := x.ctl.fw, tauFf := windFf s.cfg.active x.ctl.fw } } x ∧
        (s.agreedTick - t0 ≤ 10000000000 → x.ctl.fw = s.ctl.fwHold) ∧ (20000000000 ≤ s.agreedTick - t0 → x.ctl.fw = {}) ∧
        (10000000000 < s.agreedTick - t0 → s.agreedTick - t0 < 20000000000 →
          ∀ d < 3, x.ctl.fw.get d = divNearAway (s.ctl.fwHold.get d * ((20000000000 - (s.agreedTick - t0) : Nat) : Int)) 10000000000)) ∧
    (∀ d o t0, s.strict = false → s.ctl.osc[d]? = some o → o.active = true → o.lastDown = some t0 →
      cfgU32 s.cfg.active 0x0905 20 * 1000000000 < (s.agreedTick - t0) * 65536 →
      ∃ x, exec (.oscillationTimeout t) s = .next x ∧ x.ctl.osc[d]? = some { o with active := false } ∧ ¬ Present x 51 d ∧ Latched x 51 ∧
        Calm [] { s with ctl := { s.ctl with osc := x.ctl.osc } } x)

/-- The law keeps the command of every automatic axis within CMD_LIMIT and an integrator it updates within INT_LIMIT (R154), commands nothing in STANDBY, and
a Traverse whose profiles are complete stands on its final target (R161, R163). -/
def Obligations.ControlBounds : Prop :=
  ∀ (cfg : Mem) (i : LawIn) (c : Ctl) (d : Nat), d < 3 →
    (axisKind c.mode d = .auto → -(cmdBound cfg d) ≤ (lawStep cfg i c).1.tauCmd.get d ∧ (lawStep cfg i c).1.tauCmd.get d ≤ cmdBound cfg d) ∧
    (axisKind c.mode d = .auto → ctlFrozen i d = false → bits c.newAuto d 1 = 0 →
      -(intBound cfg d) ≤ (lawStep cfg i c).1.integ.get d ∧ (lawStep cfg i c).1.integ.get d ≤ intBound cfg d) ∧
    (c.mode = 0 → (lawStep cfg i c).1.tauCmd.get d = 0 ∧ (lawStep cfg i c).1.integ.get d = 0) ∧
    ((∀ p ∈ c.trav, travT p ≤ p.el) → ctlTarget c = ctlFinal c)

/-- SL0_START sets the problem of the cycle up, none in STANDBY (R12); SL0's end, by itself or at the deadline of its iterations, publishes the result and a
native set is released at once where no logic cycle is waited for (R13 to R15, R193, R200); by itself SL0 ends up to its wall-clock deadline (R14). -/
def Obligations.AllocationLane : Prop :=
  ∀ (s : State) (t : Nat), Cycling s →
    (s.cyc.ph.law = true → s.cyc.ph.alloc = false → s.cyc.ph.deadline = false → s.phaseAt 30 ≤ t →
      ∃ x, exec (.sl0Start t) s = .next x ∧ x.cyc = { s.cyc with ph := { s.cyc.ph with alloc := true } } ∧
        (s.ctl.mode = 0 → x.alc.prob = none) ∧ (s.ctl.mode ≠ 0 → s.solves = true → ∃ p, x.alc.prob = some p ∧ p.tau = s.ctl.tauCmd) ∧
        Calm [] { s with alc := x.alc, cyc := x.cyc } x) ∧
    (∀ (c : Instr) (guard : Option Nat), (c = .sl0Complete t ∧ guard = none ∨ ∃ n, c = .sl0Deadline t n ∧ guard = some n) →
      s.cyc.ph.alloc = true → s.cyc.ph.solved = false → s.cyc.ph.deadline = false → s.sl0Ends t guard = true → s.pers = .native → s.grouped = false →
      ∃ x, exec c s = .next x ∧ x.cyc.ph = { s.cyc.ph with solved := true } ∧ x.alc.res.num = s.cyc.number ∧
        (s.alc.prob = none → s.ctl.mode = 0 → x.alc.res.reason = 5) ∧
        (∀ p n, s.alc.prob = some p → guard = some n → n < p.budget → x.alc.res.iters ≤ n) ∧
        x.chan.results = { s.chan.results with alc := pushResult s.cyc.number (alcResBytes x.alc.res) s.chan.results.alc } ∧
        (t ≤ s.outDeadline → lgcReady s.lgc s.logicDeadline = true →
          x.cyc.released = true ∧ x.cyc.relAt = t ∧ x.cyc.buf.epoch = s.cyc.number ∧ x.cyc.buf.thrust = x.alc.res.thr.map (·.thrust) ∧
            x.cyc.buf.az = x.alc.res.thr.map (·.az)) ∧
        (s.outDeadline < t → x.cyc.released = s.cyc.released ∧ x.cyc.buf = s.cyc.buf) ∧ x.ctl = s.ctl ∧ x.fus = s.fus ∧ x.cfg = s.cfg ∧ x.srv = s.srv)

/-- The solver stops within its iteration budget and within the iterations the wall clock left it, and its result is no worse than its start point (R193 to
R195). -/
def Obligations.SolverAnytime : Prop :=
  ∀ (q : Qp) (u0 : List Int) (rebuild : List Nat) (budget guard : Nat),
    (qpSolve q u0 rebuild budget guard).iters ≤ budget ∧ (qpSolve q u0 rebuild budget guard).iters ≤ guard ∧
    q.obj (qpSolve q u0 rebuild budget guard).best ≤ q.obj u0 ∧ (qpSolve q u0 rebuild budget guard).reason.isSome = true

/-- SCENARIO_COMPLETE does the groups of its lane and no other (R218), an alarm starts and ends by its timers (R221), a bus section returns RETURN_TIME after
its last signal (R212), at a member that follows the Active from the record alone (R213). -/
def Obligations.Consequences : Prop :=
  ∀ (s : State) (t g : Nat), Cycling s →
    (∀ p lane, s.cyc.ph.alloc = true → s.cyc.ph.deadline = false → s.alc.prob = some p → s.laneOpen lane = [g] → g < s.alc.groups.length →
      ∃ x, exec (.scenarioComplete t lane) s = .next x ∧
        x.alc.groups = s.alc.groups.set g (cqJudge s.cfg.active g s.lawPms s.cyc.before
          (cqSolve s.cfg.active (ctlRated s.cfg.active) g p (laneLimit s.cfg.active p lane) (laneLimit s.cfg.active p lane + 1) (s.alc.groups.getD g {})).1).1 ∧
        (∃ y, x.alc.groups[g]? = some y ∧ y.done = true) ∧ x.alc = { s.alc with groups := x.alc.groups } ∧ x.cyc.ph = { s.cyc.ph with compared := x.cyc.ph.compared } ∧ x.cyc.buf = s.cyc.buf ∧
        x.ctl = s.ctl ∧ x.cfg = s.cfg ∧ x.fus = s.fus ∧ x.srv = s.srv) ∧
    (∀ y, s.alc.groups[g]? = some y → y.done = true → 2 ≤ y.state → y.alarm = false → grpPersistMs s.cfg.active g < y.pers →
      ∃ x, exec (.alcConsequence t) s = .next x ∧ x.alc.groups[g]? = some { y with alarm := true } ∧ Present x 60 g ∧ Latched x 60 ∧
        Calm [Reg.alcCntCqalarm] { s with alc := { s.alc with groups := x.alc.groups } } x) ∧
    (∀ y, s.alc.groups[g]? = some y → y.done = true → 2 ≤ y.state → y.alarm = true → 16384 ≤ y.margin → cqClearMs s.cfg.active ≤ y.clear →
      ∃ x, exec (.consequenceClear t) s = .next x ∧ x.alc.groups[g]? = some { y with alarm := false } ∧ ¬ Present x 60 g ∧ Latched x 60 ∧
        Calm [] { s with alc := { s.alc with groups := x.alc.groups } } x) ∧
    (s.follows = true → ∃ x, exec (.busSectionReturn t) s = .next x ∧ Calm [] s x) ∧
    (∀ y, s.follows = false → s.cyc.tick = t → s.alc.secs[g]? = some y → y.inService = false → y.lostDi = false → y.lostChain = false →
      secReturnTime s.cfg.active + 1 ≤ y.clear + s.msAhead t →
      ∃ x, exec (.busSectionReturn t) s = .next x ∧ x.alc.secs[g]? = some { y with inService := true } ∧ ¬ Present x 61 g ∧ Latched x 61 ∧
        Calm [] { s with alc := { s.alc with secs := x.alc.secs } } x)

/-- OUTPUT_DEADLINE of a native cycle outside a group: a set that waits for the logic is released, a cycle without one keeps the buffer, counts the miss and
raises event 50 (R16, R168, R380); τ_sat follows the buffer (R200). -/
def Obligations.OutputDeadline : Prop :=
  ∀ (s : State) (t : Nat) (prog : List LaneProg), Cycling s → s.pers = .native → s.grouped = false → s.cyc.ph.began = true → s.cyc.ph.deadline = false →
    s.outDeadline ≤ t →
    ∃ x, exec (.outputDeadline t prog) s = .next x ∧ x.cyc.ph = { s.cyc.ph with deadline := true } ∧
      (∀ o, s.cyc.pendingSet = some o → x.cyc.released = true ∧ x.cyc.relAt = t ∧ x.cyc.pendingSet = none ∧ x.cyc.buf = { o with logic := x.lgc.relOut } ∧
        x.ctl = { s.ctl with missRun := 0 }) ∧
      (s.cyc.pendingSet = none → x.cyc.buf = s.cyc.buf ∧ x.cyc.released = s.cyc.released ∧ x.lgc = s.lgc) ∧
      (s.cyc.pendingSet = none → s.cyc.released = false → Latched x 50 ∧ x.ctl = { s.ctl with missRun := s.ctl.missRun + 1 }) ∧
      (s.cyc.pendingSet = none → s.cyc.released = true → x.ctl = { s.ctl with missRun := 0 }) ∧
      x.alc.tauSat = alcTauSat s.cfg.active (ctlRated s.cfg.active) x.cyc.buf.tau x.cyc.buf.forces s.withheld ∧
      (∃ r ∈ x.chan.results.cq, r.1 = s.cyc.number) ∧ x.cfg = s.cfg ∧ x.srv = s.srv ∧ x.chan.opens = s.chan.opens ∧ x.cyc.last = s.cyc.last

/-- EPOCH_SEAL outside a group seals the state of the cycle and sends the replies of its host actions (R23, R41); SEAL_FAULT leaves the cycle unsealed, keeps
the epoch before it and makes the module restart (R24); MIRROR_COMPLETE of the Active of a group sends the replies (R41); a drain pass drains every collector
with a full slot (R27). -/
def Obligations.Seals : Prop :=
  ∀ (s : State) (t : Nat), Cycling s →
    (s.cyc.ph.deadline = true → s.cyc.ph.sealed = false → s.cyc.unsealed = false → s.phaseAt 85 ≤ t → t ≤ s.phaseAt 85 + 500000 →
      s.red.size = 0 → s.clk.enterDue = false →
      ∃ x, exec (.epochSeal t) s = .next x ∧ x.cyc.ph = { s.cyc.ph with sealed := true } ∧ x.cyc.last = some (s.sealOf t s.sealHosts) ∧ x.cyc.toSend = [] ∧
        (∀ a o, s.cyc.answers = [a] → s.cyc.toSend = [] → a.act.pk = none → s.opn? a.act.id = some o → o.op ≠ 0x08 → s.chan.ready = true →
          (∀ p ∈ s.actionParts a, ∀ d ∈ o.srcs, Out.udp (s.ownIp d.portB) 22480 d ipHdr p ∈ x.out) ∧ x.chan.opens = s.chan.opens.filter (fun y => y.id != o.id)) ∧
        x.ctl = s.ctl ∧ x.fus = s.fus ∧ x.alc = s.alc ∧ x.cfg = s.cfg ∧ x.srv = s.srv ∧ x.lgc = s.lgc ∧ x.saf = s.saf ∧ x.fld = s.fld ∧ x.cyc.buf = s.cyc.buf) ∧
    (s.cyc.ph.began = true → s.cyc.ph.sealed = false → s.cyc.unsealed = false → s.phaseAt 85 + 500000 ≤ t → s.red.size = 0 →
      ∃ x, exec (.sealFault t) s = .next x ∧ Latched x 12 ∧ x.clk.resetDue = some { warm := true, due := t, cause := 2 } ∧ x.cyc.last = s.cyc.last ∧
        Calm [] { s with cyc := { s.cyc with unsealed := true }, clk := { s.clk with resetDue := x.clk.resetDue },
                         red := { s.red with flags := setBits s.red.flags 3 1 1 } } x) ∧
    (s.red.size ≠ 0 → s.red.role = .active → s.cyc.ph.sealed = true → s.cyc.ph.mirrored = false →
      ∃ x, exec (.mirrorComplete t) s = .next x ∧ x.cyc.ph = { s.cyc.ph with mirrored := true } ∧ x.cyc.toSend = [] ∧ x.cyc.last = s.cyc.last ∧
        (∀ r o, s.cyc.toSend = [r] → s.opn? r.id = some o → o.op ≠ 0x08 → s.chan.ready = true →
          (∀ p ∈ r.parts, ∀ d ∈ o.srcs, Out.udp (s.ownIp d.portB) 22480 d ipHdr p ∈ x.out) ∧ x.chan.opens = s.chan.opens.filter (fun y => y.id != o.id)) ∧
        x.ctl = s.ctl ∧ x.fus = s.fus ∧ x.alc = s.alc ∧ x.cfg = s.cfg ∧ x.srv = s.srv) ∧
    (∃ x, exec (.collectorDrainPass t) s = .next x ∧
      Calm [] { s with cyc := { s.cyc with srvCol := colDrain t s.cyc.srvCol, num := colDrain t s.cyc.num }, fld := { s.fld with col := colDrain t s.fld.col } } x)

/-! The servo loops (chapter 09). -/

/-- MILLISECOND_TICK of a running module: the buffer becomes the latched set unless it was released at this very instant (R18), the 48 loops pass (R239), the
line's currents are those measured, and a token driver toggles the line (R420). SRV_VALIDATION fails a loop whose check is at its limit (R237),
SRV_PHASE_OVERRUN keeps the loops, commands and tick of the pass before (R239). -/
def Obligations.ServoTick : Prop :=
  ∀ (s : State) (t : Nat),
    (∀ m, s.clk.phase = .running → s.msDue t = true → s.srvRuns = true →
      ∃ x, exec (.millisecondTick t m) s = .next x ∧ x.cyc.ms = t ∧ x.cyc.buf = s.cyc.buf ∧ (s.cyc.relAt ≠ t → x.cyc.latched = s.cyc.buf) ∧
        (s.cyc.relAt = t → t ≠ 0 → x.cyc.latched = s.cyc.latched) ∧ x.srv.tick = t ∧ x.srv.since = s.srv.since + 1 ∧ x.srv.before = s.srv.loops ∧
        x.srv.loops.length = 48 ∧ (∀ n < 48, srvMode s.cfg.active n = 0 → x.srv.loops[n]? = some {}) ∧ x.red.loop = m.loop ∧ x.red.demand = m.demand ∧
        (s.red.driver = true → x.red.high = !s.red.high ∧ x.red.lastToggle = t) ∧ x.alc = { s.alc with secs := x.alc.secs } ∧ x.ctl = s.ctl ∧ x.cfg = s.cfg ∧
        x.cyc.number = s.cyc.number ∧ x.cyc.ph = s.cyc.ph ∧ x.saf = s.saf) ∧
    (∀ n y, s.srvRuns = true → s.srv.loops[n]? = some y → srvMode s.cfg.active n ≠ 0 → y.state ≠ 3 → y.hold = false → srvFailed s.cfg.active n y ≠ 0 →
      ∃ x z, exec (.srvValidation t) s = .next x ∧ x.srv.loops[n]? = some z ∧ z.state = 3 ∧ z.causes = srvFailed s.cfg.active n y ∧ z.cmd = 0 ∧ Latched x 64 ∧
        Present x 64 n ∧ bits (x.reg Reg.srvStatus) 0 1 = 1 ∧ Calm [Reg.srvStatus, Reg.srvCntValfail] { s with srv := { s.srv with loops := x.srv.loops } } x) ∧
    (s.srvRuns = true → s.srv.since ≠ 0 → s.srv.tick + 500000 ≤ t →
      ∃ x, exec (.srvPhaseOverrun t) s = .next x ∧ Latched x 66 ∧ bits (x.reg Reg.srvStatus) 1 1 = 1 ∧
        Calm [Reg.srvStatus, Reg.srvCntPhovr] { s with srv := { s.srv with loops := s.srv.before, tick := s.srv.beforeAt, since := 0 }, cyc := { s.cyc with srvNext := s.cyc.srvOut } } x)

/-- One tick of a loop: a loop that does not run commands 0, and one with a stop condition does not run (R230); a command stays in 16 bits; without new feedback
the feedback, the integrators, y_m and the counts are held while a loop that runs goes on (R238); a failed loop stays failed but for an ENABLE of this tick (R237). -/
def Obligations.ServoCommands : Prop :=
  ∀ (cfg : Mem) (tick n : Nat) (stop : Bool) (thrust : Int) (az : Nat) (i : FbIn) (x : Loop),
    let y := (srvTick cfg tick n stop thrust az i x).1
    (y.state ≠ 2 → y.cmd = 0) ∧ (stop = true → y.state ≠ 2) ∧ (-32768 ≤ x.cmd → x.cmd ≤ 32767 → -32768 ≤ y.cmd ∧ y.cmd ≤ 32767) ∧
    (srvMode cfg n ≠ 0 → i.fb = none → stop = false → x.stopAt ≠ some tick → x.state = 2 →
      y.hold = true ∧ y.state = 2 ∧ y.sp = srvSet cfg n thrust az ∧ y.fb = x.fb ∧ y.ia = x.ia ∧ y.iw = x.iw ∧ y.ym = x.ym ∧ y.cRange = x.cRange ∧
        y.cRate = x.cRate ∧ y.cModel = x.cModel) ∧
    (srvMode cfg n ≠ 0 → x.state = 3 → x.back ≠ some tick → y.state = 3)

/-! Requests of fusion, control, allocation and servo (chapters 04 to 09). -/

/-- The numbered results (R46): FUS_GET_SOLUTION, DP_GET_STATE, ALC_GET_RESULT, ALC_GET_CONSEQUENCE and GNS_GET_FIX answer PENDING before the first result
and, in native mode, before the one asked for; the held result of the number, 0 the newest; REPEATED where it was read before; and refuse a number that is
not held. -/
def Obligations.NumberedReads : Prop :=
  ∀ (s : State) (rq : Rq) (c : Instr) (op : Nat) (kind : List (Nat × List Byte)),
    (c, op, kind) ∈ [(Instr.fusGetSolution rq, 0x40, s.chan.results.fus), (.dpGetState rq, 0x34, s.chan.results.dp), (.alcGetResult rq, 0x50, s.chan.results.alc),
      (.alcGetConsequence rq, 0x52, s.chan.results.cq), (.gnsGetFix rq, 0xB0, s.chan.results.fix)] →
    (kind = [] → Replies c op rq s 0x02 [] (fun _ => s) []) ∧
    ∀ newest first older, kind = (newest, first) :: older → s.pers = .native →
      let n := if getU64 rq.payload 0 = 0 then newest else getU64 rq.payload 0
      (newest < getU64 rq.payload 0 → Replies c op rq s 0x02 [] (fun _ => s) []) ∧
      (getU64 rq.payload 0 ≤ newest → ∀ data, kind.find? (fun r => r.1 == n) = some (n, data) → ∀ w h au, Admitted s op rq w h au →
        ∃ t h', exec c s = .next t ∧ Replied s t op rq au (if (op, n) ∈ h.lastResult then 0x03 else 0x00) data ∧ Served [] s t ∧ t.host? w = some h' ∧
          (op, n) ∈ h'.lastResult) ∧
      (getU64 rq.payload 0 ≤ newest → kind.find? (fun r => r.1 == n) = none → Refuses c op rq s 0x09)

/-- Requests of fusion: a stream's reply, and the host actions, which are checked at acceptance and wait for the tick (R41, R112, R135 to R139, R530). -/
def Obligations.FusionRequests : Prop :=
  ∀ (s : State) (rq : Rq),
    let n := getU16 rq.payload 0
    let a := getU8 rq.payload 2
    (n ≤ 255 → Replies (.fusGetStream rq) 0x41 rq s 0 (streamReply s.cfg.active s.fus rq.t n (s.reg (Reg.fusStrmSamples + 16 * n))
      (s.reg (Reg.fusStrmLate + 16 * n)) (s.reg (Reg.fusStrmDisc + 16 * n))) (fun _ => s) []) ∧
    (255 < n → Refuses (.fusGetStream rq) 0x41 rq s 0x09) ∧
    (∀ c, c ∈ [Instr.fusSetStreamStateDeselect rq, .fusSetStreamStateSelect rq, .fusSetStreamStateReadmit rq] →
      (n ≤ 255 → actApplies a (streamNow s.cfg.active s.fus n) = true → Waits c 0x42 rq s 0 []) ∧
      (255 < n ∨ actApplies a (streamNow s.cfg.active s.fus n) = false → Refuses c 0x42 rq s 0x09)) ∧
    (∀ c, c ∈ [Instr.fusCalControlStart rq, .fusCalControlFreeze rq, .fusCalControlResume rq, .fusCalControlAccept rq, .fusCalControlDiscard rq] →
      (calOk s.cfg.active s.fus n a = true → (a = 3 → ∃ x, s.txn? (getU16 rq.payload 4) = some x ∧ x.committed = false) → Waits c 0x43 rq s 0 []) ∧
      (calOk s.cfg.active s.fus n a = false → Refuses c 0x43 rq s 0x09) ∧
      (a = 3 → s.txn? (getU16 rq.payload 4) = none → Refuses c 0x43 rq s 0x09)) ∧
    (n ≤ 255 → strLink s.cfg.active n = 0x60 → strEnable s.cfg.active n = true → (strTimesrc s.cfg.active n = 1 → getU64 rq.payload 4 ≠ 0) →
      Waits (.fusInject rq) 0x44 rq s 0 []) ∧
    (255 < n ∨ strLink s.cfg.active n ≠ 0x60 ∨ strEnable s.cfg.active n = false → Refuses (.fusInject rq) 0x44 rq s 0x09)

/-- Requests of control, allocation and servo: DP commands of the command holder wait for the tick and those of another sender are refused (R146), a
thruster that is not configured is refused (R202), loop states are read (R243), a table load waits where its loop is closed and stopped (R235). -/
def Obligations.ControlRequests : Prop :=
  ∀ (s : State) (rq : Rq),
    let a := getU8 rq.payload 0
    let n := getU8 rq.payload 1
    (∀ c op, (c, op) ∈ [(Instr.dpSetMode rq, 0x30), (.dpSetTarget rq, 0x31), (.dpTraverse rq, 0x32), (.dpJoystick rq, 0x33)] → ∀ w h au, Admitted s op rq w h au →
      (s.ctl.holder.map Prod.snd = some w → ∃ t, exec c s = .next t ∧ Interim s t op rq w h au ∧ Served [] (s.queueBnd (requestOf s op rq w h au) rq 0 []) t) ∧
      (s.ctl.holder.map Prod.snd ≠ some w → ∃ t, exec c s = .next t ∧ Replied s t op rq au 0x09 [] ∧
        Served [] (s.cnt (fun k => { k with refused := satInc k.refused })) t)) ∧
    Waits (.dpTakeCommandTake rq) 0x35 rq s 0 [] ∧ Waits (.dpTakeCommandRelease rq) 0x35 rq s 0 [] ∧ Waits (.alcSetPowerLimits rq) 0x53 rq s 0 [] ∧
    (∀ c, c ∈ [Instr.alcSetThrusterStateDisable rq, .alcSetThrusterStateEnable rq] →
      (1 ≤ a → a ≤ 24 → thrConfigured s.cfg.active a = true → Waits c 0x51 rq s 0 []) ∧
      (a = 0 ∨ 24 < a ∨ thrConfigured s.cfg.active a = false → Refuses c 0x51 rq s 0x09)) ∧
    (1 ≤ n → a + n ≤ 48 → Replies (.srvGetState rq) 0x58 rq s 0
      (u64 s.srv.tick ++ (List.range n).flatMap (fun i => srvBytes (s.srv.loops.getD (a + i) {}))) (fun _ => s) []) ∧
    (n = 0 ∨ 48 < a + n → Refuses (.srvGetState rq) 0x58 rq s 0x09) ∧
    (a ≤ 47 → srvMode s.cfg.active a = 2 → (s.srv.loops.getD a {}).state = 1 →
      Waits (.srvTableLoad rq) 0x59 rq s s.cfg.hash (stageBytes [] (cfgKey (0x0B10 + a) 0) (slice rq.payload 4 512))) ∧
    (47 < a ∨ srvMode s.cfg.active a ≠ 2 ∨ (s.srv.loops.getD a {}).state ≠ 1 → Refuses (.srvTableLoad rq) 0x59 rq s 0x09)

/-- What the host actions do at the tick, and what they are answered (R41): stream states and injections (R112, R139), thruster states (R202), power limits
(R224). -/
def Obligations.TickActions : Prop :=
  ∀ (s : State) (b : Bnd),
    let n := getU16 b.payload 0
    let t := getU8 b.payload 0
    let ok := s.cyc.answers ++ [⟨b, 0x00, []⟩]
    (b.op = 0x42 → n ≤ 255 → actApplies (getU8 b.payload 2) (streamNow s.cfg.active s.fus n) = true →
      (s.applyTick b).fus = { s.fus with acts := s.fus.acts ++ [⟨nextOpen s.fus, n, getU8 b.payload 2⟩] } ∧ (s.applyTick b).cyc.answers = ok) ∧
    (b.op = 0x44 → injectOk s.cfg.active n (getU64 b.payload 4) = true → (∀ a ∈ s.cyc.answers, a.act.op = 0x44 → a.status = 0 → getU16 a.act.payload 0 ≠ n) →
      (s.applyTick b).cyc.answers = ok ∧ ∃ x : RawSample, (s.applyTick b).fus = { s.fus with rx := s.fus.rx ++ [x] } ∧ x.stream = n ∧ x.stamp = s.cyc.tick - 1 ∧
        x.body.drop 8 = slice b.payload 12 24) ∧
    (b.op = 0x44 → injectOk s.cfg.active n (getU64 b.payload 4) = true → (∃ a ∈ s.cyc.answers, a.act.op = 0x44 ∧ a.status = 0 ∧ getU16 a.act.payload 0 = n) →
      (s.applyTick b).fus = s.fus ∧ (s.applyTick b).cyc.answers = s.cyc.answers ++ [⟨b, 0x0D, []⟩]) ∧
    (b.op = 0x51 → 1 ≤ t → t ≤ 24 → thrConfigured s.cfg.active t = true →
      (s.applyTick b).cyc.answers = ok ∧ bits (s.applyTick b).alc.disabled (t - 1) 1 = (if getU8 b.payload 1 = 1 then 0 else 1) ∧
      (∀ k, k ≠ t - 1 → bits (s.applyTick b).alc.disabled k 1 = bits s.alc.disabled k 1) ∧ (getU8 b.payload 1 ≠ 1 → (s.applyTick b).srv = s.srv) ∧
      (s.applyTick b).ctl = s.ctl ∧ (s.applyTick b).cfg = s.cfg) ∧
    (b.op = 0x53 → (s.applyTick b).cyc.answers = ok ∧ (∀ k x, s.alc.secs[k]? = some x → (s.applyTick b).alc.secs[k]? = some (if bits t k 1 = 1 then
      { x with hostLimit := if getU32 b.payload (4 + 4 * k) = 0xFFFFFFFF then none else some (getU32 b.payload (4 + 4 * k)) } else x)) ∧
      (s.applyTick b).alc = { s.alc with secs := (s.applyTick b).alc.secs })

/-- What the host actions of the law's phase do (R148), in native mode: taking and releasing command (R146, R147), joystick (R151), target (R150), the modes
STANDBY and TRAVERSE (R148, R149), moored standby (R491) and the selection of a personality (R456). -/
def Obligations.LawActions : Prop :=
  ∀ (s : State) (i : LawIn) (b : Bnd), b.pk = none → s.strict = false →
    let p := b.payload
    let x := s.applyLaw i b
    (b.op = 0x35 → getU8 p 0 = 0 → s.twoHandOk s.cyc.img = true →
      (s.ctl.holder = none ∨ b.force = true → x.ctl = { s.ctl with holder := x.ctl.holder } ∧ x.ctl.holder.map Prod.snd = some b.ident ∧
        ∃ d, x.cyc.answers = s.cyc.answers ++ [⟨b, 0x00, d⟩]) ∧
      (∀ j w, s.ctl.holder = some (j, w) → w ≠ b.ident → b.force = false → x.ctl = s.ctl ∧ x.cyc.answers = s.cyc.answers ++ [⟨b, 0x09, []⟩])) ∧
    (b.op = 0x35 → getU8 p 0 = 0 → s.twoHandOk s.cyc.img = false → x.ctl = s.ctl ∧ x.cyc.answers = s.cyc.answers ++ [⟨b, 0x09, []⟩]) ∧
    (b.op = 0x35 → getU8 p 0 = 1 → s.ctl.holder.map Prod.snd = some b.ident → x.ctl = { s.ctl with holder := none } ∧ Latched x 54) ∧
    (b.op = 0x33 → s.ctl.holder.map Prod.snd = some b.ident → s.ctl.mode ≠ 0 →
      x.ctl = { s.ctl with joy := ⟨getS16 p 0, getS16 p 2, getS16 p 4⟩, joyAt := some s.agreedTick, ramp := none } ∧
        x.cyc.answers = s.cyc.answers ++ [⟨b, 0x00, []⟩]) ∧
    (b.op = 0x33 → s.ctl.mode = 0 → x.ctl = s.ctl ∧ x.cyc.answers = s.cyc.answers ++ [⟨b, 0x09, []⟩]) ∧
    (b.op = 0x31 → s.ctl.mode ≠ 2 → s.ctl.mode ≠ 3 → x.ctl = s.ctl ∧ x.cyc.answers = s.cyc.answers ++ [⟨b, 0x09, []⟩]) ∧
    (b.op = 0x31 → s.ctl.holder.map Prod.snd = some b.ident → s.ctl.mode = 3 → bits (getU8 p 20) 1 1 = 0 → bits (getU8 p 20) 0 1 = 1 →
      (getS64 p 0 - s.ctl.n) * (getS64 p 0 - s.ctl.n) + (getS64 p 8 - s.ctl.e) * (getS64 p 8 - s.ctl.e) ≤
        (((cfgU32 s.cfg.active 0x0902 12 : Nat) : Int) * 65536) * (((cfgU32 s.cfg.active 0x0902 12 : Nat) : Int) * 65536) →
      x.ctl = { s.ctl with n := getS64 p 0, e := getS64 p 8 } ∧ x.cyc.answers = s.cyc.answers ++ [⟨b, 0x00, []⟩]) ∧
    (b.op = 0x30 → s.ctl.holder.map Prod.snd = some b.ident → getU8 p 0 = 0 → x.ctl.mode = 0 ∧ x.ctl.integ = {} ∧ x.ctl.trav = [] ∧
      ∃ d, x.cyc.answers = s.cyc.answers ++ [⟨b, 0x00, d⟩]) ∧
    (b.op = 0x30 → getU8 p 0 = 4 → x.ctl = s.ctl ∧ x.cyc.answers = s.cyc.answers ++ [⟨b, 0x09, []⟩]) ∧
    (b.op = 0x06 → s.ctl.mode = 0 → s.fw.update = none → s.red.handover = none → s.red.size = 0 →
      x = { s with clk := { s.clk with enterReq := some b.id, enterDue := true } }) ∧
    (b.op = 0x06 → s.ctl.mode ≠ 0 → x.clk = s.clk ∧ x.cyc.answers = s.cyc.answers ++ [⟨b, 0x09, []⟩]) ∧
    (b.op = 0x08 → s.ctl.mode = 0 → getU8 p 0 = 1 → getU8 p 1 ≤ 1 → x.stored = (.pk20, if getU8 p 1 = 1 then .extended else .strict) ∧ Latched x 123 ∧
      x.cyc.answers = s.cyc.answers ++ [⟨b, 0x00, [1, byteOf (getU8 p 1), 0, 0]⟩]) ∧
    (b.op = 0x08 → s.ctl.mode ≠ 0 → x.stored = s.stored ∧ x.cyc.answers = s.cyc.answers ++ [⟨b, 0x09, []⟩])

/-! The Chain field link (chapter 13). -/

/-- The cyclic frame: a clean copy's datagram is taken with its arrival, a copy that fails its FCS gives nothing and is counted (R327, R328, R339); the
cycle's end takes the datagram or counts the miss (R333). -/
def Obligations.ChainCycle : Prop :=
  ∀ (s : State) (t k ol il : Nat) (y : Station), s.fld.inFlight = true → s.fld.sent = [(k, ol, il)] → 1 ≤ k → k ≤ 64 → s.fld.stations[k - 1]? = some y →
    (∀ (c : ChainCopy), fldTopology s.cfg.active = 1 → s.fld.outA = true → c.fromB = false → c.onB = false →
      let d := c.bytes.drop 16
      (c.fcsOk = true → c.bytes.length = 16 + dgLen ol il → getU16 c.bytes 12 = dgLen ol il → getU16 c.bytes 10 = 1 → getU32 c.bytes 4 = s.fld.cyc →
        getU8 d 0 = k → getU8 d 2 = ol → getU8 d 3 = il → getU8 d 4 = k → getU32 d 8 = s.fld.cyc ∨ (getU32 d 8 + 1) % 2 ^ 32 = s.fld.cyc →
        ∃ x, exec (.chainCopyReturn t c) s = .next x ∧ x.fld.gotA = [⟨k, getU8 d 5, getU32 d 8, slice d (12 + ol) il, c.sfd⟩] ∧ x.fld.outA = false ∧
          x.fld.stations = s.fld.stations ∧ x.fld.rttLast = satN 16 (c.rtt / 10) ∧ (450000 < c.rtt → Latched x 78) ∧ Calm [Reg.fldRtt] { s with fld := x.fld } x) ∧
      (c.fcsOk = false → ∃ x, exec (.chainCopyReturn t c) s = .next x ∧ x.fld.gotA = s.fld.gotA ∧ x.fld.outA = false ∧ x.fld.stations = s.fld.stations ∧
        x.reg Reg.fldCntFcs = (s.reg Reg.fldCntFcs + 1) % 2 ^ 32 ∧ Calm chainRegs { s with fld := x.fld } x)) ∧
    (∀ d : Datagram, d.addr = k → s.fld.gotA = [d] → s.fld.dup = [] → y.state = 3 →
      ∃ x, exec (.chainCycleComplete t) s = .next x ∧ x.fld.inFlight = false ∧ x.fld.gotA = [] ∧ x.fld.outA = false ∧ x.fld.outB = false ∧
        x.fld.stations[k - 1]? = some { y with run := 0, status := d.status, lastCyc := d.cyc, lastAt := d.stamp } ∧
        (∀ j, j ≠ k - 1 → x.fld.stations[j]? = s.fld.stations[j]?) ∧ Calm chainRegs { s with fld := x.fld, fus := { s.fus with rx := x.fus.rx } } x) ∧
    (s.fld.gotA = [] → s.fld.gotB = [] → s.fld.dup = [] → y.state = 3 →
      ∃ x, exec (.chainCycleComplete t) s = .next x ∧ x.fld.inFlight = false ∧ x.fld.stations[k - 1]? = some { y with state := 4, run := 1 } ∧
        (∀ j, j ≠ k - 1 → x.fld.stations[j]? = s.fld.stations[j]?) ∧ Latched x 72 ∧
        x.reg (Reg.fldStnMiss + 16 * (k - 1)) = (s.reg (Reg.fldStnMiss + 16 * (k - 1)) + 1) % 2 ^ 32 ∧ Calm chainRegs { s with fld := x.fld } x)

/-- A frame on its way through a module that is no master leaves on its other port, or back where that has no link (R341); a frame of another master raises
event 77 (R339); scans go out when due and are taken or lost (R336, R337); a port's link raises event 76 (R323). -/
def Obligations.ChainPorts : Prop :=
  ∀ (s : State) (t : Nat) (portB : Bool),
    (∀ mac frame, s.fldMaster = false → s.chan.ready = true → ∃ x, exec (.chainForward t portB mac frame) s = .next x ∧
      Out.chain (if (if portB then s.fld.linkA else s.fld.linkB) then !portB else portB) mac frame ∈ x.out ∧ x.fld.stations = s.fld.stations ∧
      Calm [] { s with fld := x.fld } x) ∧
    (∀ mac, ∃ x, exec (.fldForeign t portB mac) s = .next x ∧ Latched x 77 ∧ bits (x.reg Reg.fldStatus) 1 1 = 1 ∧
      x.reg Reg.fldCntForeign = (s.reg Reg.fldCntForeign + 1) % 2 ^ 32 ∧ Calm [Reg.fldStatus, Reg.fldCntForeign] { s with fld := { s.fld with seen := x.fld.seen } } x) ∧
    (s.fldMaster = true → s.chan.ready = true → fldTopology s.cfg.active ≠ 0 → s.fld.series.isSome = true ∨ s.fld.nextScan ≤ t →
      ∃ x b, exec (.chainScanSend t) s = .next x ∧ Out.chain false (Config.fieldMac false) b ∈ x.out ∧ b.length = 1552 ∧ x.fld.scanOut = true ∧
        x.reg Reg.fldCntFrames = (s.reg Reg.fldCntFrames + (if fldTopology s.cfg.active = 2 then 2 else 1)) % 2 ^ 32 ∧
        Calm [Reg.fldCntFrames] { s with fld := { s.fld with scanOut := true, nextScan := x.fld.nextScan } } x) ∧
    (s.fld.scanOut = true → s.fld.series = none → fldTopology s.cfg.active = 1 →
      ∃ x, exec (.chainScanComplete t none none) s = .next x ∧ x.reg Reg.fldCntLost = (s.reg Reg.fldCntLost + 1) % 2 ^ 32 ∧
        Calm [Reg.fldCntLost] { s with fld := { s.fld with scanOut := false } } x) ∧
    (∀ a, s.fld.scanOut = true → s.fld.series = none → fldTopology s.cfg.active = 1 →
      ∃ x, exec (.chainScanComplete t (some a) none) s = .next x ∧ x.fld.scanOut = false ∧ x.fld.scanned = true ∧
        x.reg Reg.fldCntScans = (s.reg Reg.fldCntScans + 1) % 2 ^ 32 ∧ Calm [Reg.fldCntScans, Reg.fldStatus] { s with fld := x.fld } x) ∧
    (∀ up, (if portB then s.fld.linkB else s.fld.linkA) ≠ up →
      ∃ x, exec (.fldPortLink t portB up) s = .next x ∧ (if portB then x.fld.linkB else x.fld.linkA) = up ∧
        (if portB then x.fld.linkA = s.fld.linkA else x.fld.linkB = s.fld.linkB) ∧ Latched x 76 ∧ (Present x 76 (b2n portB) ↔ up = false) ∧
        (x.red.noLink.isSome = true ↔ x.fld.linkA = false ∧ x.fld.linkB = false) ∧
        Calm [] { s with fld := x.fld, red := { s.red with noLink := x.red.noLink } } x)

/-- FLD_GET_STATION and FLD_SCAN (R343). -/
def Obligations.ChainRequests : Prop :=
  ∀ (s : State) (rq : Rq),
    let n := getU8 rq.payload 0
    (1 ≤ n → n ≤ 64 → Replies (.fldGetStation rq) 0xD8 rq s 0 (stnBytes n (s.reg (Reg.fldStnMiss + 16 * (n - 1))) (s.reg (Reg.fldStnViol + 16 * (n - 1)))
      (fldStn s.fld n)) (fun _ => s) []) ∧
    (n = 0 ∨ 64 < n → Refuses (.fldGetStation rq) 0xD8 rq s 0x09) ∧
    (fldTopology s.cfg.active ≠ 0 → s.fld.series = none → Accepts (.fldScan rq) 0xD9 rq s (fun o =>
      { s with fld := { s.fld with series := some { id := o.id, left := 32, last := none, differed := false } } }) []) ∧
    (fldTopology s.cfg.active = 0 ∨ s.fld.series.isSome = true → Refuses (.fldScan rq) 0xD9 rq s 0x09)

/-! The event recorder (chapter 18). -/

/-- REC_SET_CURSOR, REC_READ, REC_CLEAR and REC_WRITE_USER (R450 to R453); a wrong password counts toward the lockout (R407). -/
def Obligations.RecorderRequests : Prop :=
  ∀ (s : State) (rq : Rq) (w : Ident) (h : HostRec) (au : Bool),
    let p := rq.payload
    let n := getU8 p 0
    (Admitted s 0x70 rq w h au → n ≤ 3 →
      ∃ t, exec (.recSetCursor rq) s = .next t ∧ Replied s t 0x70 rq au 0 (u32 (recModeSeq s.recd n (getU32 p 4)) ++ zeros 4) ∧
        recCursor t.recd w = (recModeSeq s.recd n (getU32 p 4), getU8 p 1 == 1) ∧ (∀ v, v ≠ w → recCursor t.recd v = recCursor s.recd v) ∧
        Served [] { s with recd := { s.recd with cursors := t.recd.cursors } } t) ∧
    (3 < n → Refuses (.recSetCursor rq) 0x70 rq s 0x09) ∧
    (Admitted s 0x71 rq w h au →
      ∃ t, exec (.recRead rq) s = .next t ∧ Replied s t 0x71 rq au 0 (recRead w (Nat.min n 21) s.recd).2 ∧
        Served [] { s with recd := (recRead w (Nat.min n 21) s.recd).1 } t) ∧
    (Admitted s 0x72 rq w h au → safLocked rq.t s.saf = false → safPwOk s.saf n (pwText (slice p 4 8)) = true →
      ∃ t, exec (.recClear rq) s = .next t ∧ Replied s t 0x72 rq au 0 (u32 (s.recd.newest + 1) ++ u32 (recCount s.recd)) ∧ t.recd.c = s.recd.newest + 1 ∧
        t.recd.newest = s.recd.newest + 1 ∧ t.recd.wrapped = false ∧ Latched t 117 ∧
        t.reg Reg.recCntClear = (s.reg Reg.recCntClear + 1) % 2 ^ 32 ∧
        Served [Reg.recCntClear] { s with recd := (recClear s.red.modNum n (s.recRecord rq.t 2 0 0 [] none) s.recd).1 } t) ∧
    (Admitted s 0x72 rq w h au → safLocked rq.t s.saf = false → safPwOk s.saf n (pwText (slice p 4 8)) = false →
      ∃ t, exec (.recClear rq) s = .next t ∧ Replied s t 0x72 rq au 0x0A [] ∧ Latched t 105 ∧
        Served [Reg.safCntLoginfail] { s.cnt (fun k => { k with refused := satInc k.refused }) with saf := (safLoginFail rq.t n s.saf).1 } t) ∧
    (safLocked rq.t s.saf = true → Refuses (.recClear rq) 0x72 rq s 0x0A) ∧
    (Admitted s 0x73 rq w h au → s.recd.queue.length < 48 → (∀ c ∈ s.recd.coalesce, rq.t < c.ends) →
      ∃ t x, exec (.recWriteUser rq) s = .next t ∧ t.chan.opens = s.chan.opens ++ [requestOf s 0x73 rq w h au] ∧ t.recd.queue.getLast? = some x ∧ x.kind = 1 ∧
        x.num = n ∧ x.count = 1 ∧ x.detail = (slice p 4 16 ++ zeros 16).take 16 ∧ x.reply = some s.chan.nextId ∧ x.opTime = recOpTime s.recd rq.t ∧
        x.vessel = s.vessel rq.t ∧ x.epoch = s.cyc.number ∧ Served [] s t) ∧
    (48 < s.recd.queue.length → Refuses (.recWriteUser rq) 0x73 rq s 0x0D)

/-- REC_RECORD_WRITE writes the head of the queue with the next sequence, reports records that were dropped and the Tail's wrap, and answers the
REC_WRITE_USER that waits for it; after two failed writes the slot counts as lost (R446 to R448, R453). REC_COALESCE_END queues one record for the
occurrences a second absorbed, and the next second begins at its end (R444). A write of REC_CURSOR begins a load of 20 µs, and its end gives the window the record of that sequence (R454). -/
def Obligations.RecorderWrites : Prop :=
  ∀ (s : State) (t : Nat) (ok1 ok2 : Bool) (y : RecRec) (rest : List RecRec),
    let seq := s.recd.newest + 1
    let slot := recSlot (seq - s.recd.c)
    (s.recd.queue = y :: rest → y.reply = none →
      ∃ x, exec (.recRecordWrite t ok1 ok2) s = .next x ∧ x.recd.newest = seq ∧ x.recd.c = s.recd.c ∧ (rest.length + s.recd.coalesce.length < 61 → x.recd.dropped = 0) ∧
        ((ok1 || ok2) = true → recAt x.recd seq = some (recBytes seq s.recd.power s.red.modNum y) ∧ x.reg Reg.recCntBad = s.reg Reg.recCntBad) ∧
        ((ok1 || ok2) = false → recAt x.recd seq = none ∧ Latched x 119 ∧ bits (x.reg Reg.recStatus) 1 1 = 1 ∧
          x.reg Reg.recCntBad = (s.reg Reg.recCntBad + 1) % 2 ^ 32) ∧
        (s.recd.dropped ≠ 0 → Latched x 116) ∧ (4096 ≤ seq - s.recd.c → x.recd.wrapped = true ∧ (s.recd.wrapped = false → Latched x 118)) ∧
        (s.recd.dropped = 0 → seq - s.recd.c < 4096 → (ok1 || ok2) = true → x.recd.queue = rest ∧ x.recd.dropped = 0) ∧
        (∀ k, k ≠ slot → x.recd.slots.find? (fun z => z.1 == k) = s.recd.slots.find? (fun z => z.1 == k)) ∧
        Calm [Reg.recCntBad] { s with recd := { s.recd with newest := seq, slots := x.recd.slots, wrapped := x.recd.wrapped } } x) ∧
    (∀ o i, s.recd.queue = y :: rest → y.reply = some i → s.opn? i = some o → s.chan.ready = true →
      ∃ x, exec (.recRecordWrite t ok1 ok2) s = .next x ∧ x.recd.newest = seq ∧ x.chan.opens = s.chan.opens.filter (fun z => z.id != o.id) ∧
        ∀ p ∈ s.partsOf o 0 (u32 seq), ∀ d ∈ o.srcs, Out.udp (s.ownIp d.portB) 22480 d ipHdr p ∈ x.out) ∧
    (∀ c z, s.recd.coalesce = [c] → c.ends ≤ t → c.first = some z → s.recd.queue.length < 64 →
      ∃ x, exec (.recCoalesceEnd t) s = .next x ∧ Calm [] { s with recd := x.recd } x ∧ x.recd = { s.recd with
        queue := recPut { z with count := satN 32 c.absorbed, flags := z.flags ||| 2, aon := aonClock c.ends } s.recd.queue
        coalesce := [⟨z.num, c.ends + 1000000000, 0, none⟩] }) ∧
    (∀ v, ∃ x, exec (.recCursorWrite t v) s = .next x ∧ x.reg Reg.recCursor = v % 2 ^ 32 ∧
      Calm [Reg.recCursor] { s with recd := { s.recd with windowDue := some (t + 20000) } } x) ∧
    (∀ b, s.recd.windowDue.isSome = true → recHeld s.recd (s.reg Reg.recCursor) = true → recAt s.recd (s.reg Reg.recCursor) = some b →
      ∃ x, exec (.recWindowLoaded t) s = .next x ∧ Calm [] { s with recd := { s.recd with windowDue := none, win := b, winValid := true } } x) ∧
    (s.recd.windowDue.isSome = true → recHeld s.recd (s.reg Reg.recCursor) = false ∨ recAt s.recd (s.reg Reg.recCursor) = none →
      ∃ x, exec (.recWindowLoaded t) s = .next x ∧ Calm [] { s with recd := { s.recd with windowDue := none, winValid := false } } x)

/-! The Time Unit (chapter 10). -/

/-- What a measurement x does to its base: the first sets it at the next tick, one within the limit slews it within 100 ppm and the correction's own limit, a
larger one is held until three agree, and then steps the base or leaves it JUMP_PENDING (R250, R251); held, it is the newest x and ends LOCKED; a step moves the base's time by what it says. -/
def Obligations.TimeMeasurement : Prop :=
  ∀ (i : TimIn) (k : Nat) (x : Int) (m : Tim), 1 ≤ k → k ≤ 3 →
    let b := m.base k
    let host := k = 3 ∧ m.follow = 4
    let r := timMeasure i k x m
    let c := r.1.base k
    let large := b.state ≠ .unset ∧ b.state ≠ .jumpPending ∧ (if host then 1000000 else 1000) < x.natAbs
    (b.state = .unset → r.2.1 = 3 ∧ c.pend = some (x, 0) ∧ c.state = .locking) ∧
    (b.state ≠ .unset → x.natAbs ≤ (if host then 1000000 else 1000) → r.2.1 = 0 ∧ c.rem = x * 4294967296 ∧ c.freq.natAbs ≤ 100000000 ∧
      c.corr.natAbs ≤ (if host then 10000000 else 100000) ∧ c.held = [] ∧ c.refMono = i.t ∧ c.pend = b.pend ∧ baseTime c i.t = baseTime b i.t) ∧
    (b.state = .jumpPending → (if host then 1000000 else 1000) < x.natAbs → r.2.1 = 2 ∧ c = { b with x := x, lastRef := some i.t }) ∧
    (large → tripleOk (if host then 1000000 else 1000) (x :: b.held) = false → r.2.1 = 4 ∧
      c = { b with lastRef := some i.t, held := (x :: b.held).take 2, x := x, settled := 0, state := if b.state = .locked then .locking else b.state,
                   lockedAt := if b.state = .locked then none else b.lockedAt }) ∧
    (large → tripleOk (if host then 1000000 else 1000) (x :: b.held) = true → x.natAbs ≤ timJump i.cfg k →
      r.2.1 = 1 ∧ c.pend = some (x, 1) ∧ c.state = .locking ∧ c.held = []) ∧
    (large → tripleOk (if host then 1000000 else 1000) (x :: b.held) = true → timJump i.cfg k < x.natAbs →
      r.2.1 = 2 ∧ c.state = .jumpPending ∧ c.x = x ∧ c.pend = b.pend) ∧
    (∀ j, 1 ≤ j → j ≤ 3 → j ≠ k → r.1.base j = m.base j) ∧
    ∀ d cause, b.pend = some (d, cause) → baseTime ((timStepBase i k m).1.base k) i.t = baseTime b i.t + d ∧ ((timStepBase i k m).1.base k).pend = none

/-- VESSEL measured against its source (R249, R250), a reference that is lost (R249, R255), the choice of VESSEL's source (R253), the eclipse and the holdover
alarms (R255, R256), the edges of PPS-in and its loss (R259), the edges of the time pulses (R260). -/
def Obligations.TimeReferences : Prop :=
  ∀ (s : State) (t : Nat),
    let i := s.timIn t
    let m := s.tim
    let e := t - ppsCable s.cfg.active
    (∀ x, m.follow ≠ 4 → srcPresent s.cfg.active t m m.follow = true → x = timX m 3 t (timAt m m.follow t) →
      ∃ y, exec (.vesselMeasurement t) s = .next y ∧ Calm timRegs { s with tim := y.tim } y ∧
        (m.vessel.state = .unset → y.tim.vessel.pend = some (x, 0)) ∧
        (m.vessel.state ≠ .unset → x.natAbs ≤ 1000 → y.tim.vessel.x = x ∧ y.tim.vessel.rem = x * 4294967296 ∧ y.tim.vessel.held = [])) ∧
    (∀ l, m.gnss.state = .locking ∨ m.gnss.state = .locked → m.gnss.lastRef = some l → l + 3000000000 ≤ t →
      ∃ y, exec (.timeReferenceLost t) s = .next y ∧ y.tim.gnss = { m.gnss with state := .holdover, settled := 0, lockedAt := none, alarm := y.tim.gnss.alarm } ∧ Latched y 16 ∧
        Calm timRegs { s with tim := y.tim } y) ∧
    (ptpRole s.cfg.active = 1 → m.ptp.portState = 8 ∨ m.ptp.portState = 9 →
      m.ptp.lastAnnounce + ptpTimeout s.cfg.active * 10 ^ 9 * 2 ^ ptpLogAnnounce s.cfg.active ≤ t →
      ∃ y, exec (.timeReferenceLost t) s = .next y ∧ y.tim.ptp.portState = 4 ∧ y.tim.ptp.master = none ∧ Latched y 21 ∧
        (m.net.state = .locking ∨ m.net.state = .locked → y.tim.net.state = .holdover) ∧ Calm timRegs { s with tim := y.tim } y) ∧
    (m.onAlt = false → m.follow = timSrc s.cfg.active → srcPresent s.cfg.active t m (timSrc s.cfg.active) = false →
      srcPresent s.cfg.active t m (timAlt s.cfg.active) = true →
      ∃ y, exec (.timSourceSwitch t) s = .next y ∧ y.tim = { m with onAlt := true, follow := timAlt s.cfg.active } ∧
        Latched y 22 ∧ Present y 22 0 ∧ Calm [] { s with tim := y.tim } y) ∧
    (∀ l, m.onAlt = true → m.follow = timAlt s.cfg.active → timAlt s.cfg.active ≠ timSrc s.cfg.active →
      srcPresent s.cfg.active t m (timSrc s.cfg.active) = true → srcLocked s.cfg.active t m (timSrc s.cfg.active) = some l → l + 60000000000 ≤ t →
      ∃ y, exec (.timSourceSwitch t) s = .next y ∧ y.tim = { m with onAlt := false, follow := timSrc s.cfg.active } ∧ Latched y 22 ∧ ¬ Present y 22 0 ∧
        Calm [] { s with tim := y.tim } y) ∧
    (m.eclipse = false → m.vessel.state = .holdover ∨ m.vessel.state = .jumpPending →
      ∃ y, exec (.timHoldoverLimit t) s = .next y ∧ y.tim.eclipse = true ∧ Latched y 19 ∧ Present y 19 0 ∧ Calm [Reg.timStatus] { s with tim := y.tim } y) ∧
    (∀ k, 1 ≤ k → k ≤ 3 → (m.base k).alarm = false → (m.base k).state ≠ .unset → ((m.base k).state = .master → m.vessel.state ≠ .unset) →
      timHoldAlarm s.cfg.active < timErrRaw i m k →
      ∃ y, exec (.timHoldoverLimit t) s = .next y ∧ y.tim.base k = { m.base k with alarm := true } ∧ Latched y 23 ∧ Present y 23 k ∧
        bits (y.reg Reg.timStatus) 4 1 = 1 ∧ Calm [Reg.timStatus] { s with tim := y.tim } y) ∧
    (∀ k, 1 ≤ k → k ≤ 3 → (m.base k).alarm = true → timErrRaw i m k ≤ timHoldAlarm s.cfg.active →
      ∃ y, exec (.timHoldoverLimit t) s = .next y ∧ y.tim.base k = { m.base k with alarm := false } ∧ Latched y 23 ∧ ¬ Present y 23 k) ∧
    (m.ppsEdge = none ∨ (∃ p, m.ppsEdge = some p ∧ (p + 999990000 ≤ e ∧ e ≤ p + 1000010000 ∨ p + 3000000000 ≤ e)) →
      ∃ y, exec (.ppsInEdge t) s = .next y ∧ y.tim.ppsEdge = some e ∧ y.tim.ppsCount = m.ppsCount + 1 ∧ y.tim.ppsPresent = true ∧
        y.tim.ppsTai = m.ppsTai.map (fun x => x + 1000000000) ∧ (m.ppsPresent = false → Latched y 20 ∧ ¬ Present y 20 0) ∧
        (timGnssRef s.cfg.active ≠ 1 → y.tim.gnss = m.gnss ∧ y.tim.vessel = m.vessel) ∧ Calm timRegs { s with tim := y.tim } y) ∧
    (∀ p, m.ppsEdge = some p → ¬ (p + 999990000 ≤ e ∧ e ≤ p + 1000010000) → e < p + 3000000000 →
      ∃ y, exec (.ppsInEdge t) s = .next y ∧ Latched y 20 ∧ bits (y.reg Reg.timStatus) 2 1 = 1 ∧
        y.reg Reg.timCntPpsbad = (s.reg Reg.timCntPpsbad + 1) % 2 ^ 32 ∧ Calm [Reg.timStatus, Reg.timCntPpsbad] s y) ∧
    (∀ p, m.ppsEdge = some p → m.ppsPresent = true → p + 3000000000 ≤ t →
      ∃ y, exec (.ppsInLost t) s = .next y ∧ Latched y 20 ∧ Present y 20 0 ∧ Calm [] { s with tim := { m with ppsPresent := false } } y) ∧
    ∀ k, k < 2 →
      let last := if k = 0 then m.out1 else m.out2
      ∃ y, exec (.ppsOutputEdge t) s = .next y ∧ Calm [] { s with tim := { m with out1 := y.tim.out1, out2 := y.tim.out2 } } y ∧
        (ppsDue i m k = true → (∀ l, last.edge = some l → l + 500000000 ≤ t) →
          (if k = 0 then y.tim.out1 else y.tim.out2) = ⟨some t, Nat.max last.until_ (t + ppsWidth s.cfg.active k * 1000000), false⟩ ∧
          (s.chan.ready = true → Out.pps k (ppsWidth s.cfg.active k) (bits (ppsFlags s.cfg.active k) 0 1 == 1) ∈ y.out)) ∧
        (ppsDue i m k = false ∨ (∃ l, last.edge = some l ∧ last.stepped = true ∧ t < l + 500000000) → (if k = 0 then y.tim.out1 else y.tim.out2) = last)

/-- PTP_MESSAGE: what the port does not take is counted; a better master is followed from its Announce; a two-step Sync waits for its Follow_Up; a delay
response gives the delay; a MASTER answers a Delay_Req with VESSEL's time. PTP_SYNC_TX and PTP_DELAY_REQ_TX send in the states that send (R257, R258). -/
def Obligations.PtpMessages : Prop :=
  ∀ (s : State) (t mbps : Nat) (g : PtpMsg),
    let i := s.timIn t
    let p := s.tim.ptp
    let cfg := s.cfg.active
    let rx := t - ptpIngress cfg g.mbps
    let heard := ptpRole cfg ≠ 0 ∧ g.supported = true ∧ g.mbps ≠ 10 ∧ g.domain = ptpDomain cfg ∧ g.portB = (ptpPort cfg == 1)
    let slave := p.portState = 8 ∨ p.portState = 9
    (ptpRole cfg = 0 ∨ g.supported = false ∨ g.mbps = 10 ∨ g.domain ≠ ptpDomain cfg ∨ g.portB ≠ (ptpPort cfg == 1) →
      ∃ y, exec (.ptpMessage t g) s = .next y ∧ y.reg Reg.timCntPtpdisc = (s.reg Reg.timCntPtpdisc + 1) % 2 ^ 32 ∧ Calm [Reg.timCntPtpdisc] s y) ∧
    (heard → g.kind = 11 → p.master = none → ptpRole cfg = 1 → p.portState ≠ 8 →
      ∃ y, exec (.ptpMessage t g) s = .next y ∧ y.tim.ptp.master = some g.data ∧ y.tim.ptp.portState = 8 ∧ y.tim.ptp.lastAnnounce = t ∧
        y.tim.ptp.delay = none ∧ Latched y 21 ∧ Calm timRegs { s with tim := y.tim } y) ∧
    (∀ q, heard → slave → g.kind = 0 → p.master = some q → q.ident = g.sender → g.twoStep = true →
      ∃ y, exec (.ptpMessage t g) s = .next y ∧ Calm [] { s with tim := { s.tim with ptp := { p with lastSync := t, syncRx := some (g.seq, rx, g.corr) } } } y) ∧
    (∀ q r c, heard → slave → g.kind = 8 → p.master = some q → q.ident = g.sender → p.syncRx = some (g.seq, r, c) → p.delay = none →
      ∃ y, exec (.ptpMessage t g) s = .next y ∧
        Calm [] { s with tim := { s.tim with ptp := { p with syncRx := none, lastDown := some (g.stamp + c + g.corr, r) } } } y) ∧
    (∀ q t3 down t2, heard → slave → g.kind = 9 → p.master = some q → q.ident = g.sender → p.reqTx = some (g.seq, t3) → p.lastDown = some (down, t2) →
      g.req = (ptpOwn i s.tim).ident →
      ∃ y, exec (.ptpMessage t g) s = .next y ∧ y.tim.ptp.portState = 9 ∧
        y.tim.ptp.delay = some (divTrunc (((t2 : Int) - down) + (g.stamp - g.corr - (t3 : Int))) 2).toNat ∧ y.tim.ptp.reqTx = none ∧
        y.tim.gnss = s.tim.gnss ∧ y.tim.vessel = s.tim.vessel ∧ Calm timRegs { s with tim := y.tim } y) ∧
    (heard → g.kind = 1 → p.portState = 6 → s.chan.ready = true →
      ∃ y, exec (.ptpMessage t g) s = .next y ∧ Calm [] s y ∧ ∃ a, Out.ptp ipHdr a ∈ y.out ∧ a.kind = 9 ∧ a.seq = g.seq ∧ a.req = g.sender ∧ a.stamp = timAt s.tim 3 rx) ∧
    (p.portState = 6 → mbps ≠ 10 → s.chan.ready = true → ∃ y, exec (.ptpSyncTx t mbps) s = .next y ∧
      Calm [] { s with tim := { s.tim with ptp := { p with seqSync := (p.seqSync + 1) % 2 ^ 16, seqAnnounce := y.tim.ptp.seqAnnounce,
                                                            lastAnnounce := y.tim.ptp.lastAnnounce } } } y ∧
      (∃ a, Out.ptp ipHdr a ∈ y.out ∧ a.kind = 0 ∧ a.seq = p.seqSync ∧ a.twoStep = (bits (ptpFlags cfg) 0 1 == 1) ∧
        (a.twoStep = false → a.stamp = timAt s.tim 3 (t + ptpEgress cfg mbps))) ∧
      (bits (ptpFlags cfg) 0 1 = 1 → ∃ a, Out.ptp ipHdr a ∈ y.out ∧ a.kind = 8 ∧ a.seq = p.seqSync ∧ a.stamp = timAt s.tim 3 (t + ptpEgress cfg mbps)) ∧
      (p.lastAnnounce + 10 ^ 9 * 2 ^ ptpLogAnnounce cfg ≤ t → y.tim.ptp.lastAnnounce = t ∧
        ∃ a, Out.ptp ipHdr a ∈ y.out ∧ a.kind = 11 ∧ a.seq = p.seqAnnounce ∧ a.data = ptpOwn i s.tim)) ∧
    (slave → mbps ≠ 10 → s.chan.ready = true → ∃ y, exec (.ptpDelayReqTx t mbps) s = .next y ∧
      Calm [] { s with tim := { s.tim with ptp := { p with seqReq := (p.seqReq + 1) % 2 ^ 16, reqTx := some (p.seqReq, t + ptpEgress cfg mbps) } } } y ∧
      ∃ a, Out.ptp ipHdr a ∈ y.out ∧ a.kind = 1 ∧ a.seq = p.seqReq) ∧
    (p.portState ≠ 6 ∨ mbps = 10 → ∃ y, exec (.ptpSyncTx t mbps) s = .next y ∧ Calm [] s y)

/-- TIM_GET, TIM_SET and TIM_ACCEPT_JUMP (R252, R263, R264). -/
def Obligations.TimeRequests : Prop :=
  ∀ (s : State) (rq : Rq) (w : Ident) (h : HostRec) (au : Bool),
    let p := rq.payload
    let k := getU8 p 0
    let tai := getU64 p 4
    let i := s.timIn rq.t
    let m := s.tim
    Replies (.timGet rq) 0x80 rq s 0 (timGet i (s.readReg rq.t Reg.timStatus) m) (fun _ => s) [] ∧
    (∀ e x, Admitted s 0x81 rq w h au → s.asleep = false → k = 0 → m.ppsEdge = some e → timGnssRef s.cfg.active ≠ 0 → rq.t ≤ e + 1100000000 → x = timX m 1 e tai →
      ∃ t, exec (.timSetPpsEpoch rq) s = .next t ∧ Replied s t 0x81 rq au 0 (u8 (timMeasure i 1 x { m with ppsTai := some tai }).2.1 ++ zeros 3 ++ s64 x) ∧
        t.tim.ppsTai = some tai ∧ (m.gnss.state = .unset → t.tim.gnss.pend = some (x, 0)) ∧
        (m.gnss.state ≠ .unset → x.natAbs ≤ 1000 → t.tim.gnss.rem = x * 4294967296) ∧ Served timRegs { s with tim := t.tim } t) ∧
    (k = 0 → m.ppsEdge = none ∨ timGnssRef s.cfg.active = 0 ∨ (∃ e, m.ppsEdge = some e ∧ e + 1100000000 < rq.t) → Refuses (.timSetPpsEpoch rq) 0x81 rq s 0x09) ∧
    (∀ x, Admitted s 0x81 rq w h au → k = 1 → timSrc s.cfg.active = 4 → timHostTimeout s.cfg.active ≠ 0 → m.onAlt = false → m.follow = 4 → x = timX m 3 rq.t tai →
      ∃ t, exec (.timSetHostTime rq) s = .next t ∧
        Replied s t 0x81 rq au 0 (u8 (timMeasure i 3 x m).2.1 ++ zeros 3 ++ s64 x) ∧ t.tim.hostLast = some rq.t ∧
        (m.vessel.state = .unset → t.tim.vessel.pend = some (x, 0)) ∧ Served timRegs { s with tim := t.tim } t) ∧
    (k = 1 → timSrc s.cfg.active ≠ 4 → timAlt s.cfg.active ≠ 4 → Refuses (.timSetHostTime rq) 0x81 rq s 0x09) ∧
    (1 < k → Refuses (.timSetHostTime rq) 0x81 rq s 0x09) ∧
    (Admitted s 0x82 rq w h au → 1 ≤ k → k ≤ 3 → (m.base k).state = .jumpPending →
      (signed 64 (getU64 p 4) - (m.base k).x).natAbs ≤ timJump s.cfg.active k →
      ∃ t, exec (.timAcceptJump rq) s = .next t ∧
        Replied s t 0x82 rq au 0 (s64 (m.base k).x ++ u64 (if k = 3 then s.cyc.number + 1 else 0)) ∧ (t.tim.base k).pend = some ((m.base k).x, 2) ∧
        (k ≠ 3 → (t.tim.base k).state = .locking) ∧ Latched t 16 ∧ Served timRegs { s with tim := t.tim } t) ∧
    (k < 1 ∨ 3 < k ∨ (m.base k).state ≠ .jumpPending ∨ timJump s.cfg.active k < (signed 64 (getU64 p 4) - (m.base k).x).natAbs →
      Refuses (.timAcceptJump rq) 0x82 rq s 0x09)

/-! The GNSS baseband (chapter 11). -/

/-- The search of the next PRN ends: a detected satellite takes the lowest IDLE channel with its code phase and Doppler, another goes to the end of the search
order (R271, R272); a channel's states, its loss and a cycle slip, each judged on what was measured (R273); the drop and recovery of an input's signal
(Table 11.12); the antenna supplies' checks and retries (R270). The baseband's block is up. -/
def Obligations.GnssChannels : Prop :=
  ∀ (s : State) (t a k : Nat) (c : GnsChan), s.blockDown 11 = false →
    let g := s.gns
    let cfg := s.cfg.active
    (∀ prn dop cells z, g.asleep = false → gnsNext g a = some (prn, dop) → (gnsChans g a).findIdx? (fun c => c.state == 0) = some k → acqDetects cfg cells = some z →
      ∃ x, exec (.acquisitionDetect t a cells) s = .next x ∧
        gnsChans x.gns a = (gnsChans g a).set k { prn := prn, state := 1, dop := dop + ((z.bin : Int) - 24) * 250, code := z.code, since := t } ∧
        (∀ b, b ≠ a → gnsChans x.gns b = gnsChans g b) ∧ (gnsInput x.gns a).search = (gnsInput g a).search.filter (fun p => p.1 != prn) ∧
        x.reg Reg.gnsCntAcq = (s.reg Reg.gnsCntAcq + 1) % 2 ^ 32 ∧
        Calm [Reg.gnsCntAcq] { s with gns := { g with chans := x.gns.chans, inputs := x.gns.inputs } } x) ∧
    (∀ i prn dop cells, g.asleep = false → gnsNext g a = some (prn, dop) → (gnsChans g a).findIdx? (fun c => c.state == 0) = some k → g.inputs[a]? = some i →
      acqDetects cfg cells = none →
      ∃ x, exec (.acquisitionDetect t a cells) s = .next x ∧
        x.gns.inputs[a]? = some { i with search := i.search.filter (fun p => p.1 != prn) ++ [(prn, dop)] } ∧
        Calm [] { s with gns := { g with inputs := x.gns.inputs } } x) ∧
    ((gnsChans g a)[k]? = some c →
      (∀ low ns, c.state = 1 → 800 ≤ low → 100000000 ≤ ns → ns ≤ t - c.since →
        ∃ x, exec (.pullInLock t a k low ns) s = .next x ∧ (gnsChans x.gns a)[k]? = some { c with state := 2, since := t } ∧
          (∀ j, j ≠ k → (gnsChans x.gns a)[j]? = (gnsChans g a)[j]?) ∧ Calm [] { s with gns := { g with chans := x.gns.chans } } x) ∧
      (∀ low ns, low < 800 ∨ ns < 100000000 → ∃ x, exec (.pullInLock t a k low ns) s = .next x ∧ Calm [] s x) ∧
      (∀ (n : NavData) (e : Nat), c.state = 2 → n.sync = true → 2 ≤ n.subframes → n.eph = some e → (∀ y, s.tim.gnssNow t = some y → y ≤ (e : Int)) →
        ∃ x, exec (.navDataDecoded t a k n) s = .next x ∧ (gnsChans x.gns a)[k]? = some { c with state := 3, since := t } ∧
          (∀ j, j ≠ k → (gnsChans x.gns a)[j]? = (gnsChans g a)[j]?) ∧
          x.gns.data = { g.data with almanac := g.data.almanac || n.almanac, eph := (c.prn, e) :: g.data.eph.filter (fun y => y.1 != c.prn) } ∧
          Calm [] { s with gns := { g with chans := x.gns.chans, data := x.gns.data } } x) ∧
      (∀ n : NavData, 2 ≤ c.state → n.sync = false ∨ n.subframes < 2 → n.eph = none →
        ∃ x, exec (.navDataDecoded t a k n) s = .next x ∧
          Calm [] { s with gns := { g with data := { g.data with almanac := g.data.almanac || n.almanac } } } x) ∧
      (∀ i why, g.inputs[a]? = some i → (why = .pullIn ∧ c.state = 1 ∧ c.since + 2000000000 ≤ t) ∨
          (∃ top ns, why = .cn0 top ns ∧ top < gnsCn0Min cfg * 256 ∧ 1000000000 ≤ ns ∧ c.state ≠ 0) ∨
          (∃ top ns, why = .lock top ns ∧ top < 600 ∧ 200000000 ≤ ns ∧ c.state ≠ 0) →
        ∃ x, exec (.channelLockLoss t a k why) s = .next x ∧ (gnsChans x.gns a)[k]? = some {} ∧
          (∀ j, j ≠ k → (gnsChans x.gns a)[j]? = (gnsChans g a)[j]?) ∧
          x.gns.inputs[a]? = some { i with search := (c.prn, c.dop) :: i.search.filter (fun p => p.1 != c.prn) } ∧
          Calm [] { s with gns := { g with chans := x.gns.chans, inputs := x.gns.inputs } } x) ∧
      (∀ u v, c.state ≠ 0 → 16384 < (u - v).natAbs → ∃ x, exec (.channelLockLoss t a k (.slip u v)) s = .next x ∧
        (gnsChans x.gns a)[k]? = some { c with slipNext := true } ∧
        bits (x.reg Reg.gnsStatus) 3 1 = 1 ∧ x.reg Reg.gnsCntSlip = (s.reg Reg.gnsCntSlip + 1) % 2 ^ 32 ∧
        Calm [Reg.gnsStatus, Reg.gnsCntSlip] { s with gns := { g with chans := x.gns.chans } } x)) ∧
    (∀ levels,
      (gnsFell g a levels = true → (31, a) ∉ s.evt.conds →
        ∃ x, exec (.gnsSignal t a levels) s = .next x ∧ Latched x 31 ∧ Present x 31 a ∧ Calm [] s x) ∧
      (gnsFell g a levels = false → (31, a) ∈ s.evt.conds →
        ∃ x, exec (.gnsSignal t a levels) s = .next x ∧ Latched x 31 ∧ ¬ Present x 31 a ∧ Calm [] s x) ∧
      ((gnsFell g a levels = true ↔ (31, a) ∈ s.evt.conds) → ∃ x, exec (.gnsSignal t a levels) s = .next x ∧ x.evt = s.evt ∧ Calm [] s x)) ∧
    (∀ i j ma1 ma2, g.inputs = [i, j] → gnsSupplyOn cfg 0 = true →
      (i.tripped = false → ∃ x y, exec (.antennaSupplyCheck t ma1 ma2) s = .next x ∧ x.gns.inputs[0]? = some y ∧
        (ma1 < 2 → y.supply = 1 ∧ x.gns.base = 0 ∧ (i.supply ≠ 1 → Latched x 24 ∧ bits (x.reg Reg.gnsStatus) 1 1 = 1)) ∧
        (2 ≤ ma1 → ma1 < 75 → y.supply = 2 ∧ y.tripped = false ∧ y.atLimit = none) ∧
        (∀ l, 75 ≤ ma1 → i.atLimit = some l → 10000000 ≤ t - l → y.supply = 3 ∧ y.tripped = true ∧ y.tripAt = t ∧ x.gns.base = 0) ∧
        (75 ≤ ma1 → i.atLimit = none → y.supply = i.supply ∧ y.tripped = false ∧ y.atLimit = some t) ∧
        Calm [Reg.gnsStatus] { s with gns := { g with inputs := x.gns.inputs, base := x.gns.base, pass := x.gns.pass, bad := x.gns.bad, ints := x.gns.ints } } x) ∧
      (i.tripped = true → ∃ x y, exec (.antennaSupplyCheck t ma1 ma2) s = .next x ∧ x.gns.inputs[0]? = some y ∧
        y = { i with supply := 0, ma := 0, atLimit := none } ∧ (i.supply ≠ 0 → Latched x 24)) ∧
      (i.tripped = true → 10000000000 ≤ t - i.tripAt → ∃ x y, exec (.antennaRetry t ma1 ma2) s = .next x ∧ x.gns.inputs[0]? = some y ∧
        (75 ≤ ma1 → y = { i with tripAt := t, supply := 3, ma := ma1 } ∧ (i.supply ≠ 3 → Latched x 24)) ∧
        (ma1 < 75 → y = { i with tripped := false, atLimit := none, supply := if ma1 < 2 then 1 else 2, ma := ma1 } ∧ Latched x 24) ∧
        Calm [Reg.gnsStatus] { s with gns := { g with inputs := x.gns.inputs, base := x.gns.base, pass := x.gns.pass, bad := x.gns.bad, ints := x.gns.ints } } x))

/-- A measurement epoch that is due forms the numbered result of its number (R274, R277); solutions are checked by the count of their satellites and their
residuals (R276); Baseline needs five common satellites and four fixed differences (R281, R283). Samples are handed over when due (R278), RTCM frames taken or
counted (R279, R280), the corrections expire (R280), the store keeps what a HOT start uses, written 60 s apart (R292). -/
def Obligations.GnssSolutions : Prop :=
  ∀ (s : State) (t : Nat), s.blockDown 11 = false →
    let g := s.gns
    let cfg := s.cfg.active
    (∀ m : GnssMeas, gnsDue t m.tai g = true → ∃ x, exec (.gnssMeasurementEpoch t m) s = .next x ∧ x.gns.fixNum = g.fixNum + 1 ∧ x.gns.epochMono = t ∧
      x.gns.tai = m.tai.getD 0 ∧
      x.chan.results = { s.chan.results with fix := pushResult (g.fixNum + 1) (gnsFixBytes x.gns) s.chan.results.fix } ∧ x.gns.store = g.store ∧
      x.gns.corrs = g.corrs ∧ x.gns.station = g.station ∧ (m.tai = none → x.gns.fixes = g.fixes ∧ x.gns.timeValid = g.timeValid ∧ x.tim = s.tim) ∧
      Calm (gnsRegs ++ timRegs) { s with gns := x.gns, chan := { s.chan with results := x.chan.results }, tim := x.tim } x) ∧
    (∀ m : GnssMeas, gnsDue t m.tai g = false → ∃ x, exec (.gnssMeasurementEpoch t m) s = .next x ∧ Calm [] s x) ∧
    (∀ (a n : Nat) (y : LsTry), (n < 4 → (gnsRaim a n y).1 = none) ∧ (n = 4 → (gnsRaim a n y).1 = some (y.sol, false, 4, 0)) ∧
      (5 ≤ n → y.sol.sum ≤ gnsChi n → (gnsRaim a n y).1 = some (y.sol, true, n, 0)) ∧ (n = 5 → gnsChi n < y.sol.sum → (gnsRaim a n y).1 = none) ∧
      (∀ p z, 6 ≤ n → gnsChi n < y.sol.sum → y.removals = [(p, z)] →
        (gnsRaim a n y).1 = if z.sum ≤ gnsChi (n - 1) then some (z, true, n - 1, p) else none)) ∧
    (∀ (b : BaseMeas) (q : Gns), (gnsCommon cfg q < 5 → (gnsBaseline cfg b q).1.base = 0 ∧ (gnsBaseline cfg b q).2.1 = false) ∧
      (q.base = 2 → (gnsFixed cfg b q).1 < 4 → (gnsBaseline cfg b q).1.base ≠ 2 ∧ (gnsBaseline cfg b q).2.1 = false) ∧
      (q.base = 1 → (gnsBaseline cfg b q).1.base = 2 → 9 ≤ q.pass)) ∧
    (∀ link body, g.hand = [(t, link, body)] → s.blockDown 12 = false →
      ∃ x, exec (.gbSampleHandover t []) s = .next x ∧
        Calm [] { s with gns := { g with hand := [] }, fus := { s.fus with rx := s.fus.rx ++ gbSamples cfg t link body } } x) ∧
    (∀ due link body late, g.hand = [(due, link, body)] → due < t ∨ due = t ∧ link ∈ late →
      ∃ x, exec (.gbSampleHandover t late) s = .next x ∧ x.reg Reg.gnsCntLate = (s.reg Reg.gnsCntLate + 1) % 2 ^ 32 ∧
        Calm [Reg.gnsCntLate] { s with gns := { g with hand := [] } } x) ∧
    (∀ frame, rtcmPort cfg ≠ gnsCorrSrc cfg → ∃ x, exec (.rtcmFrame t frame) s = .next x ∧
      x.reg Reg.gnsCntRtcmDisc = (s.reg Reg.gnsCntRtcmDisc + 1) % 2 ^ 32 ∧ Calm [Reg.gnsCntRtcmDisc] s x) ∧
    (∀ frame, rtcmPort cfg = gnsCorrSrc cfg →
      (rtcmMessage frame = none → ∃ x, exec (.rtcmFrame t frame) s = .next x ∧ Latched x 28 ∧ bits (x.reg Reg.gnsStatus) 0 1 = 1 ∧
        x.reg Reg.gnsCntRtcmCrc = (s.reg Reg.gnsCntRtcmCrc + 1) % 2 ^ 32 ∧ Calm [Reg.gnsStatus, Reg.gnsCntRtcmCrc] s x) ∧
      (∀ m, rtcmMessage frame = some m → rtcmBits m 0 12 = 1005 → rtcmBits m 12 12 ≠ g.station →
        ∃ x, exec (.rtcmFrame t frame) s = .next x ∧ Latched x 28 ∧ x.reg Reg.gnsCntRtcmOk = (s.reg Reg.gnsCntRtcmOk + 1) % 2 ^ 32 ∧
          Calm [Reg.gnsCntRtcmOk]
            { s with gns := { g with station := rtcmBits m 12 12, refPos := rtcm1005Pos m, corrs := [], last1002 := none, hadCorr := false } } x) ∧
      (∀ m, rtcmMessage frame = some m → rtcmBits m 0 12 = 1002 → rtcmBits m 12 12 = g.station →
        ∃ x, exec (.rtcmFrame t frame) s = .next x ∧ x.gns.last1002 = some t ∧
          (∀ q ∈ rtcm1002Sats m, gnsEphValid g.data (s.tim.gnssNow t) q.1 = true → gnsCorrOf g t q ∈ x.gns.corrs) ∧
          (∀ d ∈ g.corrs, (∀ q ∈ rtcm1002Sats m, q.1 ≠ d.prn) → d ∈ x.gns.corrs) ∧ x.reg Reg.gnsCntRtcmOk = (s.reg Reg.gnsCntRtcmOk + 1) % 2 ^ 32 ∧
          Calm [Reg.gnsCntRtcmOk] { s with gns := { g with corrs := x.gns.corrs, last1002 := some t, hadCorr := x.gns.hadCorr } } x)) ∧
    (∃ x, exec (.correctionExpiry t) s = .next x ∧ x.gns.corrs = g.corrs.filter (fun c => decide (t - c.at_ ≤ gnsDiffMaxAge cfg * 1000000000)) ∧
      (g.hadCorr = true → x.gns.corrs = [] → Latched x 28) ∧ Calm [] { s with gns := { g with corrs := x.gns.corrs, hadCorr := x.gns.hadCorr } } x) ∧
    (∀ whole, (∀ d, g.store = some d → d.at_ + 60000000000 ≤ t) → ∃ x, exec (.gnssStoreWrite t whole) s = .next x ∧
      Calm [] { s with gns := { g with store := some { data := if g.asleep then g.data else gnsSnapshot g, at_ := t, crcOk := whole } } } x) ∧
    (∀ whole d, g.store = some d → t < d.at_ + 60000000000 → ∃ x, exec (.gnssStoreWrite t whole) s = .next x ∧ Calm [] s x)

/-- GNS_GET_CHANNELS, GNS_SET_CORRECTIONS and GNS_COLD_START (R279, R287, R289). -/
def Obligations.GnssRequests : Prop :=
  ∀ (s : State) (rq : Rq) (w : Ident) (h : HostRec) (au : Bool),
    let a := getU8 rq.payload 0
    let fs := rtcmSplit rq.payload.length (rq.payload.drop 4)
    (1 ≤ a → a ≤ 2 → Replies (.gnsGetChannels rq) 0xB1 rq s 0 (gnsChanBytes s.gns (a - 1)) (fun _ => s) []) ∧
    (a = 0 ∨ 2 < a → Refuses (.gnsGetChannels rq) 0xB1 rq s 0x09) ∧
    (gnsCorrSrc s.cfg.active ≠ 0 → Refuses (.gnsSetCorrections rq) 0xB2 rq s 0x09) ∧
    (∀ f, Admitted s 0xB2 rq w h au → gnsCorrSrc s.cfg.active = 0 → s.blockDown 11 = false → fs = ([f], 0) →
      (rtcmMessage f = none → ∃ t, exec (.gnsSetCorrections rq) s = .next t ∧ Replied s t 0xB2 rq au 0 (u16 0 ++ u16 1) ∧
        t.reg Reg.gnsCntRtcmCrc = (s.reg Reg.gnsCntRtcmCrc + 1) % 2 ^ 32 ∧ Served [Reg.gnsStatus, Reg.gnsCntRtcmCrc] s t) ∧
      (∀ m, rtcmMessage f = some m → rtcmBits m 0 12 = 1005 → rtcmBits m 12 12 = s.gns.station →
        ∃ t, exec (.gnsSetCorrections rq) s = .next t ∧ Replied s t 0xB2 rq au 0 (u16 1 ++ u16 0) ∧
          t.reg Reg.gnsCntRtcmOk = (s.reg Reg.gnsCntRtcmOk + 1) % 2 ^ 32 ∧
          Served [Reg.gnsCntRtcmOk] { s with gns := { s.gns with refPos := rtcm1005Pos m } } t)) ∧
    (Admitted s 0xB2 rq w h au → gnsCorrSrc s.cfg.active = 0 → fs.1 = [] →
      ∃ t, exec (.gnsSetCorrections rq) s = .next t ∧ Replied s t 0xB2 rq au 0 (u16 0 ++ u16 0) ∧
        t.reg Reg.gnsCntRtcmDisc = (s.reg Reg.gnsCntRtcmDisc + fs.2) % 2 ^ 32 ∧ Served [Reg.gnsCntRtcmDisc] s t) ∧
    (Admitted s 0xB3 rq w h au →
      ∃ t, exec (.gnsColdStart rq) s = .next t ∧ WasSent s t 0xB3 rq au 0x01 [] ∧ Replied s t 0xB3 rq au 0 (u8 (if a = 0 then 0 else 1) ++ zeros 3) ∧
        t.gns.start = (if a = 0 then 0 else 1) ∧ t.gns.chans = [List.replicate 24 {}, List.replicate 24 {}] ∧ t.gns.data.eph = [] ∧
        t.gns.data.almanac = (a != 0 && s.gns.data.almanac) ∧ t.gns.fixNum = s.gns.fixNum ∧ t.gns.base = 0 ∧ t.gns.store = s.gns.store ∧ Latched t 27 ∧
        Served [] { s with gns := t.gns } t)

/-! Sensor links (chapter 12). -/

/-- A sentence is assembled from '$' on and dropped at its 83rd character (R295, R296); it gives its samples or fails a check (R296 to R300); a silent port starts its
condition (R301). A transmit queue empties from its head (R302), alert sentences go to the ports with ALERT_OUT (R303), a datagram to IN_GROUP and IN_PORT is
taken or counted (R304). -/
def Obligations.SerialLinks : Prop :=
  ∀ (s : State) (t p : Nat) (b : Byte) (fr : Bool) (q : SerPort), 1 ≤ p → p ≤ 8 → s.ser.ports[p - 1]? = some q → s.blockDown 8 = false →
    let cfg := s.cfg.active
    let n := q.buf.length
    let q0 := { q with buf := [], inSentence := false, framing := false }
    let o := sentence cfg p t (serUere cfg p) (serAlertOut cfg p) (s.vesselKnown t) ((q.buf.drop 1).take (n - 3)) q0
    let whole := serMode cfg p = 1 ∧ q.buf.getLast? = some 10#8
    let sound := whole ∧ q.framing = false ∧ q.buf.getD (n - 2) 0 = 13#8
    let why := if q.framing || fr then 1 else 2
    let open_ := q.inSentence = true ∧ q.dropping = false ∧ q.buf.getLast? ≠ some 10#8
    (serMode cfg p = 1 →
      (b = 36#8 → ¬ open_ → ∃ x, exec (.serialByte t p b fr) s = .next x ∧
        Calm [] (s.setPort p { q with buf := [b], inSentence := true, framing := fr, dropping := false }) x) ∧
      (b ≠ 36#8 → ¬ open_ → ∃ x, exec (.serialByte t p b fr) s = .next x ∧ Calm [] s x) ∧
      (open_ → n < 82 →
        ∃ x, exec (.serialByte t p b fr) s = .next x ∧ Calm [] (s.setPort p { q with buf := q.buf ++ [b], framing := q.framing || fr }) x) ∧
      (open_ → 82 ≤ n →
        ∃ x, exec (.serialByte t p b fr) s = .next x ∧ x.reg (serCnt p why) = (s.reg (serCnt p why) + 1) % 2 ^ 32 ∧ (q.errRaised = false → Latched x 80) ∧
          Calm [serCnt p why, Reg.serStatus] (s.setPort p { q with buf := [], inSentence := false, dropping := true, errRaised := true }) x)) ∧
    (whole → q.framing = true ∨ q.buf.getD (n - 2) 0 ≠ 13#8 →
      ∃ x, exec (.serialSentence t p) s = .next x ∧ x.reg (serCnt p 1) = (s.reg (serCnt p 1) + 1) % 2 ^ 32 ∧ bits (x.reg Reg.serStatus) (p - 1) 1 = 1 ∧
        (q.errRaised = false → Latched x 80) ∧ Calm [serCnt p 1, Reg.serStatus] (s.setPort p { q0 with errRaised := true }) x) ∧
    (sound → o.check ≠ 0 →
      ∃ x, exec (.serialSentence t p) s = .next x ∧ x.reg (serCnt p o.check) = (s.reg (serCnt p o.check) + 1) % 2 ^ 32 ∧
        bits (x.reg Reg.serStatus) (p - 1) 1 = 1 ∧ (q.errRaised = false → Latched x 80) ∧
        Calm [serCnt p o.check, Reg.serStatus] (s.setPort p { o.port with errRaised := true }) x) ∧
    (sound → o.check = 0 → s.blockDown 12 = false →
      ∃ x, exec (.serialSentence t p) s = .next x ∧ x.reg (serCnt p 0) = (s.reg (serCnt p 0) + 1) % 2 ^ 32 ∧
        (q.silent = true → Latched x 81 ∧ ¬ Present x 81 p) ∧
        (∀ a, o.acn = some a → Latched x 86 ∧ (s.active = true → (arcText a).length ≤ txFree q → ∃ y, x.ser.ports[p - 1]? = some y ∧ arcText a ∈ y.txq)) ∧
        Calm [serCnt p 0] { s.setPort p { o.port with silent := false } with fus := { s.fus with rx := s.fus.rx ++ o.samples } } x) ∧
    (serMode cfg p = 1 → linkStreams cfg p ≠ [] → q.silent = false → q.lastPass + serSilentMs cfg p * 1000000 ≤ t →
      ∃ x y, exec (.lnkSerSilent t) s = .next x ∧ x.ser.ports[p - 1]? = some y ∧ y.silent = true ∧ Latched x 81 ∧ Present x 81 p ∧
        (∀ (j : Nat) (z : SerPort), s.ser.ports[j]? = some z → ∃ u : SerPort, x.ser.ports[j]? = some u ∧ ({ u with txq := z.txq, silent := z.silent } : SerPort) = z) ∧
        Calm [] { s with ser := { s.ser with ports := x.ser.ports } } x) ∧
    (∀ u r, q.txq = u :: r → s.active = true → s.chan.ready = true →
      ∃ x y more, exec (.serialTxComplete t p) s = .next x ∧ Out.serial p u ∈ x.out ∧ x.ser.ports[p - 1]? = some y ∧ y.txq = r ++ more ∧
        x.reg (serCnt p 7) = (s.reg (serCnt p 7) + u.length) % 2 ^ 32 ∧ Calm [serCnt p 7] s x) ∧
    (∀ a, s.ser.alerts = [a] → a.lastAlf + 60000000000 ≤ t → s.active = true → s.asleep = false → s.chan.ready = true →
      ∃ x, exec (.alertAlfRepeat t) s = .next x ∧ Calm [] s x ∧
        (serAlerts cfg p = true → (alfText cfg a).length ≤ txFree q → ∃ y, x.ser.ports[p - 1]? = some y ∧ alfText cfg a ∈ y.txq) ∧
        (s450Out cfg ≠ 0 → ∀ k, k < 2 → bits (s450Ports cfg) k 1 = 1 →
          Out.iec450 (k == 1) (s450Out cfg) (s450OutPort cfg) ipHdr (alertDatagram cfg (alfText cfg a)) ∈ x.out)) ∧
    (s.ser.alerts = [] → s.ser.lastAlc + 30000000000 ≤ t → s.active = true → s.asleep = false → s.chan.ready = true →
      ∃ x, exec (.alertAlcList t) s = .next x ∧ Calm [] { s with ser := { s.ser with lastAlc := t } } x ∧
        (serAlerts cfg p = true → (∀ u ∈ alcText s.ser, u.length ≤ txFree q) →
          ∃ y, x.ser.ports[p - 1]? = some y ∧ ∀ u ∈ alcText s.ser, u ∈ y.txq)) ∧
    (∀ portB group port src d, s450In cfg = 0 ∨ group ≠ s450In cfg ∨ port ≠ s450InPort cfg ∨ bits (s450Ports cfg) (b2n portB) 1 = 0 →
      ∃ x, exec (.iec450Datagram t portB group port src d) s = .next x ∧ Calm [] s x) ∧
    (∀ portB src d, s450In cfg ≠ 0 → bits (s450Ports cfg) (b2n portB) 1 = 1 → d.take 6 ≠ hdr450 →
      ∃ x, exec (.iec450Datagram t portB (s450In cfg) (s450InPort cfg) src d) s = .next x ∧ Latched x 85 ∧ bits (x.reg Reg.serStatus) 16 1 = 1 ∧
        x.reg (cnt450 0) = (s.reg (cnt450 0) + 1) % 2 ^ 32 ∧ x.reg (cnt450 1) = (s.reg (cnt450 1) + 1) % 2 ^ 32 ∧
        Calm [cnt450 0, cnt450 1, Reg.serStatus] s x) ∧
    (∀ portB src d,
      let z := sentence cfg 0x50 t (serUere cfg 0) false (s.vesselKnown t) d s.ser.p450
      s450In cfg ≠ 0 → bits (s450Ports cfg) (b2n portB) 1 = 1 → z.check = 0 → d.length ≤ 79 → 10#8 ∉ d → s.blockDown 12 = false →
      ∃ x, exec (.iec450Datagram t portB (s450In cfg) (s450InPort cfg) src (hdr450 ++ [36#8] ++ d ++ [13#8, 10#8])) s = .next x ∧
        x.reg (cnt450 0) = (s.reg (cnt450 0) + 1) % 2 ^ 32 ∧ x.reg (cnt450 3) = (s.reg (cnt450 3) + 1) % 2 ^ 32 ∧
        Calm [cnt450 0, cnt450 3] { s with ser := { s.ser with p450 := z.port }, fus := { s.fus with rx := s.fus.rx ++ z.samples } } x)

/-- LNK_GET_COUNTERS, LNK_CAN_TX and LNK_SER_TX (R318). -/
def Obligations.LinkRequests : Prop :=
  ∀ (s : State) (rq : Rq) (w : Ident) (h : HostRec) (au : Bool),
    let c := getU8 rq.payload 0
    let m := getU8 rq.payload 1
    let n := getU8 rq.payload 2
    let cfg := s.cfg.active
    (1 ≤ c → c ≤ 8 → Replies (.lnkGetCounters rq) 0xD0 rq s 0
      (u8 c ++ u8 (serPortStat cfg s.ser.ports c % 4) ++ zeros 2 ++ ((List.range 8).map (serCnt c)).flatMap (fun a => u32 (s.reg a))) (fun _ => s) []) ∧
    (c = 0x10 ∨ c = 0x11 → Replies (.lnkGetCounters rq) 0xD0 rq s 0
      (u8 c ++ u8 (canCode (s.can (c - 0x10)).state) ++ zeros 2 ++ ((List.range 12).map (canCnt (c - 0x10))).flatMap (fun a => u32 (s.reg a))) (fun _ => s) []) ∧
    (c = 0x50 → Replies (.lnkGetCounters rq) 0xD0 rq s 0
      (u8 c ++ u8 (if s450In cfg = 0 then 0 else 1) ++ zeros 2 ++ ((List.range 8).map cnt450).flatMap (fun a => u32 (s.reg a))) (fun _ => s) []) ∧
    (c = 0 ∨ 8 < c ∧ c ≠ 0x10 ∧ c ≠ 0x11 ∧ c ≠ 0x50 → Refuses (.lnkGetCounters rq) 0xD0 rq s 0x09) ∧
    (canLoadCheck cfg c m n (s.can c) = 0 → Replies (.lnkCanTx rq) 0xD1 rq s 0 []
      (fun _ => s.setCan c (canLoad cfg c m rq.t (slice rq.payload 4 n) (s.can c))) []) ∧
    (1 < c ∨ canMode cfg c ≠ 1 ∨ 127 < m ∨ objOn cfg c m = false ∨ objSend cfg c m = false → Refuses (.lnkCanTx rq) 0xD1 rq s 0x09) ∧
    (canLoadCheck cfg c m n (s.can c) = 2 → Refuses (.lnkCanTx rq) 0xD1 rq s 0x0D) ∧
    (∀ q, Admitted s 0xD2 rq w h au → 1 ≤ c → c ≤ 8 → serMode cfg c = 1 → s.ser.ports[c - 1]? = some q → getU16 rq.payload 2 ≤ txFree q →
      ∃ t y, exec (.lnkSerTx rq) s = .next t ∧
        Replied s t 0xD2 rq au 0 (u16 (txFree (txPush (slice rq.payload 4 (getU16 rq.payload 2)) q)) ++ zeros 2) ∧ t.ser.ports[c - 1]? = some y ∧
        slice rq.payload 4 (getU16 rq.payload 2) ∈ y.txq ∧ Served [] s t) ∧
    (∀ q, 1 ≤ c → c ≤ 8 → serMode cfg c = 1 → s.ser.ports[c - 1]? = some q → txFree q < getU16 rq.payload 2 → Refuses (.lnkSerTx rq) 0xD2 rq s 0x0D) ∧
    (c = 0 ∨ 8 < c ∨ serMode cfg c ≠ 1 → Refuses (.lnkSerTx rq) 0xD2 rq s 0x09)

/-- A CAN frame received is stored in its object or in the FIFO its filter picks, or counted (R310); an attempt to send ends (R308, R311); the error counts
move the error state (R309); 11 recessive bits join the bus (R309, R313); RESTART and POP (R309, R310). -/
def Obligations.CanControllers : Prop :=
  ∀ (s : State) (t c : Nat) (f : CanFrame), c < 2 → s.blockDown (blockOf (canReg c 0)) = false →
    let k := s.can c
    let cfg := s.cfg.active
    let bus := canOnBus k = true
    let quiet := k.rxErr = 0 ∧ k.txErr < 128 ∧ k.state = .active
    (canOnBus k = false → ∃ x, exec (.canFrameRx t c f) s = .next x ∧ Calm [] s x) ∧
    (bus → quiet → f.remote = true → ∃ x, exec (.canFrameRx t c f) s = .next x ∧ x.reg (canCnt c 2) = (s.reg (canCnt c 2) + 1) % 2 ^ 32 ∧ Calm [canCnt c 2] s x) ∧
    (∀ m, bus → quiet → f.remote = false → canN2k cfg c = false → objPick cfg c f = some m → linkStreams cfg (0x10 + c) = [] →
      ∃ x, exec (.canFrameRx t c f) s = .next x ∧ x.reg (canCnt c 0) = (s.reg (canCnt c 0) + 1) % 2 ^ 32 ∧ bits (x.reg (moStat c m)) 0 1 = 1 ∧
        (bits (s.reg (moStat c m)) 0 1 = 1 → bits (x.reg (moStat c m)) 1 1 = 1 ∧ x.reg (canCnt c 3) = (s.reg (canCnt c 3) + 1) % 2 ^ 32) ∧
        Calm [canCnt c 0, canCnt c 3, moStat c m, canReg c 4] (s.setCan c { k with objs := modNth k.objs m (fun o => { o with stored := some ⟨f, t⟩ }) }) x) ∧
    (bus → quiet → f.remote = false → canN2k cfg c = false → objPick cfg c f = none → filterPick cfg c f = 1 → k.fifo0.length < 64 →
      ∃ x, exec (.canFrameRx t c f) s = .next x ∧ x.reg (canCnt c 0) = (s.reg (canCnt c 0) + 1) % 2 ^ 32 ∧
        Calm [canCnt c 0] (s.setCan c { k with fifo0 := k.fifo0 ++ [⟨f, t⟩] }) x) ∧
    (bus → quiet → f.remote = false → canN2k cfg c = false → objPick cfg c f = none → filterPick cfg c f = 2 → k.fifo1.length < 64 →
      ∃ x, exec (.canFrameRx t c f) s = .next x ∧ Calm [canCnt c 0] (s.setCan c { k with fifo1 := k.fifo1 ++ [⟨f, t⟩] }) x) ∧
    (bus → quiet → f.remote = false → canN2k cfg c = false → objPick cfg c f = none → filterPick cfg c f = 1 → 64 ≤ k.fifo0.length →
      ∃ x, exec (.canFrameRx t c f) s = .next x ∧ Latched x 83 ∧ x.reg (canCnt c 4) = (s.reg (canCnt c 4) + 1) % 2 ^ 32 ∧
        Calm [canCnt c 0, canCnt c 4, canReg c 4] s x) ∧
    (∀ m g, bus → canMode cfg c = 1 → canN2k cfg c = false → canOffer cfg c k = some (m, g) → k.txErr < 128 → k.rxErr < 128 → k.state = .active →
      s.active = true → s.chan.ready = true →
      (∃ x, exec (.canTxComplete t c m .sent) s = .next x ∧ Out.can c g ∈ x.out ∧ x.reg (canCnt c 1) = (s.reg (canCnt c 1) + 1) % 2 ^ 32 ∧
        Calm [canCnt c 1] (s.setCan c { k with txErr := k.txErr - 1, objs := modNth k.objs m (fun o => { o with pend := false }) }) x) ∧
      (bits (objFlags cfg c m) 1 1 = 0 → ∃ x, exec (.canTxComplete t c m .lost) s = .next x ∧ Calm [] s x) ∧
      (bits (objFlags cfg c m) 1 1 = 1 → ∃ x, exec (.canTxComplete t c m .lost) s = .next x ∧ x.reg (canCnt c 7) = (s.reg (canCnt c 7) + 1) % 2 ^ 32 ∧
        Calm [canCnt c 7] (s.setCan c { k with objs := modNth k.objs m (fun o => { o with pend := false }) }) x) ∧
      ∀ j, j ≠ m → ∃ x, exec (.canTxComplete t c j .sent) s = .next x ∧ Calm [] s x) ∧
    (∀ e, bus → ∃ x, exec (.canBusError t c e) s = .next x ∧ x.reg (canCnt c 6) = (s.reg (canCnt c 6) + 1) % 2 ^ 32 ∧
      (e = .tx → k.txErr < 248 → (x.can c).txErr = k.txErr + 8 ∧ (119 < k.txErr → k.state = .active → (x.can c).state = .passive ∧ Latched x 82)) ∧
      (e = .tx → 247 < k.txErr → (x.can c).state = .busOff ∧ (x.can c).sendQ = [] ∧ (∀ o ∈ (x.can c).objs, o.pend = false) ∧ Latched x 82 ∧
        (x.can c).recovering = canAuto cfg c) ∧
      (e = .rx → (x.can c).rxErr = Nat.min (k.rxErr + 1) 255) ∧ (x.can c).fifo0 = k.fifo0 ∧ (x.can c).fifo1 = k.fifo1 ∧
      Calm [canCnt c 6, canCnt c 8, canCnt c 9, canReg c 4] (s.setCan c (x.can c)) x) ∧
    (k.state = .busOff → k.recovering = true → canN2k cfg c = false →
      ∃ x, exec (.canBusIntegration t c) s = .next x ∧ Latched x 82 ∧
        Calm [] (s.setCan c { k with state := .active, txErr := 0, rxErr := 0, recovering := false, claimed := false }) x) ∧
    (k.state ≠ .busOff → k.integ = true → canN2k cfg c = false →
      ∃ x, exec (.canBusIntegration t c) s = .next x ∧ Calm [] (s.setCan c { k with integ := false }) x) ∧
    (k.state ≠ .busOff → k.integ = true → canN2k cfg c = true → canMode cfg c = 1 → k.cannotClaim = false → k.claimed = true → k.addr ≠ 254 →
      ∃ x, exec (.canBusIntegration t c) s = .next x ∧
        Calm [] (s.setCan c { k with integ := false, claimed := false, sendQ := k.sendQ ++ [claimFrame cfg c k.addr] }) x) ∧
    ∀ r : Cross, r.lost = none →
      (k.state = .busOff → ∃ x, exec (.canCtrlRestart t c r) s = .next x ∧ Calm [Reg.sysXstall] (s.setCan c { k with recovering := true }) x) ∧
      (k.state ≠ .busOff → ∃ x, exec (.canCtrlRestart t c r) s = .next x ∧ Calm [Reg.sysXstall] s x) ∧
      (∃ x, exec (.canFifoPop t c 0 r) s = .next x ∧ Calm [Reg.sysXstall] (s.setCan c { k with fifo0 := k.fifo0.drop 1 }) x) ∧
      (∃ x, exec (.canFifoPop t c 1 r) s = .next x ∧ Calm [Reg.sysXstall] (s.setCan c { k with fifo1 := k.fifo1.drop 1 }) x)

/-! Analogue and discrete inputs and outputs (chapter 14). -/

/-- A filter's output, at its window's end, gives the word of the corrected reading with its flags; overrange and signal fault start and end each on its own
(R349 to R353, R356), a digital input follows its filter (R364), a tripped output
is tried again after 1 s (R365). AIO_FILTER_SET waits for the tick, a LOAD for a group that runs is refused (R354); AIO_CAL measures a point, and COMMIT needs
both (R366). -/
def Obligations.AnalogueIo : Prop :=
  ∀ (s : State) (t ch : Nat) (raw : AioRaw), s.blockDown 10 = false →
    let cfg := s.cfg.active
    let a := s.aio
    let r := calApply (calOf cfg 0 ch) raw.x
    let x := clampI (-aioFull) aioFull r
    let sig := aiRange cfg ch = 2 ∧ aiLoop cfg ch = true ∧ loopFault x = true
    let ovr := aioFull ≤ r ∨ r ≤ -aioFull
    (aioActive cfg a ch = false ∨ aioWindowAt cfg (aioGroupOf ch) t = false → ∃ y, exec (.aioFilterOutput t ch raw) s = .next y ∧ Calm [] s y) ∧
    (∀ c, ch < 32 → aioActive cfg a ch = true → aioWindowAt cfg (aioGroupOf ch) t = true → a.chans[ch]? = some c → a.runs = [] → linkStreams cfg 0x40 = [] →
      ∃ y z, exec (.aioFilterOutput t ch raw) s = .next y ∧ y.aio.chans[ch]? = some z ∧ z.new.te = t ∧ z.new.w = aioWord (aiGain cfg ch) (aiOffset cfg ch) x ∧
        (z.new.ovr = true ↔ ovr) ∧ (z.new.sig = true ↔ sig) ∧ z.old = c.new ∧ (z.new.unsettled = true ↔ z.settle < 3) ∧
        (c.new.ovr = false → c.new.sig = false → z.settle = c.settle + 1) ∧ (c.new.ovr = true ∨ c.new.sig = true → ¬ ovr → ¬ sig → z.settle = 0) ∧
        (c.new.ovr = true → ¬ ovr → Latched y 88 ∧ ¬ Present y 88 ch) ∧ (c.new.sig = true → ¬ sig → Latched y 88 ∧ ¬ Present y 88 (64 + ch)) ∧
        (ovr → c.new.ovr = false → Latched y 88 ∧ Present y 88 ch ∧ bits (y.reg Reg.aioStatus) 0 1 = 1) ∧
        (sig → c.new.sig = false → Latched y 88 ∧ Present y 88 (64 + ch) ∧ bits (y.reg Reg.aioStatus) 0 1 = 1) ∧
        (∀ j, j ≠ ch → y.aio.chans[j]? = a.chans[j]?) ∧
        Calm [Reg.aioStatus, Reg.aioCntInflt, Reg.aioCntUnsettled] { s with aio := { a with chans := y.aio.chans, points := y.aio.points } } y) ∧
    (∀ levels, ∃ y, exec (.diSample t levels) s = .next y ∧ Calm [] { s with aio := { a with din := y.aio.din } } y ∧ y.aio.din.length = a.din.length ∧
      ∀ k d, a.din[k]? = some d → ∃ z, y.aio.din[k]? = some z ∧ z.raw = (bits levels k 1 == 1) ∧ (z.raw = d.raw → z.since = d.since) ∧ (z.raw ≠ d.raw → z.since = t) ∧
        z.filt = (if z.raw ≠ d.filt ∧ diFilter cfg k * 100000 ≤ t - z.since then z.raw else d.filt)) ∧
    (∀ d, a.dout[ch]? = some d → ∃ y, exec (.doTripRetry t ch) s = .next y ∧
      Calm [] { s with aio := { a with dout := a.dout.set ch { d with tripped := d.tripped && decide (t - d.tripAt < 1000000000) } } } y) ∧
    ∀ rq : Rq,
      let kind := getU8 rq.payload 0
      let n := getU8 rq.payload 1
      let act := getU8 rq.payload 2
      (∀ c, c ∈ [Instr.aioFilterSetStop rq, .aioFilterSetLoad rq, .aioFilterSetStart rq] →
        (n ≠ 1 ∨ s.groupRuns kind = false → Waits c 0xC0 rq s s.cfg.hash []) ∧ (n = 1 → s.groupRuns kind = true → Refuses c 0xC0 rq s 0x09)) ∧
      ∀ c, c ∈ [Instr.aioCalPoint1 rq, .aioCalPoint2 rq, .aioCalCommit rq, .aioCalFactory rq] →
        (calExists kind n = true → act = 3 ∨ act = 2 ∧ (calSolve a kind (n - 1)).isSome = true → Waits c 0xC1 rq s s.cfg.hash []) ∧
        (act = 2 → (calSolve a kind (n - 1)).isNone = true → Refuses c 0xC1 rq s 0x09) ∧
        (calExists kind n = true → act ≤ 1 → kind = 0 → aioActive cfg a (n - 1) = true → Accepts c 0xC1 rq s (fun o =>
          { s with aio := { a with runs := a.runs ++ [⟨0, n - 1, o.id, act == 1, 0, 0, calRef (aiRange cfg (n - 1)) (getS32 rq.payload 4)⟩] } }) []) ∧
        (calExists kind n = true → act ≤ 1 → kind = 2 → s.ctl.mode = 0 → s.red.token = true → Accepts c 0xC1 rq s (fun o =>
          { s with aio := { a with runs := a.runs ++ [⟨2, n - 1, o.id, act == 1, 0, 0, calOutRef (act == 1)⟩] } }) []) ∧
        (∀ v, calExists kind n = true → act ≤ 1 → kind = 1 → aioActive cfg a (32 + (n - 1)) = true → v = s.calReference 1 (n - 1) (act == 1) (getS32 rq.payload 4) →
          Accepts c 0xC1 rq s (fun o => { s with aio := { a with runs := a.runs ++ [⟨1, n - 1, o.id, act == 1, 0, 0, v⟩] } }) []) ∧
        (act ≤ 1 → kind = 0 ∧ aioActive cfg a (n - 1) = false ∨ kind = 1 ∧ aioActive cfg a (32 + (n - 1)) = false ∨
          kind = 2 ∧ (s.ctl.mode ≠ 0 ∨ s.red.token = false) → Refuses c 0xC1 rq s 0x09) ∧
        (calExists kind n = false ∨ 3 < act → Refuses c 0xC1 rq s 0x09)

/-! The Logic Engine (chapter 15). -/

/-- LOGIC_CYCLE runs the program of a logic tick once, 0.1 ms after it (R378), and reports its overrun; LOGIC_CYCLE_COMPLETE notes the end and releases the
set that waits for it (R380). What a release carries (R379, R380). The opcodes of the engine (R384, R385, R387, R389). -/
def Obligations.LogicEngine : Prop :=
  ∀ (s : State) (t : Nat),
    let cfg := s.cfg.active
    let g := s.lgc
    let per := lgcPeriod cfg * s.cyc.pms * 1000000
    let lgcRegs := [Reg.lgcStatus, Reg.lgcIdle, Reg.lgcCntCycles, Reg.lgcCntOvr, Reg.lgcCntSkip, Reg.lgcCntArith, crcAt Reg.crcCtrl 3, crcAt Reg.crcValue 3,
      crcAt Reg.crcDmaSrc 3, crcAt Reg.crcDmaLen 3, crcAt Reg.crcStat 3]
    let shown := fun (x : State) (y : LgcSnap) =>
      { y with
        least := bits (x.reg Reg.lgcIdle) 16 16
        counts := (List.range 6).map (fun k => x.reg (Reg.lgcCntCycles + 4 * k)) }
    (Cycling s → s.cyc.img.lgcStart.isSome = true → g.lastTick ≠ s.cyc.img.lgcStart → s.phaseAt 0 + 100000 ≤ t → lgcState cfg = 2 →
      isLogicTick cfg s.cyc.pms (roundMs s.cyc.tickV) = true → g.nextStart ≤ s.agreedTick → (∀ c, g.cur = some c → c.complete = true) →
      ∃ x c, exec (.logicCycle t) s = .next x ∧ x.lgc.num = (if g.first then 1 else g.num + 1) ∧ x.lgc.lastTick = some s.agreedTick ∧
        x.lgc.lastNum = s.cyc.number ∧ x.lgc.first = false ∧ x.lgc.pending = [] ∧ x.lgc.cur = some c ∧ c.start = s.agreed t ∧ c.complete = false ∧
        c.tc = s.agreedTick + 100000 + c.cost ∧ (lgcOver cfg = false → 1000 + 16 * g.pending.length ≤ c.cost) ∧
        c.snap.num = x.lgc.num ∧ c.snap.out = x.lgc.out ∧ c.snap.data = x.lgc.data ∧ c.snap.consts = x.lgc.consts ∧
        x.lgc.relOut = g.relOut ∧ x.lgc.rel = g.rel ∧ s.agreedTick + per ≤ x.lgc.nextStart ∧
        x.reg Reg.lgcCntCycles = (s.reg Reg.lgcCntCycles + 1) % 2 ^ 32 ∧
        (s.agreedTick + per < c.tc + s.cyc.pms * 200000 → Latched x 93 ∧ bits (x.reg Reg.lgcStatus) 0 1 = 1) ∧ Calm lgcRegs { s with lgc := x.lgc } x) ∧
    (∀ (gap : Bool) (x : Nat), g.first = false → g.lastTick = some x →
      lgcDt s.agreedTick s.cyc.number s.cyc.pms gap g = (if gap then s.cyc.pms * 1000000 * (s.cyc.number - g.lastNum) else s.agreedTick - x)) ∧
    (lgcState cfg ≠ 2 → ∃ x, exec (.logicCycle t) s = .next x ∧ Calm [] s x) ∧
    (∀ c, g.cur = some c → c.complete = false → s.cyc.pendingSet = none →
      ∃ x, exec (.logicCycleComplete t) s = .next x ∧ x.lgc.cur = some { c with complete := true, snap := shown x c.snap } ∧
        x.lgc.exec = satN 16 ((s.agreed t - c.start) / 1000) ∧ (c.guard = true → Latched x 97 ∧ s.agreed t < x.lgc.nextStart) ∧
        Calm [Reg.lgcStatus, Reg.lgcExec, Reg.lgcCntGuard] { s with lgc := { g with cur := x.lgc.cur, exec := x.lgc.exec, nextStart := x.lgc.nextStart } } x) ∧
    (∀ c o, g.cur = some c → c.complete = false → s.cyc.pendingSet = some o → t ≤ s.outDeadline → s.cyc.ph.deadline = false → s.grouped = false →
      ∃ x, exec (.logicCycleComplete t) s = .next x ∧ x.cyc.released = true ∧ x.cyc.relAt = t ∧ x.cyc.pendingSet = none ∧
        x.cyc.buf = { o with logic := x.lgc.relOut } ∧
        (g.zeroDue = false → c.tc ≤ s.logicDeadline → x.lgc.relOut = c.snap.out ∧ x.lgc.rel = shown x c.snap) ∧
        Calm [Reg.lgcStatus, Reg.lgcExec, Reg.lgcCntGuard]
          { s with lgc := x.lgc, cyc := { s.cyc with buf := x.cyc.buf, released := true, relAt := t, pendingSet := none } } x) ∧
    (∀ (y : Lgc) (c : LgcCur) (d : Nat), y.zeroDue = false → y.cur = some c →
      (d < c.tc → (lgcRelease t d y).2 = false ∧ (lgcRelease t d y).1.cur = some c ∧ (y.held = none → (lgcRelease t d y).1 = y)) ∧
      (c.tc ≤ d → c.complete = false → (lgcRelease t d y).2 = true ∧ (lgcRelease t d y).1.cur = some { c with guard := true } ∧
        (y.held = none → (lgcRelease t d y).1.relOut = y.relOut))) ∧
    ∀ rq : Rq,
      let p := rq.payload
      let a := getU8 p 0
      let o := getU32 p 4
      let n := getU16 p 8
      (∀ c, c ∈ [Instr.lgcLoadImageBegin rq, .lgcLoadImageData rq, .lgcLoadImageInstall rq] →
        (a = 0 → Replies c 0x60 rq s 0 (u32 0) (fun _ => { s with lgc := { g with buf := [], bufSize := some o, bufCrc := getU32 p 8 } }) []) ∧
        (a = 1 → Replies c 0x60 rq s 0 (u32 (lgcData g o (p.drop 12)).buf.length) (fun _ => { s with lgc := { g with buf := (lgcData g o (p.drop 12)).buf } }) []) ∧
        (a = 2 → lgcInstallCheck (lgcState cfg) g = none → Waits c 0x60 rq s s.cfg.hash []) ∧
        (∀ k w h au, Admitted s 0x60 rq w h au → a = 2 → lgcInstallCheck (lgcState cfg) g = some k →
          ∃ x, exec c s = .next x ∧ Replied s x 0x60 rq au 0x09 [] ∧ Latched x 95 ∧ bits (x.reg Reg.lgcStatus) 3 1 = 1 ∧
            Served [Reg.lgcStatus] (s.cnt (fun n => { n with refused := satInc n.refused })) x) ∧
        (2 < a → Refuses c 0x60 rq s 0x09)) ∧
      (lgcState cfg = 1 → Waits (.lgcStart rq) 0x61 rq s s.cfg.hash []) ∧ (lgcState cfg ≠ 1 → Refuses (.lgcStart rq) 0x61 rq s 0x09) ∧
      (lgcState cfg = 2 → Waits (.lgcStop rq) 0x62 rq s s.cfg.hash []) ∧ (lgcState cfg ≠ 2 → Refuses (.lgcStop rq) 0x62 rq s 0x09) ∧
      (lgcState cfg = 2 → (lgcTarget cfg a (getU8 p 1) o (getU32 p 8)).isSome = true → Waits (.lgcSetValue rq) 0x63 rq s 0 []) ∧
      (lgcState cfg ≠ 2 ∨ (lgcTarget cfg a (getU8 p 1) o (getU32 p 8)).isNone = true → Refuses (.lgcSetValue rq) 0x63 rq s 0x09) ∧
      (lgcState cfg ≠ 0 → a ≤ 4 → n % 4 = 0 → 4 ≤ n → n ≤ 1024 → o + n ≤ lgcRegionSize cfg a →
        Replies (.lgcGetValue rq) 0x64 rq s 0 (u64 g.rel.num ++ lgcRegionBytes cfg g.rel a o n) (fun _ => s) []) ∧
      (lgcState cfg = 0 ∨ 4 < a ∨ n % 4 ≠ 0 ∨ n < 4 ∨ 1024 < n ∨ lgcRegionSize cfg a < o + n → Refuses (.lgcGetValue rq) 0x64 rq s 0x09) ∧
      (lgcInstalled cfg = true → Replies (.lgcGetStatus rq) 0x65 rq s 0
        (u8 (lgcState cfg) ++ u8 (lgcPeriod cfg) ++ u16 0 ++ u32 (lgcProgramId cfg) ++ u32 (lgcCrc cfg) ++ u32 (lgcNInst cfg) ++ u32 g.rel.cost ++ u64 g.rel.num ++
          u32 g.rel.idle ++ u32 g.rel.least ++ u32 g.rel.carried ++ u32 g.rel.notCarried ++
          (List.range 6).flatMap (fun k => u32 (g.rel.counts.getD k 0))) (fun _ => s) []) ∧
      (lgcInstalled cfg = false → Replies (.lgcGetStatus rq) 0x65 rq s 0
        (u8 (lgcState cfg) ++ u8 0 ++ u16 0 ++ u32 0 ++ u32 0 ++ u32 0 ++ u32 g.rel.cost ++ u64 g.rel.num ++ u32 g.rel.idle ++
          u32 g.rel.least ++ u32 g.rel.carried ++ u32 g.rel.notCarried ++
          (List.range 6).flatMap (fun k => u32 (g.rel.counts.getD k 0))) (fun _ => s) [])

/-! The safety functions (chapter 16). -/

/-- SAF_INPUT_SAMPLE takes the levels of every input and judges demand and faults by its mode (R395, R396). SAF_CYCLE evaluates the functions by Table 16.2, the
outputs by R399 and the masks by R400, checks readbacks, configuration and its own length (R403, R404) and applies a committed configuration (R408, R409).
SAF_TELEGRAM and SAF_TELEGRAM_RX carry the masks (R401); the tests of R403; the session's and the lockout's end (R407). -/
def Obligations.SafetyEvaluator : Prop :=
  ∀ (s : State) (t : Nat),
    let a := s.saf
    let halted := fun (x : State) =>
      x.saf.intFlt = true ∧ x.saf.so = 0 ∧ x.saf.masks = masksAll ∧ (∀ f ∈ x.saf.fns, f.state = 0) ∧ Latched x 103 ∧
        Calm [Reg.safCntDemand, Reg.safCntOutflt] { s with saf := { a with
          intFlt := true
          so := 0
          masks := masksAll
          fns := x.saf.fns
          soFlt := x.saf.soFlt
          dev := x.saf.dev
          evald := x.saf.evald } } x
    (∀ levels tp i z lv, i < 8 → a.si[i]? = some z → lv = s.siLevels levels →
      ∃ x y, exec (.safInputSample t levels tp) s = .next x ∧ x.saf.si[i]? = some y ∧ y.a = (bits lv (2 * i) 1 == 1) ∧ y.b = (bits lv (2 * i + 1) 1 == 1) ∧
        (s.sup.auxS.valid = true → lv = levels) ∧ (s.sup.auxS.valid = false → siMode a.cfg (i + 1) = 1 ∨ siMode a.cfg (i + 1) = 2 → y.a = false ∧ y.b = false) ∧
        (siMode a.cfg (i + 1) = 0 → y.demand = false) ∧
        (siMode a.cfg (i + 1) = 1 → bits tp 0 2 = 0 → (y.shown = true ↔ y.a = false ∨ y.b = false)) ∧
        (siMode a.cfg (i + 1) = 2 → bits tp 0 2 = 0 → (y.shown = true ↔ y.a = false ∨ y.b = true)) ∧
        (siMode a.cfg (i + 1) = 3 → (y.shown = true ↔ (y.a = false ∧ ∃ u, z.lowA = some u ∧ u + 1000000 < t) ∨ (y.b = false ∧ ∃ u, z.lowB = some u ∧ u + 1000000 < t))) ∧
        (siMode a.cfg (i + 1) ≠ 0 → y.demand = (if siFilter a.cfg (i + 1) * 1000000 ≤ t - y.since then y.shown else z.demand)) ∧
        (siMode a.cfg (i + 1) = 1 → bits z.tp 0 1 = 1 → bits tp 0 1 = 0 → bits z.sawLow 0 1 = 0 → siFault y = true) ∧
        (z.short = 0 → y.short ≠ 0 → Latched x 101 ∧ Present x 101 (4 * (i + 1) + 1)) ∧
        (z.disc = true → y.disc = false → Latched x 101 ∧ ¬ Present x 101 (4 * (i + 1) + 2)) ∧ Calm [Reg.safCntInflt] { s with saf := { a with si := x.saf.si } } x) ∧
    (∀ m : SafMeas,
      let matched := ∀ j, j < 8 → bits m.rb j 1 = bits a.so (j / 2) 1
      let named := fun (k f : Nat) => fnType a.cfg k ≠ 0 ∧ bits (fnSo a.cfg k) f 1 = 1
      (a.pend = none → a.intFlt = false → a.fns.length = 8 → s.sup.auxS.valid = true → matched → m.cfgOk = true → m.dur ≤ 1100000 →
        ∃ x, exec (.safCycle t m) s = .next x ∧ x.saf.evald = true ∧
          (∀ f, f < 4 → (bits x.saf.so f 1 = 1 ↔
            (∃ k, k < 8 ∧ named k f) ∧ (∀ k, k < 8 → named k f → (x.saf.fns.getD k {}).state = 2) ∧ bits a.soFlt f 1 = 0)) ∧
          (∀ i, i < 24 → (bits x.saf.masks.thr i 1 = 1 ↔ ∃ k, k < 8 ∧ fnType a.cfg k ≠ 0 ∧ (x.saf.fns.getD k {}).state ≠ 2 ∧ bits (fnThr a.cfg k) i 1 = 1)) ∧
          (∀ i, i < 16 → (bits x.saf.masks.ao i 1 = 1 ↔ ∃ k, k < 8 ∧ fnType a.cfg k ≠ 0 ∧ (x.saf.fns.getD k {}).state ≠ 2 ∧ bits (fnAo a.cfg k) i 1 = 1)) ∧
          (∀ i, i < 24 → (bits x.saf.masks.dout i 1 = 1 ↔ ∃ k, k < 8 ∧ fnType a.cfg k ≠ 0 ∧ (x.saf.fns.getD k {}).state ≠ 2 ∧ bits (fnDo a.cfg k) i 1 = 1)) ∧
          (∀ i, i < 64 → (bits (x.saf.masks.stn0 + 2 ^ 32 * x.saf.masks.stn1) i 1 = 1 ↔
            ∃ k, k < 8 ∧ fnType a.cfg k ≠ 0 ∧ (x.saf.fns.getD k {}).state ≠ 2 ∧ bits (fnStn a.cfg k) i 1 = 1)) ∧
          (∀ k f, a.fns[k]? = some f → ∃ g, x.saf.fns[k]? = some g ∧
            let used := fnType a.cfg k ≠ 0
            let hit := ∃ i ∈ fnInputs a.cfg k, siFault (safSi a i) = true
            let demand := ∃ i ∈ fnInputs a.cfg k, (safSi a i).demand = true
            let near := ((safSi a (fnSiA a.cfg k)).clearAt : Int) - (safSi a (fnSiB a.cfg k)).clearAt
            let r := fnResetFn a.cfg k
            (¬ used → g = f) ∧ (used → hit → g.state = 3) ∧ (used → ¬ hit → f.state = 3 → g.state = 0) ∧ (used → ¬ hit → f.state = 2 → demand → g.state = 0) ∧
            (used → ¬ hit → f.state = 2 → ¬ demand → g.state = 2) ∧ (used → isTwoHand a.cfg k = false → ¬ hit → f.state = 1 → demand → g.state = 0) ∧
            (used → isTwoHand a.cfg k = false → ¬ hit → f.state = 0 → demand → g.state = 0) ∧
            (used → isTwoHand a.cfg k = false → ¬ hit → f.state = 0 → ¬ demand → fnReset a.cfg k ≤ 2 → g.state = (if fnReset a.cfg k = 0 then 2 else 1)) ∧
            (used → isTwoHand a.cfg k = false → ¬ hit → f.state = 1 → ¬ demand → fnReset a.cfg k = 2 → isTwoHand a.cfg r = true →
              (a.fns.getD r {}).state ≠ 2 → (x.saf.fns.getD r {}).state = 2 → g.state = 2) ∧
            (isTwoHand a.cfg k = true → ¬ hit → f.state = 0 →
              (g.state = 2 ↔ f.armed = true ∧ ¬ demand ∧ near ≤ 500000000 ∧ -500000000 ≤ near)) ∧
            (g.state ≠ f.state → Latched x 100)) ∧
          Calm [Reg.safCntDemand] { s with saf := { a with
            fns := x.saf.fns
            so := x.saf.so
            masks := x.saf.masks
            evald := true } } x) ∧
      (a.pend = none → a.intFlt = false → s.sup.auxS.valid = false → m.cfgOk = true → m.dur ≤ 1100000 →
        ∃ x, exec (.safCycle t m) s = .next x ∧ x.saf.so = 0 ∧ Calm [Reg.safCntDemand] { s with saf := { a with
          fns := x.saf.fns
          so := 0
          masks := x.saf.masks
          evald := true } } x) ∧
      (a.pend = none → a.intFlt = true → ∃ x, exec (.safCycle t m) s = .next x ∧ x.saf.so = 0 ∧ x.saf.masks = masksAll ∧ x.saf.fns = a.fns ∧
        Calm [Reg.safCntOutflt] { s with saf := { a with
          so := 0
          soFlt := x.saf.soFlt
          masks := masksAll
          evald := true } } x) ∧
      (a.pend = none → a.intFlt = false → m.cfgOk = false ∨ 1100000 < m.dur → ∃ x, exec (.safCycle t m) s = .next x ∧ halted x) ∧
      (∀ j, a.pend = none → s.sup.auxS.valid = true → j < 8 → bits m.rb j 1 ≠ bits a.so (j / 2) 1 → bits a.soFlt (j / 2) 1 = 0 →
        ∃ x, exec (.safCycle t m) s = .next x ∧ Latched x 102 ∧ bits x.saf.soFlt (j / 2) 1 = 1 ∧ bits x.saf.so (j / 2) 1 = 0) ∧
      ∀ p : SafPend, a.pend = some p →
        ∃ x, exec (.safCycle t m) s = .next x ∧ x.saf.cfg = p.bytes ∧ x.saf.pend = none ∧ x.saf.so = 0 ∧ (∀ f ∈ x.saf.fns, f.state = 0) ∧ Latched x 106 ∧
          x.reg Reg.safCntCommit = (s.reg Reg.safCntCommit + 1) % 2 ^ 32 ∧ x.saf.staging = a.staging ∧ x.saf.sessions = a.sessions ∧ x.saf.pws = a.pws ∧
          x.saf.log = ((u32 (a.logSeq + 1) ++ [1#8, byteOf p.slot, byteOf s.logFlags, 0#8] ++ u64 (s.vessel t) ++ u32 (crc32c a.cfg) ++
            u32 (crc32c p.bytes)) :: a.log).take 256 ∧
          (∀ o, s.opn? p.id = some o → s.chan.ready = true →
            ∀ d ∈ o.srcs, ∀ y ∈ s.partsOf o 0 (u32 (crc32c a.cfg) ++ u32 (crc32c p.bytes)), Out.udp (s.ownIp d.portB) 22480 d ipHdr y ∈ x.out) ∧
          Served [Reg.safCntCommit] { s with saf := x.saf } x) ∧
    (∃ x, exec (.safTelegram t) s = .next x ∧ Calm [] { s with saf := { a with sent := if a.evald then a.masks else {} } } x) ∧
    (∀ k c, a.cons[k]? = some c →
      (c.failed = false → ∃ x, exec (.safTelegramRx t k true) s = .next x ∧
        Calm [] { s with saf := { a with cons := a.cons.set k ⟨a.sent, 0, satN 8 (c.good + 1), false⟩ } } x) ∧
      (c.failed = true → c.good < 2 → ∃ x, exec (.safTelegramRx t k true) s = .next x ∧
        Calm [] { s with saf := { a with cons := a.cons.set k { c with good := c.good + 1, bad := 0 } } } x) ∧
      (c.failed = true → 2 ≤ c.good → ∃ x, exec (.safTelegramRx t k true) s = .next x ∧ Latched x 104 ∧ ¬ Present x 104 k ∧
        Calm [] { s with saf := { a with cons := a.cons.set k ⟨a.sent, 0, satN 8 (c.good + 1), false⟩ } } x) ∧
      (c.bad < 2 → ∃ x, exec (.safTelegramRx t k false) s = .next x ∧ x.reg Reg.safCntLink = (s.reg Reg.safCntLink + 1) % 2 ^ 32 ∧
        Calm [Reg.safCntLink] { s with saf := { a with cons := a.cons.set k { c with bad := c.bad + 1, good := 0 } } } x) ∧
      (c.failed = false → 2 ≤ c.bad → ∃ x, exec (.safTelegramRx t k false) s = .next x ∧ Latched x 104 ∧ Present x 104 k ∧
        Calm [Reg.safCntLink] { s with saf := { a with cons := a.cons.set k ⟨masksAll, satN 8 (c.bad + 1), 0, true⟩ } } x)) ∧
    (∀ f low ok, f < 4 →
      (bits a.so f 1 = 0 ∨ ok = true ∨ s.sup.auxS.valid = false → ∃ x, exec (.safOutputTest t f low ok) s = .next x ∧ Calm [] s x) ∧
      (bits a.so f 1 = 1 → ok = false → s.sup.auxS.valid = true → bits a.soFlt f 1 = 0 → ∃ x, exec (.safOutputTest t f low ok) s = .next x ∧ Latched x 102 ∧
        x.reg Reg.safCntOutflt = (s.reg Reg.safCntOutflt + 1) % 2 ^ 32 ∧
        Calm [Reg.safCntOutflt] { s with saf := { a with
          soFlt := setBit a.soFlt f true
          so := setBit a.so f false } } x)) ∧
    (∀ n, 4500000 ≤ n → n ≤ 5500000 → ∃ x, exec (.safClockCheck t n) s = .next x ∧
      Calm [] { s with saf := { a with dev := divNearAway (((n : Int) - 5000000) * 10000) 5000000 } } x) ∧
    (∀ n, n < 4500000 ∨ 5500000 < n → a.intFlt = false → ∃ x, exec (.safClockCheck t n) s = .next x ∧ halted x) ∧
    (∃ x, exec (.safMemoryTest t true) s = .next x ∧ Calm [] s x) ∧
    (a.intFlt = false → ∃ x, exec (.safMemoryTest t false) s = .next x ∧ halted x ∧ x.saf.dev = a.dev) ∧
    (∀ z ∈ a.sessions, z.last + 600000000000 ≤ t → ∃ x, exec (.safSessionTimeout t) s = .next x ∧ Latched x 105 ∧
      Calm [] { s with saf := { a with sessions := a.sessions.filter (fun y => decide (t - y.last < 600000000000)) } } x) ∧
    (∀ u, a.lockUntil = some u →
      (u ≤ t → ∃ x, exec (.safLockoutEnd t) s = .next x ∧ Calm [] { s with saf := { a with lockUntil := none } } x) ∧
      (t < u → ∃ x, exec (.safLockoutEnd t) s = .next x ∧ Calm [] s x))

/-- SAF_LOGIN's three actions (R407), SAF_CFG_WRITE and SAF_CFG_COMMIT (R408), SAF_GET_LOG and SAF_RESET_FUNCTION (R410). Each first ends the sessions whose
600 s have passed and refreshes the host's own, also where it is refused. -/
def Obligations.SafetyRequests : Prop :=
  ∀ (s : State) (rq : Rq) (w : Ident) (h : HostRec) (au : Bool),
    let a := s.saf
    let live := a.sessions.filter (fun y => decide (rq.t - y.last < 600000000000))
    let b : Saf := { a with sessions := live.map (fun y => if y.ident == w then { y with last := rq.t } else y) }
    let p := rq.payload
    let slot := getU8 p 0
    let act := getU8 p 1
    let target := getU8 p 2
    let pw := pwText (slice p 4 8)
    let prior := a.fails.filter (fun x => decide ((rq.t : Int) - x ≤ 60000000000))
    let ofs := getU16 p 0
    let n := getU16 p 2
    let f := a.fns.getD slot {}
    let declined := fun (c : Instr) (op code : Nat) (u : Saf) => Admitted s op rq w h au →
      ∃ x, exec c s = .next x ∧ Replied s x op rq au code [] ∧ Served [] (State.cnt { s with saf := u } (fun n => { n with refused := satInc n.refused })) x
    (∀ c, c ∈ [Instr.safLoginLogin rq, .safLoginLogout rq, .safLoginChangePassword rq] →
      (act = 0 → safLocked rq.t a = true → declined c 0x90 0x0A b) ∧
      (Admitted s 0x90 rq w h au → act = 0 → safLocked rq.t a = false → safPwOk a slot pw = true →
        ∃ x, exec c s = .next x ∧ Replied s x 0x90 rq au 0 (u16 600 ++ zeros 2) ∧ Latched x 105 ∧
          Served [] { s with saf := { a with
            sessions := live.filter (fun y => y.ident != w) ++ [⟨w, slot, rq.t⟩]
            staging := a.cfg } } x) ∧
      (Admitted s 0x90 rq w h au → act = 0 → safLocked rq.t a = false → safPwOk a slot pw = false →
        ∃ x, exec c s = .next x ∧ Replied s x 0x90 rq au 0x0A [] ∧ Latched x 105 ∧ x.reg Reg.safCntLoginfail = (s.reg Reg.safCntLoginfail + 1) % 2 ^ 32 ∧
          x.saf.lockUntil = (if 2 ≤ prior.length then some (rq.t + 60000000000) else a.lockUntil) ∧
          Served [Reg.safCntLoginfail] (State.cnt { s with saf := { b with
            fails := x.saf.fails
            lockUntil := x.saf.lockUntil } } (fun n => { n with refused := satInc n.refused })) x) ∧
      (act = 1 → Admitted s 0x90 rq w h au → ∃ x, exec c s = .next x ∧ Replied s x 0x90 rq au 0 (zeros 4) ∧
        ((safSession b w).isSome = true → Latched x 105) ∧ Served [] { s with saf := { a with sessions := live.filter (fun y => y.ident != w) } } x) ∧
      (∀ z, Admitted s 0x90 rq w h au → act = 2 → safSession b w = some z → z.slot = 0 ∨ z.slot = target → target ≤ 3 → pwValid (slice p 12 8) = true →
        ∃ x, exec c s = .next x ∧ Replied s x 0x90 rq au 0 (u16 600 ++ zeros 2) ∧ Latched x 106 ∧ x.saf.logSeq = a.logSeq + 1 ∧
          x.saf.pws = a.pws.set target (some ⟨Config.salt target (a.pwSet + 1), Config.passwordHash (Config.salt target (a.pwSet + 1)) (pwText (slice p 12 8))⟩) ∧
          x.saf.log = ((u32 (a.logSeq + 1) ++ [2#8, byteOf (z.slot + 16 * target), byteOf s.logFlags, 0#8] ++ u64 (s.vessel rq.t) ++ u32 (crc32c a.cfg) ++
            u32 (crc32c a.cfg)) :: a.log).take 256 ∧
          Served [] { s with saf := { b with
            pws := x.saf.pws
            pwSet := a.pwSet + 1
            log := x.saf.log
            logSeq := x.saf.logSeq } } x) ∧
      (act = 2 → safSession b w = none ∨ (∃ z, safSession b w = some z ∧ z.slot ≠ 0 ∧ z.slot ≠ target) → declined c 0x90 0x0A b) ∧
      (∀ z, act = 2 → safSession b w = some z → z.slot = 0 ∨ z.slot = target → 3 < target ∨ pwValid (slice p 12 8) = false → declined c 0x90 0x09 b) ∧
      (2 < act → declined c 0x90 0x09 b)) ∧
    (Admitted s 0x91 rq w h au → (safSession b w).isSome = true → ofs + n ≤ 512 →
      ∃ x, exec (.safCfgWrite rq) s = .next x ∧ Replied s x 0x91 rq au 0 [] ∧
        Served [] { s with saf := { b with staging := a.staging.take ofs ++ slice p 4 n ++ a.staging.drop (ofs + n) } } x) ∧
    (safSession b w = none → declined (.safCfgWrite rq) 0x91 0x0A b ∧ declined (.safCfgCommit rq) 0x92 0x0A b) ∧
    ((safSession b w).isSome = true → 512 < ofs + n → declined (.safCfgWrite rq) 0x91 0x05 b) ∧
    (∀ z, Admitted s 0x92 rq w h au → safSession b w = some z →
      (getU32 p 0 ≠ crc32c a.staging ∨ s.ctl.mode ≠ 0 → ∃ x, exec (.safCfgCommit rq) s = .next x ∧ Replied s x 0x92 rq au 0x09 [] ∧ Latched x 106 ∧
        Served [] (State.cnt { s with saf := b } (fun n => { n with refused := satInc n.refused })) x) ∧
      (∀ code fn, getU32 p 0 = crc32c a.staging → s.ctl.mode = 0 → safCheck s.cfg.active a.staging = some (code, fn) →
        ∃ x, exec (.safCfgCommit rq) s = .next x ∧ Replied s x 0x92 rq au 0x0E [] ∧ Latched x 106 ∧
          Served [] (State.cnt { s with saf := { b with
            errCode := code
            errFn := fn } } (fun n => { n with refused := satInc n.refused })) x) ∧
      (getU32 p 0 = crc32c a.staging → s.ctl.mode = 0 → safCheck s.cfg.active a.staging = none → a.pend = none →
        ∃ x, exec (.safCfgCommit rq) s = .next x ∧ x.chan.opens = s.chan.opens ++ [requestOf s 0x92 rq w h au] ∧
          Served [] { s with saf := { b with pend := some ⟨a.staging, z.slot, s.chan.nextId⟩ } } x)) ∧
    (Admitted s 0x93 rq w h au → ofs + n ≤ a.log.length → 1 ≤ n → n ≤ 32 →
      ∃ x, exec (.safGetLog rq) s = .next x ∧ Replied s x 0x93 rq au 0 (u16 a.log.length ++ u16 n ++ ((a.log.drop ofs).take n).flatten) ∧
        Served [] { s with saf := b } x) ∧
    (a.log.length < ofs + n ∨ n = 0 ∨ 32 < n → declined (.safGetLog rq) 0x93 0x09 b) ∧
    (Admitted s 0x94 rq w h au → slot ≤ 7 → fnReset a.cfg slot = 1 → f.state = 1 →
      ∃ x, exec (.safResetFunction rq) s = .next x ∧ Replied s x 0x94 rq au 0 (u8 2 ++ zeros 3) ∧ Latched x 100 ∧ Latched x 107 ∧
        Served [] { s with saf := { b with fns := a.fns.set slot { f with state := 2 } } } x) ∧
    (7 < slot ∨ fnReset a.cfg slot ≠ 1 ∨ f.state ≠ 1 → declined (.safResetFunction rq) 0x94 0x09 b)

/-! The redundancy group (chapter 17). -/

/-- What the messages of the redundancy link do at their receiver: a message whose CRC fails is counted and discarded (R417); a record opens the cycle of a
member that follows (R21, R418); compared quantities are judged (R427, R428); a seal is held where its parts agree, else their repair is asked for (R419); a
repair is adopted (R425); verdicts, joins and handovers (R417, R425, R438); heartbeats and their loss (R417, R424, R426, R432). -/
def Obligations.RedundancyLink : Prop :=
  ∀ (s : State) (t : Nat),
    let r := s.red
    let errs := fun (c : Instr) (u : Red) => ∃ x, exec c s = .next x ∧ x.reg Reg.redCntRlerr = (s.reg Reg.redCntRlerr + 1) % 2 ^ 32 ∧
      Calm [Reg.redCntRlerr] { s with red := u } x
    let sent := fun (x : State) (w : RlControl) => s.chan.ready = true → Out.rl (.control ⟨r.modNum, w, true⟩) ∈ x.out
    let joined := fun (x : State) => x.red.join = true ∧ x.red.fit = false ∧ x.red.agreeRun = 0 ∧ x.red.intactRun = 0 ∧ sent x .join ∧
      x.red.role = (if r.role = .standby then .backup else r.role)
    (∀ m, m.crcOk = false → errs (.recordMessage t m) { r with recErr := true }) ∧ (∀ m, m.crcOk = false → errs (.compareMessage t m) r) ∧
    (∀ m, m.crcOk = false → errs (.verdictMessage t m) r) ∧ (∀ m, m.crcOk = false → errs (.sealMessage t m) r) ∧
    (∀ m, m.crcOk = false → errs (.repairMessage t m) r) ∧ (∀ m, m.crcOk = false → errs (.controlMessage t m) r) ∧
    (∀ m, m.crcOk = false → r.size ≠ 0 → r.modNum ≠ 0 → errs (.heartbeatMessage t m) r) ∧
    (∀ m : RlRecord, m.crcOk = true → s.follows = true → m.from_ = s.activeMate → s.inCycle = true → s.cyc.ph.began = false → t ≤ s.cyc.tick + m.pms * 100000 →
      (m.cfgHash = s.cfg.hash → m.acts = [] → s.pers = .native →
        ∃ x, exec (.recordMessage t m) s = .next x ∧ x.cyc.number = m.epoch ∧ x.cyc.tickV = m.tickV ∧ x.cyc.pms = m.pms ∧ x.cyc.tick = s.cyc.tick ∧
          x.cyc.ph.began = true ∧ x.cyc.img = m.img ∧ x.agreedTick = m.tick ∧ x.red.recordShift = t - s.cyc.tick ∧
          (∀ k y, s.alc.secs[k]? = some y → ∃ z, x.alc.secs[k]? = some z ∧ z.inService = (m.img.secs.getD k {}).inService ∧
            z.lostDi = (m.img.secs.getD k {}).lostDi ∧ z.lostChain = (m.img.secs.getD k {}).lostChain ∧ z.clear = (m.img.secs.getD k {}).clear ∧
            (y.inService = true → (m.img.secs.getD k {}).inService = false → Latched x 61 ∧ Present x 61 k)) ∧
          x.red.recErr = (r.recErr || m.repaired) ∧ x.red.role = r.role ∧ x.ctl = s.ctl ∧ x.srv = s.srv ∧ x.cfg = s.cfg ∧ x.lgc = s.lgc ∧ x.saf = s.saf ∧
          x.chan.opens = s.chan.opens) ∧
      (m.cfgHash ≠ s.cfg.hash → m.acts = [] → ∃ x, exec (.recordMessage t m) s = .next x ∧ joined x ∧ x.cyc.ph = s.cyc.ph ∧ Calm [] { s with
        fus := if m.step = 0 then s.fus else fusVesselStep m.step s.fus
        cyc := x.cyc
        red := x.red } x)) ∧
    (s.follows = true → s.inCycle = true → s.cyc.ph.began = false → s.cyc.tick + s.cyc.pms * 100000 ≤ t → s.cyc.unsealed = false →
      ∃ x, exec (.recordTimeout t) s = .next x ∧ joined x ∧ Latched x 113 ∧ x.reg Reg.redCntReclate = (s.reg Reg.redCntReclate + 1) % 2 ^ 32 ∧
        Calm [Reg.redCntReclate] { s with
          cyc := { s.cyc with unsealed := true }
          red := x.red } x) ∧
    (∀ m : RlCompare, m.crcOk = true →
      let theirs := pushMax 32 m r.theirs
      let hs := if m.released = true ∧ (s.peer m.from_).role = .active then some (m.epoch, m.out) else r.heldSet
      (r.own.find? (fun c => c.epoch == m.epoch) = none → ∃ x, exec (.compareMessage t m) s = .next x ∧ Calm [] { s with red := { r with
        theirs := theirs
        heldSet := hs } } x) ∧
      (∀ a, r.own.find? (fun c => c.epoch == m.epoch) = some a → s.mates = [m.from_] → 1 ≤ m.from_ → m.from_ ≤ 3 → r.peers.length = 3 →
        (s.peer m.from_).judged < m.epoch → r.counted < m.epoch → r.repEpoch ≠ m.epoch →
        let skip := a.tlim || m.tlim
        (firstDiff s.cfg.active skip a m = none →
          ∃ x, exec (.compareMessage t m) s = .next x ∧ (x.peer m.from_).judged = m.epoch ∧ (x.peer m.from_).run = 0 ∧ (x.peer m.from_).fault = false ∧
            x.red.agreeRun = r.agreeRun + 1 ∧ x.red.counted = m.epoch ∧ (100 ≤ x.red.agreeRun → x.red.fit = true ∧ x.red.unres = false) ∧
            (skip = true → x.reg Reg.redCntSkiptl = (s.reg Reg.redCntSkiptl + 1) % 2 ^ 32) ∧ Calm [Reg.redCntSkiptl] { s with red := x.red } x) ∧
        (∀ i, firstDiff s.cfg.active skip a m = some i → (s.peer m.from_).run < 2 →
          ∃ x, exec (.compareMessage t m) s = .next x ∧ (x.peer m.from_).judged = m.epoch ∧ (x.peer m.from_).run = (s.peer m.from_).run + 1 ∧
            x.red.agreeRun = 0 ∧ x.red.fit = false ∧ bits (x.reg Reg.redStatus) 0 1 = 1 ∧ ((s.peer m.from_).run = 0 → Latched x 110) ∧
            Calm [Reg.redCntSkiptl, Reg.redStatus, Reg.redCntDiscrep] { s with red := x.red } x))) ∧
    (∀ (m : RlVerdict) (k : Nat), m.crcOk = true → 1 ≤ m.from_ → m.from_ ≤ 3 → r.peers.length = 3 → s.mates.filter (fun j => j != m.from_) = [k] → r.othersAt < m.epoch →
      ∃ x, exec (.verdictMessage t m) s = .next x ∧ (x.peer m.from_).find = m.find ∧ x.red.othersAt = m.epoch ∧
        x.red.others = (if bits m.agree (k - 1) 1 = 1 then 0 else r.others + 1) ∧ Calm [Reg.redStatus, Reg.redCntUnres] { s with red := x.red } x) ∧
    (∀ m : RlSeal, m.crcOk = true →
      (s.follows = false → ∃ x, exec (.sealMessage t m) s = .next x ∧ Calm [] s x) ∧
      (∀ e, s.follows = true → m.gap = false → s.cyc.last = some e → e.number = m.epoch → m.differ = [] → m.sealOk = true →
        ∃ x, exec (.sealMessage t m) s = .next x ∧ x.red.held = m.epoch ∧ x.red.announced = Nat.max r.announced m.epoch ∧
          (r.base = none ∨ m.epoch = r.held + 1 → ∃ b, x.red.base = some b ∧ b.number = m.epoch ∧ b.srv = m.srv ∧ b.out = m.out ∧ b.ctl = e.ctl) ∧
          (r.base.isSome = true → m.epoch ≠ r.held + 1 → x.red.base = r.base) ∧
          Calm [] { s with
            srv := m.srv
            red := { r with
              held := m.epoch
              announced := x.red.announced
              base := x.red.base
              intactRun := x.red.intactRun } } x) ∧
      (∀ e, s.follows = true → m.gap = false → s.cyc.last = some e → e.number ≠ m.epoch →
        ∃ x, exec (.sealMessage t m) s = .next x ∧ sent x (.repair m.epoch ownParts) ∧ Calm [] { s with red := { r with
          announced := Nat.max r.announced m.epoch
          intactRun := 0 } } x)) ∧
    (∀ m : RlRepair, m.crcOk = true →
      (s.follows = false → ∃ x, exec (.repairMessage t m) s = .next x ∧ Calm [] s x) ∧
      (∀ c, s.follows = true → m.ok = false → m.cfg = some c →
        ∃ x, exec (.repairMessage t m) s = .next x ∧ x.cfg.active = c.1 ∧ x.cfg.hashEpoch = c.2 ∧ x.cfg.txns = []) ∧
      (∀ b, s.follows = true → m.ok = false → m.cfg = none → m.buf = some b →
        ∃ x, exec (.repairMessage t m) s = .next x ∧ Calm [Reg.redCntRepair] { s with lgc := { s.lgc with
          buf := b.1
          bufSize := b.2 } } x) ∧
      (s.follows = true → m.ok = false → m.cfg = none → m.buf = none → ∃ x, exec (.repairMessage t m) s = .next x ∧ Calm [Reg.redCntRepair] s x) ∧
      (∀ e, s.follows = true → m.ok = true → m.cfg = none → m.sealed = some e →
        ∃ x, exec (.repairMessage t m) s = .next x ∧ x.red.held = e.number ∧ x.cyc.number = e.number ∧ x.cyc.buf = e.out ∧ x.cfg.active = e.cfg ∧
          (x.agreedTick : Int) = Max.max 0 ((e.tick : Int) + e.ofs) ∧
          (r.base = none ∨ e.number = r.held + 1 → ∃ b, x.red.base = some b ∧ b.number = e.number ∧ b.ctl = e.ctl ∧ b.out = e.out ∧ b.tim = s.tim) ∧
          x.reg Reg.redCntRepair = (s.reg Reg.redCntRepair + m.parts.length) % 2 ^ 32 ∧
          Calm [Reg.redCntRepair] { s with
            cfg := { s.cfg with
              active := e.cfg
              hash := e.cfgHash
              hashEpoch := e.hashEpoch
              origin := e.cfg }
            fus := x.fus
            ctl := e.ctl
            alc := { e.alc with prob := none }
            srv := e.srv
            lgc := { e.lgc with
              cur := none
              held := none
              relAt := none }
            pk := x.pk
            cyc := x.cyc
            red := { r with
              held := e.number
              base := x.red.base
              announced := Nat.max r.announced e.number
              intactRun := x.red.intactRun } } x)) ∧
    (∀ m : RlCtl, m.crcOk = true →
      (m.what = .join → 1 ≤ m.from_ → m.from_ ≤ 3 →
        ∃ x, exec (.controlMessage t m) s = .next x ∧ (r.role = .active → s.chan.ready = true → Out.rl (.repair (s.repairMsg true [1, 2, 3, 4, 5, 6, 7, 8, 9])) ∈ x.out) ∧
          Calm [] { s with red := { r with
            peers := r.peers.set (m.from_ - 1) { s.peer m.from_ with
              run := 0
              prior := 0
              fault := false }
            arb := none } } x) ∧
      (∀ target flags epoch, m.what = .handover target flags epoch → r.role = .active → r.handover = none →
        ∃ x, exec (.controlMessage t m) s = .next x ∧ sent x (.handover target flags s.cyc.number) ∧
          Calm [] { s with red := { r with handover := some ⟨target, bits flags 0 1 == 1, s.cyc.number, r.modNum, none, false, none, false⟩ } } x) ∧
      (∀ epoch parts, m.what = .repair epoch parts → r.role ≠ .active → ∃ x, exec (.controlMessage t m) s = .next x ∧ Calm [] s x) ∧
      (∀ target flags epoch, m.what = .handover target flags epoch → r.role ≠ .active → target ≠ r.modNum →
        ∃ x, exec (.controlMessage t m) s = .next x ∧ Calm [] s x) ∧
      (∀ target flags epoch, m.what = .handover target flags epoch → r.role ≠ .active → target = r.modNum →
        ∃ x h, exec (.controlMessage t m) s = .next x ∧ x.red.handover = some h ∧ h.target = target ∧ h.origin = m.from_ ∧ h.epoch = epoch ∧
          (h.back = true ↔ bits flags 0 1 = 1) ∧ Calm [] { s with red := { r with handover := some h } } x) ∧
      (m.what = .inputs true → ∃ x, exec (.controlMessage t m) s = .next x ∧ Calm [] { s with red := { r with arb := none } } x) ∧
      (∀ result, m.what = .handoverEnd result 0 0 → ∃ x, exec (.controlMessage t m) s = .next x ∧
        Calm [] { s with red := { r with handover := r.handover.map (fun h => { h with result := some result }) } } x)) ∧
    (∀ m : RlBeat, r.size ≠ 0 → r.modNum ≠ 0 → m.crcOk = true →
      (m.group ≠ cfgU16 s.cfg.active 0x0D00 2 → ∃ x, exec (.heartbeatMessage t m) s = .next x ∧ Calm [] s x) ∧
      (m.group = cfgU16 s.cfg.active 0x0D00 2 → m.from_ = r.modNum → r.conflict = false →
        ∃ x, exec (.heartbeatMessage t m) s = .next x ∧ x.red.conflict = true ∧ x.red.role = .none ∧ Latched x 113 ∧ Calm [] { s with red := { r with
          conflict := true
          formUntil := none
          role := .none } } x) ∧
      (m.group = cfgU16 s.cfg.active 0x0D00 2 → m.from_ ≠ r.modNum → 1 ≤ m.from_ → m.from_ ≤ 3 → r.peers.length = 3 →
        ∃ x p, exec (.heartbeatMessage t m) s = .next x ∧ x.red.peers[m.from_ - 1]? = some p ∧ p.present = true ∧ p.role = m.role ∧ p.ready = m.ready ∧
          p.faulted = m.faulted ∧ p.latent = m.latent ∧ p.flags = m.flags ∧ p.lastBeat = t ∧ p.newest = m.newest ∧ p.saved = m.saved ∧ p.pref = m.pref ∧
          ((s.peer m.from_).present = false → (s.peer m.from_).lastBeat ≠ 0 → Latched x 113) ∧
          (m.token = true → s.stored ≠ (m.pers, m.profile) → x.red.role = .none ∧ ((s.peer m.from_).mism = false → Latched x 123)) ∧
          (x.saved = s.saved ∨ x.saved = none) ∧ x.red.token = r.token ∧
          Calm [] { s with
            saved := x.saved
            red := x.red } x)) ∧
    (∀ k p, r.size ≠ 0 → r.handover = none → k ≠ r.modNum → 1 ≤ k → k ≤ 3 → r.peers[k - 1]? = some p → p.present = true →
      p.lastBeat + cfgU8 s.cfg.active 0x0D00 1 * 1000000 ≤ t →
      ∃ x q, exec (.heartbeatLoss t) s = .next x ∧ x.red.peers[k - 1]? = some q ∧ q = { p with present := false } ∧ Latched x 113 ∧ x.red.token = r.token ∧
        Calm [] { s with red := x.red } x)

/-- The token (R420 to R423), taking it (R421, R434), the takeover (R433, R435), the check of the output stage (R437, R438), formation (R424), arbitration
(R429), the output-stage test (R438) and the known-answer tests (R431, R436). The role of a lone module's cycle is its own. -/
def Obligations.RedundancyRoles : Prop :=
  ∀ (s : State) (t : Nat),
    let r := s.red
    let down := match r.base with
      | some e => s.tokenOff.dropActions.adopt e
      | none => s.tokenOff.dropActions
    let stood := { s.tokenOff.red with
      role := if r.faulted then Role.none else .standby
      cause := 0 }
    let fails := fun (x : State) (u : Red) => Latched x 112 ∧ bits (x.reg Reg.redStatus) 2 1 = 1 ∧ x.reg Reg.redCntTkfail = (s.reg Reg.redCntTkfail + 1) % 2 ^ 32 ∧
      Calm [Reg.redStatus, Reg.redCntTkfail] { s with red := { u with
        latent := true
        check := none } } x
    (r.driver = true → r.lastToggle + 20000000 ≤ t →
      (r.size = 0 → ∃ x, exec (.tokenWatchdog t) s = .next x ∧ Calm [] s.tokenOff x) ∧
      (r.size ≠ 0 → ∃ x, exec (.tokenWatchdog t) s = .next x ∧ x.red.token = false ∧ x.red.driver = false ∧ Calm [] { down with red := stood } x)) ∧
    (t < r.lastToggle + 20000000 → ∃ x, exec (.tokenWatchdog t) s = .next x ∧ Calm [] s x) ∧
    (∀ d, r.demandSince = some d → r.driver = true → r.size ≠ 0 →
      (d + 5000000 ≤ t → ∃ x, exec (.demandRelease t) s = .next x ∧ x.red.token = false ∧ x.red.driver = false ∧ Calm [] { down with red := stood } x) ∧
      (t < d + 5000000 → ∃ x, exec (.demandRelease t) s = .next x ∧ Calm [] s x)) ∧
    (∀ d, r.releaseAt = some d → r.token = true → r.size ≠ 0 →
      (d ≤ t → r.handover = none → ∃ x, exec (.tokenRelease t) s = .next x ∧ x.red.token = false ∧ x.aio.drven = false ∧ Calm [] { down with red := stood } x) ∧
      (∀ h, d ≤ t → r.handover = some h → h.origin = r.modNum → h.armed = true → r.cause = 0 → ∃ x, exec (.tokenRelease t) s = .next x ∧ x.red.token = false ∧
        Calm [] { down with red := { stood with readyUntil := some (t + 1000000000) } } x) ∧
      (t < d → ∃ x, exec (.tokenRelease t) s = .next x ∧ Calm [] s x)) ∧
    (∀ idle, s.mayTake t = true → r.elect = false → r.handover = none → 12000000 ≤ idle ∨ r.role = .standby ∧ 2000000 ≤ idle →
      ∃ x, exec (.loopIdleWait t idle) s = .next x ∧ x.red.driver = true ∧ x.red.onAt = some t ∧ x.cyc.buf = s.heldOut ∧
        x.red.cause = (if r.cause = 0 then 1 else r.cause) ∧ Calm [] { s with
          red := x.red
          cyc := { s.cyc with buf := s.heldOut } } x) ∧
    (∀ idle, s.mayTake t = false ∨ idle < 2000000 ∨ r.elect = false ∧ r.handover = none ∧ r.role ≠ .standby ∧ idle < 12000000 →
      ∃ x, exec (.loopIdleWait t idle) s = .next x ∧ Calm [] s x) ∧
    (∀ loop d, r.onAt = some d → r.token = false →
      (60 ≤ loop → t ≤ d + 200000 → ∃ x, exec (.tokenConfirm t loop) s = .next x ∧ Calm [] { s with
        red := { r with
          token := true
          onAt := none
          confirmed := some t
          loop := loop
          lastToggle := t
          lastEdge := t
          idleSince := none
          due := none }
        aio := { s.aio with drven := true }
        cyc := { s.cyc with latched := s.cyc.buf }
        svc := { s.svc with service := false } } x) ∧
      (loop < 60 ∨ d + 200000 < t → r.handover = none → ∃ x, exec (.tokenConfirm t loop) s = .next x ∧
        fails x { r with
          driver := false
          onAt := none
          elect := false
          cause := 0 })) ∧
    (∀ c, r.token = true → r.size ≠ 0 → r.role ≠ .active → r.confirmed = some c → c < t → r.handover = none →
      (r.elect = false → r.base = none → ∃ x, exec (.redTakeover t) s = .next x ∧ x.red.role = .active ∧ x.red.firstOwn = s.cyc.number + 1 ∧ x.red.check = some t ∧
        x.red.token = true ∧ Latched x 108 ∧ Latched x 109 ∧ x.reg Reg.redCntTakeover = (s.reg Reg.redCntTakeover + 1) % 2 ^ 32 ∧
        Calm [Reg.redCntTakeover] { s with
          cyc := { s.cyc with halt := false }
          red := x.red } x) ∧
      (∀ e, r.elect = false → r.base = some e → ∃ x, exec (.redTakeover t) s = .next x ∧ x.red.role = .active ∧ x.cyc.number = e.number + s.missedTicks t e ∧
        x.lgc.taken = true ∧ x.red.firstOwn = x.cyc.number + 1 ∧ x.red.held = x.cyc.number ∧ x.red.check = some t ∧ x.cyc.buf = s.cyc.buf ∧ x.cyc.halt = false ∧ x.cyc.bnds = [] ∧
        x.cfg.active = e.cfg ∧ x.cfg.txns = [] ∧ x.ctl.mode = e.ctl.mode ∧ x.ctl.integ = e.ctl.integ ∧ x.srv.loops = e.srv.loops.map srvTakeover ∧
        x.fld.cmdEpoch = (newer16 (newer16 s.fld.cmdEpoch e.cmdEpoch) s.fld.fwdEpoch + 1) % 65536 ∧ Latched x 108 ∧ Latched x 109 ∧ x.saf = s.saf ∧ x.gns = s.gns ∧
        x.tim = s.tim) ∧
      (r.elect = true → s.clk.start ≠ .warm → ∃ x, exec (.redTakeover t) s = .next x ∧ x.red.role = .active ∧ x.red.firstOwn = s.cyc.number + 1 ∧ x.red.fit = true ∧
        x.red.elect = false ∧ Latched x 108 ∧ Calm [] { s with
          cyc := { s.cyc with halt := false }
          red := x.red } x)) ∧
    (∀ v d, r.check = some d →
      (s.stageFault v = 0 → t < d + 5000000 → ∃ x, exec (.outputStageCheck t v) s = .next x ∧ Calm [] s x) ∧
      (s.stageFault v = 0 → d + 5000000 ≤ t → r.handover = none → ∃ x, exec (.outputStageCheck t v) s = .next x ∧ Calm [] { s with red := { r with check := none } } x) ∧
      (∀ h, s.stageFault v = 0 → d + 5000000 ≤ t → r.handover = some h → h.target = r.modNum → h.result = none → h.back = true →
        ∃ x, exec (.outputStageCheck t v) s = .next x ∧ Latched x 115 ∧ x.red.latent = false ∧ x.red.lastTest = some (s.vessel t) ∧ x.red.testResult = 0 ∧
          (s.chan.ready = true → Out.rl (.control ⟨r.modNum, .handover h.origin 2 s.cyc.number, true⟩) ∈ x.out) ∧ Calm [] { s with red := x.red } x) ∧
      (s.stageFault v ≠ 0 → r.handover = none → ∃ x, exec (.outputStageCheck t v) s = .next x ∧ fails x r)) ∧
    (∀ d, r.formUntil = some d →
      (t < d → ∃ x, exec (.formationTimeout t) s = .next x ∧ Calm [] s x) ∧
      (d ≤ t → s.mayJoin = true → s.activeMate = 0 → r.loop < 60 → flagsFit (s.flagsNow t) = true → (∀ y ∈ s.rivals, ranksBefore s.rank y = true) →
        ∃ x, exec (.formationTimeout t) s = .next x ∧ x.red.elect = true ∧ Calm [] { s with red := { r with
          formUntil := none
          elect := true
          cause := x.red.cause } } x) ∧
      (∀ y ∈ s.rivals, d ≤ t → s.mayJoin = true → s.activeMate = 0 → r.loop < 60 → flagsFit (s.flagsNow t) = true → ranksBefore s.rank y = false →
        ∃ x, exec (.formationTimeout t) s = .next x ∧ x.red.role = .backup ∧ x.red.join = true ∧ x.red.elect = r.elect ∧ x.red.base = none ∧
          (s.chan.ready = true → Out.rl (.control ⟨r.modNum, .join, true⟩) ∈ x.out) ∧ Calm [] { s with red := x.red } x)) ∧
    (∀ differs m e, r.arb = some e → s.mates = [m] → s.flagsNow t &&& r.flags0 = s.flagsNow t → (s.peer m).flags &&& (s.peer m).flags0 = (s.peer m).flags →
      (r.theirArb = none → ∃ x, exec (.arbitrationReplayDone t differs false) s = .next x ∧
        (s.chan.ready = true → Out.rl (.control ⟨r.modNum, .arbitration differs false, true⟩) ∈ x.out) ∧ Calm [] { s with red := { r with ownArb := some (differs, false) } } x) ∧
      (r.theirArb = some (false, false) → differs = true → ∃ x, exec (.arbitrationReplayDone t differs false) s = .next x ∧ x.red.faulted = true ∧ Latched x 110 ∧
        x.red.arb = none ∧ x.red.giveUp = r.token ∧ (r.token = false → x.red.role = .none) ∧ Calm [] { s with red := x.red } x) ∧
      (r.theirArb = some (differs, false) → r.unres = false → ∃ x, exec (.arbitrationReplayDone t differs false) s = .next x ∧ x.red.unres = true ∧ Latched x 111 ∧
        x.red.faulted = r.faulted ∧ Calm [Reg.redCntUnres] { s with red := x.red } x)) ∧
    (r.arb = none → ∀ differs k, ∃ x, exec (.arbitrationReplayDone t differs k) s = .next x ∧ Calm [] s x) ∧
    (r.size ≠ 0 → r.testDue = false → r.lastTest = none ∨ (∃ v, r.lastTest = some v ∧ cfgU16 s.cfg.active 0x0D00 6 * 86400000000000 + v ≤ s.vessel t) →
      ∃ x, exec (.redTest t) s = .next x ∧ Latched x 115 ∧ Calm [] { s with red := { r with
        testDue := true
        testRaised := s.vessel t } } x) ∧
    (∀ v, r.size = 0 ∨ r.lastTest = some v ∧ s.vessel t < v + cfgU16 s.cfg.active 0x0D00 6 * 86400000000000 ∧ v ≤ s.vessel t →
      ∃ x, exec (.redTest t) s = .next x ∧ Calm [] s x) ∧
    (∃ x, exec (.knownAnswerTest t 0) s = .next x ∧ Calm [] s x) ∧
    (∀ f, f ≠ 0 → r.size = 0 → ∃ x, exec (.knownAnswerTest t f) s = .next x ∧ Calm [] { s with
      red := { r with flags := setBits r.flags 4 1 1 }
      clk := { s.clk with resetDue := some ⟨true, t, 2⟩ } } x) ∧
    (∀ f, f ≠ 0 → r.size ≠ 0 → ∃ x, exec (.knownAnswerTest t f) s = .next x ∧ Calm [] { s with red := { r with
      flags := setBits r.flags 4 1 1
      faulted := true
      join := false
      giveUp := r.token
      cause := 3
      role := if r.token then r.role else .none } } x)

/-- RED_GET_STATE, RED_REQUEST_HANDOVER and RED_SET_ROLE_PREF (R439). -/
def Obligations.RedundancyRequests : Prop :=
  ∀ (s : State) (rq : Rq),
    let r := s.red
    let p := getU8 rq.payload 0
    let flags := getU8 rq.payload 1 % 2
    let target := s.handoverTarget p
    let allowed := r.size ≠ 0 ∧ (r.role = .active ∨ r.role = .standby) ∧ s.targetOk rq.t target = true ∧ s.redBusy = false ∧ r.unres = false ∧
      (∀ m ∈ s.mates, (s.peer m).run = 0)
    Replies (.redGetState rq) 0xA0 rq s 0
      ([byteOf (roleCode r.role), byteOf r.modNum, byteOf r.size, byteOf (bits (s.readReg rq.t Reg.redStatus) 8 8)] ++ u32 (s.flagsNow rq.t) ++ u64 r.intact ++
        [0, 1, 2].flatMap (fun m => let w := s.readReg rq.t (Reg.redPeer + 4 * m); [byteOf (w % 4), byteOf (w % 256), 0#8, 0#8] ++ u32 (bits w 8 11)) ++
        u16 (s.readReg rq.t Reg.redTest % 65536) ++ [byteOf (bits (s.readReg rq.t Reg.redTest) 16 8), 0#8]) (fun _ => s) [] ∧
    (p ≤ 3 → Replies (.redSetRolePref rq) 0xA2 rq s 0 [byteOf p, 0#8, 0#8, 0#8] (fun _ => { s with red := { r with pref := p } }) []) ∧
    (3 < p → Refuses (.redSetRolePref rq) 0xA2 rq s 0x09) ∧ (¬ allowed → Refuses (.redRequestHandover rq) 0xA1 rq s 0x09) ∧
    (allowed → ∀ w h au, Admitted s 0xA1 rq w h au → ∃ t, exec (.redRequestHandover rq) s = .next t ∧ Interim s t 0xA1 rq w h au ∧
      Out.rl (.control ⟨r.modNum, .handover target flags s.cyc.number, true⟩) ∈ t.out ∧
      Served [] { s with red := { r with handover := some ⟨target, flags == 1, s.cyc.number, if r.role = .active then r.modNum else s.activeMate,
        some (requestOf s 0xA1 rq w h au).id, false, none, false⟩ } } t)

/-! Starts, resets and moored standby (chapter 20). -/

/-- What a start makes of the module: RESET_START and PERSONALITY_RESTART when their reset is due (R495, R457), POWER_ON and CORE_RESTART (R487, R489, R503),
cold or warm from a sealed epoch; COMMAND_CHANNEL_READY (R62), WARM_RESTART's gap epochs (R490), DP_READY (R487). -/
def Obligations.Starts : Prop :=
  ∀ (s : State) (t : Nat),
    let fresh := fun (a : Mem) => { fusInitial a with satNow := decide ((coefOf a).sats ≠ 0) }
    let begun := fun (x : State) => x.clk.phase = .starting ∧ x.clk.dpReady = false ∧ x.clk.firstTick = false ∧ x.clk.op = 0 ∧ x.chan.ready = false ∧
      x.chan.opens = [] ∧ x.red.token = false ∧ x.red.role = .none ∧ x.mbx = {} ∧ x.svc = {} ∧ x.aio = {} ∧ x.crc = List.replicate 4 {} ∧ x.saf.so = 0 ∧
      x.saf.sessions = [] ∧ x.saf.cfg = s.saf.cfg ∧ x.saf.log = s.saf.log ∧ x.saf.pws = s.saf.pws ∧ x.stored = s.stored ∧ x.fw.preferB = s.fw.preferB ∧
      x.fw.runB = s.fw.preferB
    let cold := fun (x : State) => begun x ∧ x.mono = 0 ∧ x.clk.start = .cold ∧ (x.pers, x.profile) = (s.stored.1, profIn s.stored) ∧ x.chan = {} ∧
      x.cfg.active = s.keptCfg.active ∧ x.cfg.txns = [] ∧ x.ctl = {} ∧ x.alc = {} ∧ x.srv = {} ∧ x.cyc = {} ∧ x.fus = fresh s.keptCfg.active ∧
      x.lgc = lgcStart {} ∧ x.fld = {} ∧ x.pk = {} ∧ x.saf.intFlt = false ∧ x.saf.soFlt = 0 ∧
      ∀ a, a ∉ eventRegs → a ∉ timRegs → a ∉ gnsRegs → a ≠ Reg.clkStatus → (coefOf s.keptCfg.active).sats = 0 ∨ a ≠ Reg.fusStatus ∧ a ≠ Reg.fusCntStsat → a < Reg.recCntDrop ∨ Reg.recCntCoalesce < a → x.reg a = (regDflt a).toNat
    let warm := fun (x : State) (e : Sealed) => begun x ∧ x.clk.start = .warm ∧ x.pers = e.pers ∧ x.profile = e.profile ∧ x.cfg = ⟨e.cfg, e.cfgHash, e.hashEpoch, [], e.cfg⟩ ∧
      x.chan.hosts = warmHosts e.hosts ∧ x.ctl = e.ctl ∧ x.fus = e.fus ∧ x.cyc.number = e.number ∧ x.cyc.buf = e.out ∧ x.cyc.last = some e ∧ x.cyc.good = some e ∧ x.pk = e.pk ∧
      x.lgc = { e.lgc with
        cur := none
        held := none }
    let image := (s.fw.img s.fw.preferB).state = .valid
    (∀ d, s.clk.resetDue = some d → image → d.due ≤ t →
      (d.cause ≠ 1 → d.warm = false ∨ s.cyc.good = none → ∃ x, exec (.resetStart t) s = .next x ∧ cold x ∧ x.saved = s.saved) ∧
      (∀ e, d.cause ≠ 1 → d.warm = true → s.fw.onTrial = false → s.cyc.good = some e → (e.pers, e.profile) = (s.stored.1, profIn s.stored) →
        ∃ x, exec (.resetStart t) s = .next x ∧ warm x e ∧ x.mono = Nat.max s.mono t ∧ x.saved = some e ∧ x.saf.intFlt = (d.cause == 2 && s.saf.intFlt)) ∧
      (d.cause = 1 → d.warm = false → ∃ x, exec (.personalityRestart t) s = .next x ∧ cold x ∧ x.saved = s.saved)) ∧
    (s.clk.resetDue = none → ∀ c, c ∈ [Instr.resetStart t, .personalityRestart t] → ∃ x, exec c s = .next x ∧ Calm [] s x) ∧
    (∀ (c : Instr) (p : PowerOn), c = .powerOn p ∨ c = .coreRestart p ∧ s.clk.phase = .off → image → p.imgOk = true →
      (s.warmFrom p = none → ∃ x, exec c s = .next x ∧ cold x ∧ x.recd.power = s.recd.power + 1 ∧ x.red.modNum = b2n p.mod0 + 2 * b2n p.mod1 ∧
        x.sup.serviceEn = p.serviceEn ∧ x.clk.ref = (if p.extsel = true ∧ p.extOk = true then .ext else .oven) ∧ x.saf.lockUntil = none ∧
        (∀ g, p.gap = some g → x.clk.gapMs = g / 1000000) ∧ (s.clk.rideEnded = true → s.clk.saveOk = false → bits (x.reg Reg.clkStatus) 3 1 = 1)) ∧
      (∀ e g, p.gap = some g → s.saved = some e → g ≤ 10000000000 → s.clk.saveOk = true → (e.pers, e.profile) = (s.stored.1, profIn s.stored) →
        e.cfgHash = s.keptCfg.hash → s.fw.onTrial = false → ∃ x, exec c s = .next x ∧ warm x e ∧ x.mono = e.sealAt + g ∧ x.recd.power = s.recd.power + 1 ∧ x.saf.intFlt = false)) ∧
    (∀ p, s.clk.phase ≠ .off → ∃ x, exec (.coreRestart p) s = .next x ∧ Calm [] s x) ∧
    (s.clk.phase = .starting → s.sup.storeCharged = true → s.clk.start ≠ .warm ∨ s.red.size ≠ 0 → s.fw.rollback = none →
      ∃ x, exec (.commandChannelReady t) s = .next x ∧ x.chan.ready = true ∧ x.clk.phase = .running ∧ x.clk.readyMono = t ∧ x.clk.op = 2 ∧ x.cyc.halt = false ∧
        Latched x 4 ∧ (s.red.size = 0 → x.red.token = true ∧ x.red.driver = true ∧ x.aio.drven = true ∧ x.cyc.latched = s.cyc.buf ∧ x.red.formUntil = none) ∧
        (s.red.size ≠ 0 → s.red.modNum ≠ 0 → x.red.token = s.red.token ∧ x.red.formUntil = some (t + 2000000000)) ∧
        Calm [Reg.clkCntSrcsw, Reg.clkCntOpchg] { s with
          chan := { s.chan with ready := true }
          clk := x.clk
          red := x.red
          aio := x.aio
          cyc := { s.cyc with
            halt := false
            latched := x.cyc.latched } } x) ∧
    (s.clk.phase ≠ .starting ∨ s.sup.storeCharged = false → ∀ c, c ∈ [Instr.commandChannelReady t, .warmRestart t] → ∃ x, exec c s = .next x ∧ Calm [] s x) ∧
    (s.clk.phase = .starting → s.sup.storeCharged = true → s.clk.start = .warm → s.red.size = 0 → roundMs (s.vessel t) % cyclePms s.cfg.active s.pers = 0 → s.fw.rollback = none →
      ∃ x, exec (.warmRestart t) s = .next x ∧ x.chan.ready = true ∧ x.clk.phase = .running ∧ x.red.token = true ∧
        x.cyc.number = s.cyc.number + (t - s.cyc.tick - 500000) / (cyclePms s.cfg.active s.pers * 1000000) ∧
        x.reg Reg.clkCntWarm = (s.reg Reg.clkCntWarm + 1) % 2 ^ 32 ∧ Latched x 4 ∧ x.ctl.mode = s.ctl.mode ∧ x.ctl.integ = s.ctl.integ ∧ x.cyc.buf = s.cyc.buf ∧
        x.srv = s.srv ∧ x.alc = s.alc ∧ x.cfg = s.cfg ∧ x.saf = s.saf ∧ x.chan.hosts = s.chan.hosts) ∧
    (s.clk.dpReady = false → s.inCycle = true → s.cyc.tick = t → s.dpReadyOk = true →
      (s.clk.wakeReq = none → ∃ x, exec (.dpReady t) s = .next x ∧ Latched x 4 ∧ Calm [] { s with clk := { s.clk with
        dpReady := true
        dpReadyMono := t } } x) ∧
      (∀ i o, s.clk.wakeReq = some i → s.opn? i = some o → s.chan.ready = true → ∃ x, exec (.dpReady t) s = .next x ∧ Latched x 4 ∧ x.clk.dpReady = true ∧
        (∀ d ∈ o.srcs, ∀ y ∈ s.partsOf o 0 (u64 s.clk.wakeEpoch ++ u32 (satN 32 ((t - s.clk.wakeAccept) / 1000000)) ++ u32 0),
          Out.udp (s.ownIp d.portB) 22480 d ipHdr y ∈ x.out) ∧ Served [] { s with clk := x.clk } x)) ∧
    (s.clk.dpReady = true ∨ s.dpReadyOk = false → ∃ x, exec (.dpReady t) s = .next x ∧ Calm [] s x)

/-- RESET is answered at once and makes a start due in 100 ms, refused while the token holder may run thrusters unless forced (R495); ENTER_STANDBY and
SELECT_PERSONALITY wait for the tick (R491, R456); WAKE starts the cycle state afresh and keeps configuration and hosts (R493, R494). -/
def Obligations.StartRequests : Prop :=
  ∀ (s : State) (rq : Rq) (w : Ident) (h : HostRec) (au : Bool),
    let k := getU8 rq.payload 0
    (∀ c, c ∈ [Instr.resetCold rq, .resetWarm rq] →
      (s.red.token = true → s.ctl.mode ≠ 0 → rq.force = false → Refuses c 0x03 rq s 0x09) ∧
      (s.red.token = false ∨ s.ctl.mode = 0 ∨ rq.force = true → Admitted s 0x03 rq w h au →
        ∃ t b, exec c s = .next t ∧ WasSent s t 0x03 rq au 0x01 [] ∧ Replied s t 0x03 rq au 0 [byteOf k, 0#8, 0#8, 0#8] ∧ (k = 0 → b = false) ∧ (k = 1 → b = true) ∧
          Served [] { s with clk := { s.clk with resetDue := some ⟨b, rq.t + 100000000, 0⟩ } } t)) ∧
    (s.standbyOk = true → s.red.size = 0 ∨ s.red.role ≠ .none → Waits (.enterStandby rq) 0x06 rq s 0 []) ∧
    (s.standbyOk = true → s.red.size ≠ 0 → s.red.role = .none → Admitted s 0x06 rq w h au →
      ∃ t, exec (.enterStandby rq) s = .next t ∧ WasSent s t 0x06 rq au 0x01 [] ∧ WasSent s t 0x06 rq au 0 (u64 s.cyc.number) ∧ t.clk.phase = .standby ∧
        t.clk.op = 0 ∧ t.clk.firstTick = false ∧ t.clk.sleepMono = rq.t ∧ t.red.token = false ∧ t.aio.running = false ∧ t.cyc.halt = true ∧ t.cfg.txns = [] ∧
        t.reg Reg.clkCntStandby = (s.reg Reg.clkCntStandby + 1) % 2 ^ 32 ∧ Latched t 4) ∧
    (s.standbyOk = false → Refuses (.enterStandby rq) 0x06 rq s 0x09) ∧
    (s.selectOk rq.payload = true → s.active = true → Waits (.selectPersonality rq) 0x08 rq s 0 []) ∧
    (s.selectOk rq.payload = true → s.active = false → Admitted s 0x08 rq w h au →
      ∃ t, exec (.selectPersonality rq) s = .next t ∧ WasSent s t 0x08 rq au 0x01 [] ∧
        Replied s t 0x08 rq au 0 [byteOf k, byteOf (getU8 rq.payload 1), 0#8, 0#8] ∧ Latched t 123 ∧
        Served [] { s with
          stored := (if k = 1 then .pk20 else .native, if getU8 rq.payload 1 = 1 then .extended else .strict)
          clk := { s.clk with resetDue := some ⟨false, rq.t + 100000000, 1⟩ } } t) ∧
    (s.selectOk rq.payload = false → Refuses (.selectPersonality rq) 0x08 rq s 0x09) ∧
    (s.clk.phase ≠ .standby ∨ s.clk.resetDue.isSome = true → Refuses (.wake rq) 0x07 rq s 0x09) ∧
    (s.clk.phase = .standby → s.clk.resetDue = none → s.fw.trialNext = true →
      Accepts (.wake rq) 0x07 rq s (fun _ => { s with clk := { s.clk with resetDue := some ⟨false, rq.t, 3⟩ } }) []) ∧
    (Admitted s 0x07 rq w h au → s.clk.phase = .standby → s.clk.resetDue = none → s.fw.trialNext = false →
      ∃ t, exec (.wake rq) s = .next t ∧ Interim s t 0x07 rq w h au ∧ t.clk.phase = .running ∧ t.clk.start = .wake ∧ t.clk.dpReady = false ∧
        t.clk.wakeReq = some s.chan.nextId ∧ t.clk.op = 2 ∧ Latched t 4 ∧ t.cyc.number = s.cyc.number ∧ t.cyc.buf = {} ∧ t.cyc.halt = false ∧ t.ctl = {} ∧ t.srv = {} ∧
        t.fus = { fusInitial s.cfg.active with satNow := decide ((coefOf s.cfg.active).sats ≠ 0) } ∧ t.aio.running = ({} : Aio).running ∧ t.fld = {} ∧ t.cfg = s.cfg ∧ t.stored = s.stored ∧ t.pers = s.pers ∧ t.saf = s.saf ∧
        t.tim = s.tim ∧ t.mbx = s.mbx ∧ t.fw = s.fw ∧ t.svc = s.svc ∧ t.saved = s.saved ∧ t.chan.results = s.chan.results ∧
        (s.red.size = 0 → t.red.token = true ∧ t.aio.drven = true))

/-! Clocks and supply (chapters 20 and 21). -/

/-- The main reference and its change (R479), the oven's band (R480), the operating point's steps (R482), the step-down (R483), a PLL's loss of lock and its
relocking (R484, R485); the feeds and the ride-through (R499 to R501), its end by expiry or early (R488, R501), the save (R488, R503), auxiliary supplies (R505),
the base plate's temperature (R513), the operating time (R445), the stores (R502, R504). -/
def Obligations.ClocksAndSupply : Prop :=
  ∀ (s : State) (t : Nat),
    let c := s.clk
    let u := s.sup
    let refRegs := [Reg.clkStatus, Reg.clkCntRefsw]
    let changed := fun (x : State) => Latched x 0 ∧ bits (x.reg Reg.clkStatus) 0 1 = 1 ∧ x.reg Reg.clkCntRefsw = (s.reg Reg.clkCntRefsw + 1) % 2 ^ 32
    (∀ new, new = (if c.extsel = true ∧ c.extValid = true then MainRef.ext else .rc) → c.ref = .oven →
      ∃ x, exec (.clkReference t .ovenFailed) s = .next x ∧ changed x ∧ Calm refRegs { s with clk := { c with
        ovenFailed := true
        ref := new
        rcSince := if new = .rc then t else c.rcSince } } x) ∧
    (c.ref ≠ .oven → ∃ x, exec (.clkReference t .ovenFailed) s = .next x ∧ Calm [] { s with clk := { c with ovenFailed := true } } x) ∧
    (∀ new, new = (if c.ovenFailed = true then MainRef.rc else .oven) → c.ref = .ext →
      ∃ x, exec (.clkReference t .extLost) s = .next x ∧ changed x ∧ Calm refRegs { s with clk := { c with
        extValid := false
        ref := new
        rcSince := if new = .rc then t else c.rcSince } } x) ∧
    (c.extsel = true → c.ref ≠ .ext → ∃ x, exec (.extReferenceReturn t) s = .next x ∧ changed x ∧ (c.ref = .oven → x.tim = s.tim) ∧ Calm refRegs { s with
      tim := x.tim
      clk := { c with
        extValid := true
        ref := .ext } } x) ∧
    (c.extsel = false ∨ c.ref = .ext → ∃ x, exec (.extReferenceReturn t) s = .next x ∧ Calm [] { s with clk := { c with extValid := true } } x) ∧
    (∀ khz, c.ref = .rc → 24999 ≤ khz → khz ≤ 25001 → ∃ x, exec (.rcTrim t khz) s = .next x ∧
      Calm [] { s with clk := { c with domains := c.domains.map (fun d => if d.src = 1 then { d with khz := khz } else d) } } x) ∧
    (∀ khz, c.ref ≠ .rc → ∃ x, exec (.rcTrim t khz) s = .next x ∧ Calm [] s x) ∧
    (∀ terr : Int, 100 < terr.natAbs → ∃ x, exec (.clkOscWarm t terr) s = .next x ∧ (c.warm = true → Latched x 3) ∧ Calm [] { s with clk := { c with
      ovenErr := terr
      inBandSince := none
      warm := false } } x) ∧
    (∀ (terr : Int) since, terr.natAbs ≤ 100 → since = c.inBandSince.getD t →
      ∃ x, exec (.clkOscWarm t terr) s = .next x ∧ (c.warm ≠ decide (since + 60000000000 ≤ t) → Latched x 3) ∧ Calm [] { s with clk := { c with
        ovenErr := terr
        inBandSince := some since
        warm := decide (since + 60000000000 ≤ t) } } x) ∧
    (c.op = c.opTarget ∨ c.opFrom = none ∧ s.opMayBegin t = false → ∃ x, exec (.oppointStep t) s = .next x ∧ Calm [] s x) ∧
    (c.op ≠ c.opTarget → c.opFrom.isSome = true ∨ s.opMayBegin t = true → c.domains.length = 6 →
      ∃ x, exec (.oppointStep t) s = .next x ∧ x.clk.op = (if c.op < c.opTarget then c.op + 1 else c.op - 1) ∧
        (∀ d, d < 2 → (s.dom d).src ≠ 0 → x.dom d = domOn x.clk.op d (idlePll (s.dom d))) ∧ (∀ d, 2 ≤ d → x.dom d = s.dom d) ∧
        (x.clk.op = c.opTarget → x.clk.opFrom = none ∧ Latched x 2 ∧ x.reg Reg.clkCntOpchg = (s.reg Reg.clkCntOpchg + 1) % 2 ^ 32) ∧
        (x.clk.op ≠ c.opTarget → x.clk.opFrom = some (c.opFrom.getD c.op)) ∧ Calm [Reg.clkCntSrcsw, Reg.clkCntOpchg] { s with clk := { c with
          op := x.clk.op
          opFrom := x.clk.opFrom
          domains := x.clk.domains } } x) ∧
    (∀ die : Int, 26880 < die → c.throttle = false → ∃ x, exec (.thermalStepdown t die) s = .next x ∧ bits (x.reg Reg.clkStatus) 2 1 = 1 ∧
      x.reg Reg.clkCntThrottle = (s.reg Reg.clkCntThrottle + 1) % 2 ^ 32 ∧ Calm [Reg.clkStatus, Reg.clkCntThrottle] { s with clk := { c with
        dieTemp := die
        throttle := true
        throttleAt := t
        opTarget := if c.phase = .standby then 0 else 1
        opCause := 1 } } x) ∧
    (∀ die : Int, die ≤ 26880 ∨ c.throttle = true → ∃ x, exec (.thermalStepdown t die) s = .next x ∧ Calm [] { s with clk := { c with dieTemp := die } } x) ∧
    (∀ die : Int, die < 24320 → c.throttle = true → c.throttleAt + 60000000000 ≤ t → ∃ x, exec (.thermalRecovery t die) s = .next x ∧ Calm [] { s with clk := { c with
      dieTemp := die
      throttle := false
      opTarget := if c.phase = .standby then 0 else 2
      opCause := 1 } } x) ∧
    (∀ die : Int, 24320 ≤ die ∨ c.throttle = false ∨ t < c.throttleAt + 60000000000 → ∃ x, exec (.thermalRecovery t die) s = .next x ∧
      Calm [] { s with clk := { c with dieTemp := die } } x) ∧
    (∀ d b, d < 5 →
      let z := s.dom d
      let y := z.setLock b false
      let lostRegs := [Reg.clkStatus, Reg.clkCntLocklost, Reg.clkCntSrcsw]
      let lost := fun (x : State) => Latched x 1 ∧ bits (x.reg Reg.clkStatus) 1 1 = 1 ∧ x.reg Reg.clkCntLocklost = (s.reg Reg.clkCntLocklost + 1) % 2 ^ 32
      (z.locked b = false → ∃ x, exec (.clkLock t d b) s = .next x ∧ Calm [] s x) ∧
      (z.locked b = true → z.src ≠ (if b then 3 else 2) → ∃ x, exec (.clkLock t d b) s = .next x ∧ lost x ∧ Calm lostRegs (s.setDom d y) x) ∧
      (d < 2 → z.locked b = true → z.src = (if b then 3 else 2) → y.locked (!b) = true → ∃ x, exec (.clkLock t d b) s = .next x ∧ lost x ∧
        x.reg Reg.clkCntSrcsw = (s.reg Reg.clkCntSrcsw + 1) % 2 ^ 32 ∧ Calm lostRegs (s.setDom d { y with src := if b then 2 else 3 }) x) ∧
      (d < 2 → z.locked b = true → z.src = (if b then 3 else 2) → y.locked (!b) = false → ∃ x, exec (.clkLock t d b) s = .next x ∧ lost x ∧
        Calm lostRegs (s.setDom d { y with
          src := 1
          khz := 25000 }) x) ∧
      (d = 2 → z.locked b = true → z.src = (if b then 3 else 2) → ∃ x, exec (.clkLock t d b) s = .next x ∧ lost x ∧ Calm lostRegs { s.setDom 2 domOff with gns := x.gns } x) ∧
      (d = 3 → z.locked b = true → z.src = (if b then 3 else 2) → ∃ x, exec (.clkLock t d b) s = .next x ∧ lost x ∧ x.fld.linkA = false ∧ x.fld.linkB = false ∧
        Calm (lostRegs ++ chainRegs) { s.setDom 3 domOff with
          fld := x.fld
          red := { s.red with noLink := some (s.red.noLink.getD t) } } x) ∧
      (d = 4 → z.locked b = true → z.src = (if b then 3 else 2) → ∃ x, exec (.clkLock t d b) s = .next x ∧ lost x ∧
        (∀ ch k, ch < 40 → aioActive s.cfg.active s.aio ch = true → x.aio.chans[ch]? = some k → k.new.sig = true) ∧
        Calm (lostRegs ++ [Reg.aioStatus, Reg.aioCntInflt]) { s.setDom 4 domOff with aio := { s.aio with chans := x.aio.chans } } x) ∧
      (d < 2 → z.locked b = false → z.src ≠ 0 → ∃ x, exec (.pllRelock t d b true) s = .next x ∧ Latched x 1 ∧ Calm [] (s.setDom d (z.setLock b true)) x) ∧
      (2 ≤ d → d < 4 → z.locked b = false → ∃ x, exec (.pllRelock t d b true) s = .next x ∧ Latched x 1 ∧ Calm [] (s.setDom d (domOn c.op d 2)) x) ∧
      (∃ x, exec (.pllRelock t d b false) s = .next x ∧ Calm [] s x)) ∧
    (∀ mvA maA mvB maB,
      let v := supSampled t mvA maA mvB maB u
      (c.phase ≠ .off → c.rideMono = none → v.powered = true → ∃ x, exec (.feedSample t mvA maA mvB maB) s = .next x ∧ Calm [] { s with sup := v } x ∧
        (u.feedA.everValid = true → feedValid u.feedA = true → feedValid v.feedA = false → Latched x 5 ∧ Present x 5 0 ∧ v.lossA = satInc u.lossA)) ∧
      (c.phase = .running → c.rideMono = none → u.powered = true → v.powered = false → ∃ x, exec (.feedSample t mvA maA mvB maB) s = .next x ∧ Latched x 6 ∧
        Present x 6 0 ∧ Calm [] { s with
          sup := { v with storeCharged := false }
          clk := { c with rideMono := some (t : Int) } } x) ∧
      (∀ r, c.phase ≠ .off → c.rideMono = some r → v.powered = true → (t : Int) ≤ r + 50000000 → ∃ x, exec (.feedSample t mvA maA mvB maB) s = .next x ∧ Latched x 6 ∧
        ¬ Present x 6 0 ∧ Calm [] { s with
          sup := { v with rideReturn := satInc v.rideReturn }
          clk := { c with rideMono := none } } x)) ∧
    (∀ i r, c.rideMono = some r → i = Instr.storeReserveReached t ∨ i = .rideThroughExpiry t ∧ r + 50000000 ≤ t →
      ∃ x, exec i s = .next x ∧ x.clk.rideMono = none ∧ x.sup = { u with rideOther := satInc u.rideOther } ∧ Latched x 6 ∧ ¬ Present x 6 0 ∧ x.gns.store.isSome = true ∧
        x.cyc.halt = true ∧ (s.inCycle = true → s.cyc.halt = false → s.cyc.ph.began = true → s.cyc.ph.sealed = false → s.cyc.unsealed = false →
          x.clk.phase = .ending ∧ x.red.token = s.red.token) ∧
        (s.inCycle = true → s.cyc.halt = false → s.cyc.ph.sealed = true → x.clk.phase = .saving ∧ x.red.token = false) ∧
        (s.inCycle = false → x.clk.phase = .off ∧ x.clk.saveOk = false ∧ x.chan.ready = false ∧ x.red.token = false) ∧
        x.ctl = s.ctl ∧ x.fus = s.fus ∧ x.alc = s.alc ∧ x.srv = s.srv ∧ x.cfg = s.cfg ∧ x.saf = s.saf ∧ x.cyc.buf = s.cyc.buf) ∧
    (c.rideMono = none → ∀ i, i ∈ [Instr.storeReserveReached t, .rideThroughExpiry t] → ∃ x, exec i s = .next x ∧ Calm [] s x) ∧
    (∀ ok, c.phase = .saving → ∃ x, exec (.saveComplete t ok) s = .next x ∧ Calm [] { s with
      saved := if ok then s.cyc.good else none
      clk := { c with
        phase := .off
        saveOk := ok && s.cyc.good.isSome
        firstTick := false }
      chan := { s.chan with ready := false } } x) ∧
    (∀ ok, c.phase ≠ .saving → ∃ x, exec (.saveComplete t ok) s = .next x ∧ Calm [] s x) ∧
    (∀ a b, ∃ x, exec (.auxSupplySample t a b) s = .next x ∧ Calm [] { s with sup := { u with
        auxS := x.sup.auxS
        auxDo := x.sup.auxDo } } x ∧
      (u.auxS.valid = true → (x.sup.auxS.valid = false ↔ a < 17000 ∧ u.auxS.prevMv < 17000)) ∧
      (u.auxS.valid = false → (x.sup.auxS.valid = true ↔ 18000 ≤ a ∧ u.auxS.above.getD t + 10000000 ≤ t)) ∧
      (u.auxDo.valid = true → (x.sup.auxDo.valid = false ↔ b < 17000 ∧ u.auxDo.prevMv < 17000)) ∧
      (u.auxS.valid = true → x.sup.auxS.valid = false → Latched x 15 ∧ Present x 15 0) ∧ (u.auxDo.valid = true → x.sup.auxDo.valid = false → Latched x 15 ∧ Present x 15 1)) ∧
    (∀ base : Int, ∃ x, exec (.envLimit t base) s = .next x ∧ (17920 < base → u.hot = false → Latched x 15 ∧ Present x 15 2) ∧
      (base ≤ 17920 → u.hot = true → Latched x 15 ∧ ¬ Present x 15 2) ∧ (base < -6400 → u.coldBase = false → Latched x 15 ∧ Present x 15 3) ∧
      (-6400 ≤ base → u.coldBase = true → Latched x 15 ∧ ¬ Present x 15 3) ∧ Calm [] { s with
        clk := { c with baseTemp := base }
        sup := { u with
          hot := decide (17920 < base)
          coldBase := decide (base < -6400) }
        tim := x.tim } x) ∧
    (∃ x, exec (.operatingTimeSave t) s = .next x ∧ Calm [] { s with recd := { s.recd with opNv := recOpTime s.recd t } } x) ∧
    (∃ x, exec (.energyStoreCharged t) s = .next x ∧ Calm [] { s with sup := { u with storeCharged := u.storeCharged || c.rideMono.isNone } } x) ∧
    (∃ x, exec (.aonBackupCharged t) s = .next x ∧ Calm [] { s with sup := { u with aonCharged := true } } x)

/-! Firmware and the service monitor (chapter 22). -/

/-- An update begins, takes its bytes, is verified, started or abandoned (R522, R523), ends after 600 s without an opcode (R522); an image that fails its trial
gives way to the other (R524). -/
def Obligations.FirmwareImages : Prop :=
  ∀ (s : State) (rq : Rq) (t : Nat) (w : Ident) (h : HostRec) (au : Bool),
    let f := s.fw
    let p := rq.payload
    let o := getU32 p 0
    let empty : Img := ⟨.empty, 0, 0, 0, []⟩
    (f.update = none → Replies (.fwUpdateBegin rq) 0xF1 rq s 0 [byteOf (b2n (!f.runB)), byteOf (b2n f.runB), 0#8, 0#8]
      (fun _ => { s with fw := { f.setImg (!f.runB) empty with
        update := some ⟨!f.runB, getU32 p 0, 0, rq.t⟩
        written := [] } }) []) ∧
    (f.update.isSome = true → Refuses (.fwUpdateBegin rq) 0xF1 rq s 0x0D) ∧
    (∀ u given, f.update = some u → given = (p.drop 8).take (u.size - o) →
      ∃ bs, bs.length = given.length ∧
        (∀ i, i < given.length → (∀ y ∈ f.written, o + i < y.1 ∨ y.2 ≤ o + i) ∨ (f.img u.toB).slice (o + i) 1 = [given.getD i 0#8] → bs.getD i 0#8 = given.getD i 0#8) ∧
        ∀ spans, spans = addSpan o (o + given.length) f.written →
          Replies (.fwUpdateData rq) 0xF2 rq s 0 (u32 (spanSize spans))
            (fun _ => { s with fw := { f.setImg u.toB { f.img u.toB with bytes := imgSet (f.img u.toB).bytes o bs } with
              update := some { u with
                held := spanSize spans
                last := rq.t }
              written := spans } }) []) ∧
    (f.update = none → Refuses (.fwUpdateData rq) 0xF2 rq s 0x09) ∧
    (∀ c, c ∈ [Instr.fwUpdateEndVerify rq, .fwUpdateEndVerifyStart rq, .fwUpdateEndAbandon rq] →
      let a := getU8 p 0
      (f.update = none ∨ 2 < a ∨ a = 1 ∧ s.ctl.mode ≠ 0 → Refuses c 0xF3 rq s 0x09) ∧
      (∀ u, f.update = some u → a = 2 → Admitted s 0xF3 rq w h au → ∃ x, exec c s = .next x ∧ WasSent s x 0xF3 rq au 0x01 [] ∧ x.chan.opens = s.chan.opens ∧
        Served [] { s with fw := { f.setImg u.toB empty with
          update := none
          written := [] } } x) ∧
      (∀ u res, f.update = some u → a = 0 ∨ a = 1 ∧ s.ctl.mode = 0 → res = imgVerify u.size u.held (f.img u.toB) → Admitted s 0xF3 rq w h au →
        ∃ x, exec c s = .next x ∧ WasSent s x 0xF3 rq au 0x01 [] ∧
          Replied s x 0xF3 rq au 0 ([byteOf res, byteOf (b2n u.toB), 0#8, 0#8] ++ (f.img u.toB).version) ∧ Latched x 125 ∧ x.fw.update = none ∧
          (x.fw.img u.toB).state = (if res = 0 then .trial else .failed) ∧ (x.fw.img u.toB).bytes = (f.img u.toB).bytes ∧
          x.fw.img (!u.toB) = f.img (!u.toB) ∧ x.fw.preferB = (if res = 0 then u.toB else f.preferB) ∧ x.fw.runB = f.runB ∧
          x.clk.resetDue = (if a = 1 ∧ res = 0 then some ⟨false, rq.t + 100000000, 4⟩ else s.clk.resetDue) ∧ Served [] { s with
            fw := x.fw
            clk := { s.clk with resetDue := x.clk.resetDue } } x)) ∧
    (∀ u, f.update = some u → u.last + 600000000000 ≤ t → ∃ x, exec (.fwUpdateTimeout t) s = .next x ∧ Calm [] { s with fw := { f.setImg u.toB empty with
      update := none
      written := [] } } x) ∧
    (∀ u, f.update = some u → t < u.last + 600000000000 → ∃ x, exec (.fwUpdateTimeout t) s = .next x ∧ Calm [] s x) ∧
    (∀ d, f.trialDeadline = some d → d ≤ t → (f.img (!f.runB)).state = .valid →
      ∃ x, exec (.trialWatchdog t) s = .next x ∧ x.fw.runB = !f.runB ∧ x.fw.preferB = !f.runB ∧ (x.fw.img f.runB).state = .failed ∧
        x.fw.rollback = some (!f.runB, f.runB) ∧ x.fw.trialDeadline = none ∧ x.clk.phase = .starting ∧ x.clk.start = .cold ∧ x.mono = 0 ∧ x.red.token = false ∧
        x.cfg.active = s.keptCfg.active) ∧
    (∀ d, f.trialDeadline = some d → d ≤ t → (f.img (!f.runB)).state = .empty ∨ (f.img (!f.runB)).state = .failed →
      ∃ x, exec (.trialWatchdog t) s = .next x ∧ x.clk.phase = .bootLoader ∧ (x.fw.img f.runB).state = .failed ∧ x.chan.ready = false) ∧
    (f.trialDeadline = none ∨ (∃ d, f.trialDeadline = some d ∧ t < d) → ∃ x, exec (.trialWatchdog t) s = .next x ∧ Calm [] s x)

/-- The monitor's commands at their levels (R515 to R518) and SERVICE (R520); `xs` is what the accesses of a command meet: a unit that is down answers
WRONG_STATE (R73), an abandoned crossing TIMEOUT (R72). The form in which values are printed is stated for `mbx` alone: the text of the others is the model's
free one (log 50). -/
def Obligations.ServiceMonitor : Prop :=
  ∀ (s : State) (t : Nat) (xs : List Cross), s.chan.ready = true → s.clk.phase = .running →
    let up := s.svc.service
    let prints := fun (i : Instr) (txt : List Byte) (u : State) (rs : List Nat) => ∃ x, exec i s = .next x ∧ Out.service (txt ++ prompt x.svc.service) ∈ x.out ∧ Calm rs u x
    let shows := fun (i : Instr) (as : List Nat) (txt : List Byte) =>
      ((∀ x ∈ xs, x.lost = none) → (∀ a ∈ as, s.blockDown (blockOf a) = false) → prints i txt s [Reg.sysXstall]) ∧
      ((∃ a ∈ as, s.blockDown (blockOf a) = true) → prints i (qStatus 0x09) s []) ∧
      (∀ x r, xs = x :: r → x.lost.isSome = true → (∀ a ∈ as, s.blockDown (blockOf a) = false) → prints i (qStatus st.timeout) s [Reg.sysStatus] ∧
        ∃ y, exec i s = .next y ∧ Latched y 7 ∧ bits (y.reg Reg.sysStatus) 1 1 = 1)
    prints (.lioshHelp t) (freeText 0 [byteOf (b2n up)]) s [] ∧
    prints (.lioshId t) (freeText 1 (s.identityBytes ++ [byteOf (b2n s.fw.runB), byteOf (State.lioshRun.imgCode s.fw.imgA.state),
      byteOf (State.lioshRun.imgCode s.fw.imgB.state)])) s [] ∧
    shows (.lioshStatus t xs) statusWords (freeText 2 (s.summaryBytes ++ [Reg.redStatus, Reg.clkStatus, Reg.safStatus].flatMap (fun a => u32 (s.readReg t a)))) ∧
    shows (.lioshEvents t xs) evtWords (freeText 5 (s.lioshEvents t)) ∧
    shows (.lioshTime t xs) [Reg.timStatus] (freeText 7 (timGet (s.timIn t) (s.readReg t Reg.timStatus) s.tim)) ∧
    shows (.lioshLinks t xs) linkCounters (freeText 8 s.lioshLinks) ∧
    (∀ a n, 1 ≤ n → n ≤ 16 → (∀ x ∈ xs, x.lost = none) → s.blockDown (blockOf a) = false →
      (∀ i < n, (regFind (a + 4 * i)).isSome = true ∧ a + 4 * i ≠ Reg.mbxData + 28) →
      ∃ (vs : List Nat), vs.length = n ∧ (∀ i < n, ∃ y, Calm [Reg.sysXstall] s y ∧ vs[i]? = some (y.readReg t (a + 4 * i))) ∧
        prints (.lioshReg t a n xs) (freeText 3 (u32 a ++ vs.flatMap u32)) s [Reg.sysXstall]) ∧
    (∀ a n, n = 0 ∨ 16 < n → prints (.lioshReg t a n xs) (ascii ['?', 'S', 'Y', 'N', 'T', 'A', 'X', '\r', '\n']) s []) ∧
    (∀ a n, 1 ≤ n → n ≤ 16 → (regFind a).isSome = true → s.blockDown (blockOf a) = true → prints (.lioshReg t a n xs) (qStatus 0x09) s []) ∧
    (∀ id x, id ∈ mbxIds → s.blockDown (id / 256) = false → x.lost = none →
      ∃ y z ws, exec (.lioshMbx t id x) s = .next y ∧ Calm [Reg.mbxSel, Reg.mbxStat] { s with mbx := z.mbx } z ∧ ws = (z.mbxWords t id).getD (s.mbx.at_ t).data ∧
        y.mbx.cur = id ∧ y.mbx.data = ws ∧ y.mbx.valid = false ∧ y.mbx.pend = none ∧
        Out.service (outLine (ascii ['0', 'x'] ++ hex4 id ++ (ws.take 6).flatMap (fun v => space :: hexWord v)) ++ prompt up) ∈ y.out ∧
        Calm [Reg.mbxSel, Reg.mbxStat, Reg.sysXstall] { s with mbx := y.mbx } y) ∧
    (∀ id x, id ∉ mbxIds ∨ s.blockDown (id / 256) = true → prints (.lioshMbx t id x) (qStatus 0x09) s []) ∧
    (∀ q n, 1 ≤ n → n ≤ 8 → prints (.lioshRec t q n) (freeText 6 (recRead (.addr 0 0) n (recSetCursor s.recd (.addr 0 0) q false)).2) s []) ∧
    (∀ q n, n = 0 ∨ 8 < n → prints (.lioshRec t q n) qSyntax s []) ∧
    (s.sup.serviceEn = true → s.red.token = false →
      prints (.lioshService t) [] { s with svc := { s.svc with service := true } } [] ∧ (up = false → ∃ x, exec (.lioshService t) s = .next x ∧ Latched x 124)) ∧
    (s.sup.serviceEn = false ∨ s.red.token = true → prints (.lioshService t) qLevel s []) ∧
    prints (.lioshView t) [] { s with svc := { s.svc with service := false } } [] ∧ (up = true → ∃ x, exec (.lioshView t) s = .next x ∧ Latched x 124) ∧
    (up = false → ∀ i, (∃ a v y, i = Instr.lioshRegw t a v y) ∨ (∃ n, i = .lioshKat t n) ∨ (∃ b, i = .lioshFwSelect t b) ∨ i = .lioshResetCold t ∨ i = .lioshResetWarm t →
      prints i qLevel s []) ∧
    (∀ a v y g, up = true → y.lost = none → regFind a = some g → blockOf a ∉ [3, 6, 7, 17, 19, 20] → s.blockDown (blockOf a) = false → a ∉ eventRegs →
      a ∉ [Reg.sysStatus, Reg.sysXstall, Reg.sysWlostCount] →
      prints (.lioshRegw t a v y) lineOk s [a, Reg.sysXstall, Reg.sysStatus, Reg.sysWlostAddr, Reg.sysWlostCount] ∧
        ∃ x, exec (.lioshRegw t a v y) s = .next x ∧ ∀ d ∈ g.flds, bits (x.reg a) d.lo d.w = fieldAfter d (s.reg a) v y) ∧
    (∀ a v y, up = true → regFind a = none → blockOf a ≠ 17 → prints (.lioshRegw t a v y) (qStatus st.busError) (s.busErr a) []) ∧
    (∀ a v y, up = true → blockOf a ≠ 17 → (regFind a).isSome = true → s.blockDown (blockOf a) = true → prints (.lioshRegw t a v y) (qStatus 0x09) s []) ∧
    (∀ a v y, up = true → blockOf a = 17 → prints (.lioshRegw t a v y) (qStatus 0x0A) s []) ∧
    (∀ n, up = true → n % 64 = 0 → prints (.lioshKat t n) (freeText 12 [byteOf n]) s []) ∧
    (∀ n, up = true → n % 64 ≠ 0 → s.red.size ≠ 0 → s.red.token = false → prints (.lioshKat t n) (freeText 12 [byteOf n]) { s with red := { s.red with
      flags := setBits s.red.flags 4 1 1
      faulted := true
      join := false
      giveUp := false
      cause := 3
      role := .none } } []) ∧
    (∀ b, up = true → (s.fw.img b).state = .valid → prints (.lioshFwSelect t b) lineOk { s with fw := { s.fw with preferB := b } } []) ∧
    (∀ b, up = true → (s.fw.img b).state ≠ .valid → prints (.lioshFwSelect t b) (qStatus 0x09) s []) ∧
    (∀ i warm, i = Instr.lioshResetCold t ∧ warm = false ∨ i = .lioshResetWarm t ∧ warm = true → up = true →
      (s.red.token = false ∨ s.ctl.mode = 0 → prints i lineOk { s with clk := { s.clk with resetDue := some ⟨warm, t + 100000000, 0⟩ } } []) ∧
      (s.red.token = true → s.ctl.mode ≠ 0 → prints i (qStatus 0x09) s [])) ∧
    (∀ b : Byte, b ≠ 8#8 → b ≠ 13#8 → s.svc.line.length < 128 → ∃ x, exec (.lioshCharacter t b xs) s = .next x ∧ Out.service [b] ∈ x.out ∧
      Calm [] { s with svc := { s.svc with line := s.svc.line ++ [b] } } x) ∧
    (∀ b : Byte, b ≠ 8#8 → b ≠ 13#8 → 128 ≤ s.svc.line.length → ∃ x, exec (.lioshCharacter t b xs) s = .next x ∧ Out.service [b] ∈ x.out ∧
      Calm [] { s with svc := { s.svc with overflow := true } } x) ∧
    (∃ x, exec (.lioshCharacter t 8#8 xs) s = .next x ∧ Calm [] { s with svc := { s.svc with line := s.svc.line.dropLast } } x) ∧
    (s.svc.overflow = true ∨ readLine s.svc.line = .bad ∧ lineWords [] s.svc.line ≠ [] → prints (.lioshCharacter t 13#8 xs) qSyntax { s with svc := { s.svc with
      line := []
      overflow := false } } []) ∧
    (s.svc.overflow = false → readLine s.svc.line = .help → prints (.lioshCharacter t 13#8 xs) (freeText 0 [byteOf (b2n up)]) { s with svc := { s.svc with line := [] } } []) ∧
    ∀ rq : Rq,
      let line := readLine (rq.payload.drop 4)
      (line = .help → Replies (.service rq xs) 0xF0 rq s 0 (freeText 0 [0#8]) (fun _ => s) []) ∧ (line = .bad → Replies (.service rq xs) 0xF0 rq s 0 qSyntax (fun _ => s) []) ∧
      (line = .view → Replies (.service rq xs) 0xF0 rq s 0 [] (fun _ => s) []) ∧
      (line = .service ∨ line = .kat ∨ (∃ a v, line = .regw a v) ∨ (∃ b, line = .fwSelect b) ∨ (∃ b, line = .reset b) →
        Replies (.service rq xs) 0xF0 rq s 0 qLevel (fun _ => s) [])

/-! The PK-20 personality's frames (chapter 19). -/

/-- Read frames return the newest written result, counted where they come early or again (R469, R471); set frames wait for their tick as the host actions they
stand for (R469); a frame that cannot be executed is refused with its code (R470), one that fails R468 is discarded and counted, one for another station
ignored. The write of phase 120 ms puts the held outputs out, or reports them late (R19). Before the first write the values read are free (log 54). -/
def Obligations.CompatibilityFrames : Prop :=
  ∀ (s : State) (f : PkFrame),
    let cfg := s.cfg.active
    let st := s.profile == .strict
    let framed := s.pkHears f.src = true ∧ f.data.length ≤ 200 ∧ f.bccOk = true ∧ f.station.toNat = cmpStation cfg
    let tells := fun (x : State) (body : List Byte) => Out.pk20 f.src (pkFrame (cmpStation cfg) body) ∈ x.out
    let heard := { s with pk := { s.pk with lastFrame := f.t } }
    let nak := fun (i : Instr) (code e : Nat) => ∃ x, exec i s = .next x ∧ tells x (ascii ['F', 'F'] ++ hex2 code ++ ascii [','] ++ decimal e) ∧
      x.reg Reg.cmpCntNak = (s.reg Reg.cmpCntNak + 1) % 2 ^ 32 ∧ Calm [Reg.cmpCntNak] heard x
    let dropped := fun (i : Instr) (r : Nat) => ∃ x, exec i s = .next x ∧ Latched x 120 ∧ bits (x.reg Reg.cmpStatus) 0 1 = 1 ∧ x.reg r = (s.reg r + 1) % 2 ^ 32 ∧
      Calm [Reg.cmpStatus, r] s x
    let reads := [(Instr.readStatus f, 0x01), (.readPosition f, 0x02), (.readHeading f, 0x03), (.readThruster f, 0x04), (.readCommands f, 0x05), (.readAlarms f, 0x06),
      (.readRefs f, 0x20), (.readTime f, 0x30), (.readConsequence f, 0x31)]
    let sets := [(Instr.ackAlarm f, 0x07), (.setMode f, 0x10), (.setPosition f, 0x11), (.setHeading f, 0x12), (.joystick f, 0x13), (.thrusterEnable f, 0x15),
      (.selectRef f, 0x21)]
    (∀ i code r d, (i, code) ∈ reads → framed → code ≠ 0x31 ∨ st = false → s.pk.shown = some r → pkReadData code f.data r = some d →
      ∃ x, exec i s = .next x ∧ tells x (hex2 code ++ d) ∧ x.reg Reg.cmpCntFrames = (s.reg Reg.cmpCntFrames + 1) % 2 ^ 32 ∧
        (∀ a, s.pk.inTick = some a → s.pk.wrote = none ∨ (∃ b, s.pk.wrote = some b ∧ b < a) → x.reg Reg.cmpCntEarly = (s.reg Reg.cmpCntEarly + 1) % 2 ^ 32) ∧
        (∀ a b, s.pk.inTick = some a → s.pk.wrote = some b → a ≤ b → x.reg Reg.cmpCntEarly = s.reg Reg.cmpCntEarly) ∧
        ((f.src, code) ∈ s.pk.reads → x.reg Reg.cmpCntRepeat = (s.reg Reg.cmpCntRepeat + 1) % 2 ^ 32) ∧
        ((f.src, code) ∉ s.pk.reads → x.reg Reg.cmpCntRepeat = s.reg Reg.cmpCntRepeat) ∧ (f.src, code) ∈ x.pk.reads ∧
        (code = 0x03 → cmpStation cfg = 0x31 → r.psi = pkHeading 8998 →
          Out.pk20 f.src [0x02#8, 0x31#8, 0x30#8, 0x33#8, 0x30#8, 0x38#8, 0x39#8, 0x2E#8, 0x39#8, 0x38#8, 0x03#8, 0x2F#8] ∈ x.out) ∧
        Calm [Reg.cmpCntFrames, Reg.cmpCntEarly, Reg.cmpCntRepeat] { s with pk := { s.pk with
          lastFrame := f.t
          reads := x.pk.reads } } x) ∧
    (∀ i code r, (i, code) ∈ reads → framed → code ≠ 0x31 ∨ st = false → s.pk.shown = some r → pkReadData code f.data r = none → nak i code 2) ∧
    (framed → st = true → nak (.readConsequence f) 0x31 4) ∧
    (∀ i code op payload, (i, code) ∈ sets → framed → pkSetAction st cfg code f.data = some (op, payload) → (∀ w ∈ s.pk.waits, w.src ≠ f.src ∨ w.code ≠ code) →
      ∃ x, exec i s = .next x ∧ Calm [] { s with
        chan := { s.chan with nextId := s.chan.nextId + 1 }
        cyc := { s.cyc with bnds := s.cyc.bnds ++ [⟨s.chan.nextId, f.t, op, payload, .addr 0 0, 0xFF, 0, 0, false, false, 0, [], some f.src, none⟩] }
        pk := { s.pk with
          lastFrame := f.t
          waits := s.pk.waits ++ [⟨f.src, code, s.chan.nextId⟩] } } x) ∧
    (∀ m, m ≤ 3 → pkSetAction st cfg 0x10 [byteOf (48 + m)] = some (0x30, [byteOf m, 0#8, 0#8, 0#8])) ∧
    (∀ i code, (i, code) ∈ sets → framed → pkSetAction st cfg code f.data = none → nak i code 2) ∧
    (∀ i code a, (i, code) ∈ sets → framed → pkSetAction st cfg code f.data = some a → (∃ w ∈ s.pk.waits, w.src = f.src ∧ w.code = code) → nak i code 5) ∧
    (∀ hi lo c, framed → pkCodeOf hi lo = some c → c ∉ pkReadCodes → c ∉ pkSetCodes → nak (.pk20UnknownFunction f hi lo) c 1) ∧
    (∀ hi lo, framed → pkCodeOf hi lo = none → dropped (.pk20UnknownFunction f hi lo) Reg.cmpCntMalformed) ∧
    (∀ i code, (i, code) ∈ reads ++ sets →
      (s.pkHears f.src = false ∨ f.data.length ≤ 200 ∧ f.bccOk = true ∧ f.station.toNat ≠ cmpStation cfg → ∃ x, exec i s = .next x ∧ Calm [] s x) ∧
      (s.pkHears f.src = true → 200 < f.data.length → dropped i Reg.cmpCntMalformed) ∧
      (s.pkHears f.src = true → f.data.length ≤ 200 → f.bccOk = false → dropped i Reg.cmpCntBcc)) ∧
    (∀ t port, s.pkHears (.serial port) = true → s.pk.inFrame = true →
      (s.pk.bufAt + 100000000 < t → ∃ x, exec (.pk20FrameGap t port) s = .next x ∧ Latched x 120 ∧ x.reg Reg.cmpCntMalformed = (s.reg Reg.cmpCntMalformed + 1) % 2 ^ 32 ∧
        Calm [Reg.cmpStatus, Reg.cmpCntMalformed] { s with pk := { s.pk with
          inFrame := false
          buf := [] } } x) ∧
      (t ≤ s.pk.bufAt + 100000000 → ∃ x, exec (.pk20FrameGap t port) s = .next x ∧ Calm [] s x)) ∧
    (∀ t a, s.pers = .pk20 → s.inCycle = true → roundMs (s.vessel t) % 200 = 120 → s.red.size = 0 → s.pk.inTick = some a →
      (∀ o r, s.pk.held = some (o, r) → ∃ x y, exec (.pk20OutputWrite t) s = .next x ∧ x.cyc.buf.thrust = o.thrust ∧ x.cyc.buf.az = o.az ∧ x.cyc.buf.epoch = o.epoch ∧
        x.cyc.buf.pkAo = o.pkAo ∧ x.cyc.relAt = t ∧ x.cyc.buf.logic = s.cyc.buf.logic ∧ x.pk.held = none ∧ x.pk.wrote = some t ∧ x.pk.reads = [] ∧
        x.pk.shown = some y ∧ y.n = r.n ∧ y.e = r.e ∧ y.psi = r.psi ∧ y.cycle = r.cycle ∧ y.codes = r.codes ∧ y.mode = s.ctl.mode ∧ y.alarms = x.pk.alarms ∧
        (x.cyc.buf.pkDo = true ↔ x.pk.unack ≠ 0) ∧ (x.pk.alarms ≠ s.pk.alarms → x.pk.alarms < 2 ^ 28 → s.pk.alarms < 2 ^ 28 → Latched x 121) ∧ Calm [] { s with
          pk := x.pk
          cyc := { s.cyc with
            buf := x.cyc.buf
            relAt := t } } x) ∧
      (s.pk.held = none → ∃ x, exec (.pk20OutputWrite t) s = .next x ∧ x.pk.late = true ∧ Latched x 122 ∧ bits (x.reg Reg.cmpStatus) 2 1 = 1 ∧
        x.reg Reg.cmpCntLate = (s.reg Reg.cmpCntLate + 1) % 2 ^ 32 ∧ x.reg Reg.ctlCntPklate = (s.reg Reg.ctlCntPklate + 1) % 2 ^ 32 ∧ x.pk.shown = s.pk.shown ∧
        x.cyc.buf.thrust = s.cyc.buf.thrust ∧ x.cyc.buf.az = s.cyc.buf.az ∧ x.pk.wrote = some t ∧
        Calm [Reg.ctlStatus, Reg.ctlCntPklate, Reg.cmpStatus, Reg.cmpCntLate] { s with
          pk := x.pk
          cyc := { s.cyc with buf := x.cyc.buf } } x)) ∧
    (∀ t, s.pers ≠ .pk20 → ∃ x, exec (.pk20OutputWrite t) s = .next x ∧ Calm [] s x)

/-! The register file. -/

/-- The register file is in its canonical form after reset. -/
def Obligations.RegistersAtReset : Prop := RegsCanonical State.reset

/-- Every step keeps the register file in its canonical form: addresses rising, no word at its register's reset value. -/
def Obligations.RegistersStayCanonical : Prop := ∀ s t : State, RegsCanonical s → step s = .next t → RegsCanonical t
end

