-- ==== Sys2Proof/Laws/Sparse.lean ====
section
/-! SUPPORT. The laws of a sparse store: what a write reads back as, and that every operation keeps the canonical form. -/

namespace Sys2Proof.Machine

variable {β : Type} [DecidableEq β] {dflt : Nat → β}

omit [DecidableEq β] in
theorem sparseGet_erase_same (m : List (Nat × β)) (a : Nat) : sparseGet dflt (sparseErase m a) a = dflt a := by
  induction m with
  | nil => rfl
  | cons p m ih => obtain ⟨k, v⟩ := p; by_cases h : k = a <;> simp [sparseErase, sparseGet, h, ih]

omit [DecidableEq β] in
theorem sparseGet_erase_other (m : List (Nat × β)) {a b : Nat} (h : a ≠ b) : sparseGet dflt (sparseErase m a) b = sparseGet dflt m b := by
  induction m with
  | nil => rfl
  | cons p m ih =>
    obtain ⟨k, v⟩ := p
    by_cases hk : k = a
    · subst hk; simp [sparseErase, sparseGet, h, ih]
    · by_cases hb : k = b
      · subst hb; simp [sparseErase, sparseGet, hk]
      · simp [sparseErase, sparseGet, hk, hb, ih]

omit [DecidableEq β] in
theorem sparseGet_insert (m : List (Nat × β)) (a b : Nat) (v : β) (hm : ∀ p ∈ m, p.1 ≠ a) :
    sparseGet dflt (sparseInsert m a v) b = if a = b then v else sparseGet dflt m b := by
  induction m with
  | nil => by_cases h : a = b <;> simp [sparseInsert, sparseGet, h]
  | cons p m ih =>
    obtain ⟨k, w⟩ := p
    have hk : k ≠ a := hm (k, w) (by simp)
    by_cases hlt : a < k
    · by_cases h : a = b
      · subst h; simp [sparseInsert, sparseGet, hlt]
      · simp [sparseInsert, sparseGet, hlt, h]
    · by_cases hb : k = b
      · subst hb; simp [sparseInsert, sparseGet, hlt, Ne.symm hk]
      · simp [sparseInsert, sparseGet, hlt, hb, ih (fun q hq => hm q (by simp [hq]))]

omit [DecidableEq β] in
theorem sparseErase_mem (m : List (Nat × β)) (a : Nat) (p : Nat × β) : p ∈ sparseErase m a ↔ p ∈ m ∧ p.1 ≠ a := by
  induction m with
  | nil => simp [sparseErase]
  | cons q m ih =>
    obtain ⟨k, v⟩ := q
    by_cases hk : k = a
    · simp only [sparseErase, hk, if_true, ih, List.mem_cons]
      constructor
      · exact fun h => ⟨.inr h.1, h.2⟩
      · rintro ⟨rfl | h, h2⟩
        · exact absurd rfl h2
        · exact ⟨h, h2⟩
    · simp only [sparseErase, hk, if_false, List.mem_cons, ih]
      constructor
      · rintro (rfl | h)
        · exact ⟨.inl rfl, hk⟩
        · exact ⟨.inr h.1, h.2⟩
      · rintro ⟨rfl | h, h2⟩
        · exact .inl rfl
        · exact .inr ⟨h, h2⟩

/-- A write reads back at its address, and leaves every other address alone. -/
theorem sparseGet_set (m : List (Nat × β)) (a b : Nat) (v : β) :
    sparseGet dflt (sparseSet dflt m a v) b = if a = b then v else sparseGet dflt m b := by
  by_cases hv : v = dflt a
  · by_cases h : a = b
    · subst h; rw [sparseSet, if_pos hv, if_pos rfl, hv]; exact sparseGet_erase_same m a
    · simp [sparseSet, hv, h, sparseGet_erase_other m h]
  · rw [sparseSet, if_neg hv, sparseGet_insert _ _ _ _ (fun p hp => ((sparseErase_mem m a p).1 hp).2)]
    by_cases h : a = b <;> simp [h, sparseGet_erase_other]

/-! The canonical form. -/

omit [DecidableEq β] in
theorem sparseSorted_cons (p : Nat × β) (m : List (Nat × β)) : sparseSorted (p :: m) = true ↔ (∀ q ∈ m, p.1 < q.1) ∧ sparseSorted m = true := by
  induction m generalizing p with
  | nil => simp [sparseSorted]
  | cons r m ih =>
    simp only [sparseSorted, Bool.and_eq_true, decide_eq_true_eq, List.mem_cons, forall_eq_or_imp]
    constructor
    · rintro ⟨h1, h2⟩
      exact ⟨⟨h1, fun q hq => Nat.lt_trans h1 (((ih r).1 h2).1 q hq)⟩, h2⟩
    · rintro ⟨⟨h1, _⟩, h2⟩
      exact ⟨h1, h2⟩

omit [DecidableEq β] in
theorem sparseSorted_erase {m : List (Nat × β)} (h : sparseSorted m = true) (a : Nat) : sparseSorted (sparseErase m a) = true := by
  induction m with
  | nil => rfl
  | cons p m ih =>
    obtain ⟨k, v⟩ := p
    obtain ⟨h1, h2⟩ := (sparseSorted_cons _ _).1 h
    by_cases hk : k = a
    · simpa [sparseErase, hk] using ih h2
    · simp only [sparseErase, hk, if_false]
      exact (sparseSorted_cons _ _).2 ⟨fun q hq => h1 q ((sparseErase_mem m a q).1 hq).1, ih h2⟩

omit [DecidableEq β] in
theorem sparseInsert_mem (m : List (Nat × β)) (a : Nat) (v : β) (p : Nat × β) : p ∈ sparseInsert m a v ↔ p = (a, v) ∨ p ∈ m := by
  induction m with
  | nil => simp [sparseInsert]
  | cons q m ih =>
    obtain ⟨k, w⟩ := q
    by_cases hlt : a < k
    · simp [sparseInsert, hlt]
    · simp only [sparseInsert, hlt, if_false, List.mem_cons, ih]; exact or_left_comm

omit [DecidableEq β] in
theorem sparseSorted_insert {m : List (Nat × β)} (h : sparseSorted m = true) {a : Nat} (v : β) (hm : ∀ p ∈ m, p.1 ≠ a) :
    sparseSorted (sparseInsert m a v) = true := by
  induction m with
  | nil => rfl
  | cons p m ih =>
    obtain ⟨k, w⟩ := p
    obtain ⟨h1, h2⟩ := (sparseSorted_cons _ _).1 h
    by_cases hlt : a < k
    · simp only [sparseInsert, hlt, if_true]
      refine (sparseSorted_cons _ _).2 ⟨fun q hq => ?_, h⟩
      rcases List.mem_cons.1 hq with rfl | hq
      · exact hlt
      · exact Nat.lt_trans hlt (h1 q hq)
    · simp only [sparseInsert, hlt, if_false]
      refine (sparseSorted_cons _ _).2 ⟨fun q hq => ?_, ih h2 (fun q hq => hm q (by simp [hq]))⟩
      rcases (sparseInsert_mem m a v q).1 hq with rfl | hq
      · exact Nat.lt_of_le_of_ne (Nat.le_of_not_lt hlt) (hm (k, w) (by simp))
      · exact h1 q hq

theorem sparseWf_iff {m : List (Nat × β)} : sparseWf dflt m = true ↔ sparseSorted m = true ∧ ∀ p ∈ m, p.2 ≠ dflt p.1 := by
  simp [sparseWf]

/-- Every write keeps the canonical form. -/
theorem sparseWf_set {m : List (Nat × β)} (h : sparseWf dflt m = true) (a : Nat) (v : β) : sparseWf dflt (sparseSet dflt m a v) = true := by
  obtain ⟨h1, h2⟩ := sparseWf_iff.1 h
  have he : ∀ p ∈ sparseErase m a, p.1 ≠ a := fun p hp => ((sparseErase_mem m a p).1 hp).2
  by_cases hv : v = dflt a
  · rw [sparseSet, if_pos hv]
    exact sparseWf_iff.2 ⟨sparseSorted_erase h1 a, fun p hp => h2 p ((sparseErase_mem m a p).1 hp).1⟩
  · rw [sparseSet, if_neg hv]
    refine sparseWf_iff.2 ⟨sparseSorted_insert (sparseSorted_erase h1 a) v he, fun p hp => ?_⟩
    rcases (sparseInsert_mem _ a v p).1 hp with rfl | hp
    · exact hv
    · exact h2 p ((sparseErase_mem m a p).1 hp).1

/-- A part of a canonical store is canonical. -/
theorem sparseWf_filter {m : List (Nat × β)} (h : sparseWf dflt m = true) (f : Nat × β → Bool) : sparseWf dflt (m.filter f) = true := by
  obtain ⟨h1, h2⟩ := sparseWf_iff.1 h
  refine sparseWf_iff.2 ⟨?_, fun p hp => h2 p (List.mem_filter.1 hp).1⟩
  clear h h2
  induction m with
  | nil => rfl
  | cons p m ih =>
    obtain ⟨h3, h4⟩ := (sparseSorted_cons _ _).1 h1
    by_cases hf : f p = true
    · rw [List.filter_cons_of_pos hf]
      exact (sparseSorted_cons _ _).2 ⟨fun q hq => h3 q (List.mem_filter.1 hq).1, ih h4⟩
    · rw [List.filter_cons_of_neg hf]; exact ih h4

/-- Writes one after the other keep the canonical form. -/
theorem sparseWf_foldl {α : Type} (xs : List α) (k : α → Nat) (v : α → β) {m : List (Nat × β)} (h : sparseWf dflt m = true) :
    sparseWf dflt (xs.foldl (fun r x => sparseSet dflt r (k x) (v x)) m) = true := by
  induction xs generalizing m with
  | nil => exact h
  | cons x xs ih => exact ih (sparseWf_set h _ _)

/-- The same store, the same words: two canonical stores that read alike are equal. -/
theorem sparse_ext {m n : List (Nat × β)} (hm : sparseWf dflt m = true) (hn : sparseWf dflt n = true)
    (h : ∀ a, sparseGet dflt m a = sparseGet dflt n a) : m = n := by
  have lo : ∀ (l : List (Nat × β)) (a : Nat), (∀ q ∈ l, a < q.1) → sparseGet dflt l a = dflt a := by
    intro l a hl
    induction l with
    | nil => rfl
    | cons q l ih =>
      have : q.1 ≠ a := (Nat.ne_of_lt (hl q (by simp))).symm
      obtain ⟨k, v⟩ := q
      simp only [sparseGet]; rw [if_neg this]; exact ih (fun r hr => hl r (by simp [hr]))
  induction m generalizing n with
  | nil =>
    cases n with
    | nil => rfl
    | cons q n =>
      obtain ⟨k, v⟩ := q
      have h1 := h k
      exact absurd h1.symm (by simpa [sparseGet] using (sparseWf_iff.1 hn).2 (k, v) (by simp))
  | cons p m ih =>
    obtain ⟨k, v⟩ := p
    obtain ⟨hs, hd⟩ := sparseWf_iff.1 hm
    obtain ⟨h3, h4⟩ := (sparseSorted_cons _ _).1 hs
    cases n with
    | nil => exact absurd (h k) (by simpa [sparseGet] using hd (k, v) (by simp))
    | cons q n =>
      obtain ⟨k', v'⟩ := q
      obtain ⟨hs', hd'⟩ := sparseWf_iff.1 hn
      obtain ⟨h3', h4'⟩ := (sparseSorted_cons _ _).1 hs'
      have hk : k = k' := by
        rcases Nat.lt_trichotomy k k' with hl | hl | hl
        · have := h k
          rw [lo ((k', v') :: n) k (fun r hr => by
            rcases List.mem_cons.1 hr with rfl | hr
            · exact hl
            · exact Nat.lt_trans hl (h3' r hr))] at this
          exact absurd this (by simpa [sparseGet] using hd (k, v) (by simp))
        · exact hl
        · have := h k'
          rw [lo ((k, v) :: m) k' (fun r hr => by
            rcases List.mem_cons.1 hr with rfl | hr
            · exact hl
            · exact Nat.lt_trans hl (h3 r hr))] at this
          exact absurd this.symm (by simpa [sparseGet] using hd' (k', v') (by simp))
      subst hk
      have hv : v = v' := by simpa [sparseGet] using h k
      subst hv
      congr 1
      refine ih (sparseWf_iff.2 ⟨h4, fun p hp => hd p (by simp [hp])⟩) (sparseWf_iff.2 ⟨h4', fun p hp => hd' p (by simp [hp])⟩) (fun a => ?_)
      by_cases ha : k = a
      · subst ha; rw [lo m k h3, lo n k h3']
      · simpa [sparseGet, ha] using h a

end Sys2Proof.Machine
end

