-- ==== Sys2Proof/Laws/Effects.lean ====
section
/-! SUPPORT. What the shared operations of Machine/Ops.lean can do, once for each: effects touch the register file, the events, the recorder, what was
sent and the count of sent bytes, and nothing else; the end of a command touches besides these the serial ports, MONO and the queue. -/

namespace Sys2Proof.Machine

/-- The register file in its canonical form. -/
def regsOk (r : List (Nat × Word)) : Prop := sparseWf regDflt r = true

@[simp] theorem Recorder.withEvents_self (r : Recorder) : r.withEvents r = r := rfl
@[simp] theorem Recorder.withEvents_withEvents (r d e : Recorder) : (r.withEvents d).withEvents e = r.withEvents e := rfl

/-- `t` is `s` but for the register file, which stays canonical, events, the recorder, more that was sent, and sent bytes. -/
def Touches (s t : State) : Prop :=
  ∃ r e d o n, t = { s with regs := r, evt := e, recd := s.recd.withEvents d, out := s.out ++ o, chan := { s.chan with txBytes := n } } ∧ (regsOk s.regs → regsOk r)

theorem Touches.refl (s : State) : Touches s s := ⟨s.regs, s.evt, s.recd, [], s.chan.txBytes, by simp, id⟩

theorem Touches.trans {s t u : State} (h1 : Touches s t) (h2 : Touches t u) : Touches s u := by
  obtain ⟨r, e, d, o, n, rfl, k1⟩ := h1
  obtain ⟨r', e', d', o', n', rfl, k2⟩ := h2
  exact ⟨r', e', d', o ++ o', n', by simp, fun h => k2 (k1 h)⟩

/-- A fold of operations that touch no more. -/
theorem Touches.foldl {α : Type} (f : State → α → State) (hf : ∀ s x, Touches s (f s x)) (xs : List α) (s : State) : Touches s (xs.foldl f s) := by
  induction xs generalizing s with
  | nil => exact .refl s
  | cons x xs ih => exact (hf s x).trans (ih (f s x))

theorem State.setReg_touches (s : State) (a v : Nat) : Touches s (s.setReg a v) :=
  ⟨_, s.evt, s.recd, [], s.chan.txBytes, by simp [State.setReg]; rfl, fun h => sparseWf_set h _ _⟩

theorem State.plainFx_touches (s : State) (f : Fx) : Touches s (s.plainFx f) := by
  cases f <;> first | exact s.setReg_touches _ _ | exact .refl s

theorem State.emit_touches (s : State) (o : Out) : Touches s (s.emit o) := ⟨s.regs, s.evt, s.recd, _, s.chan.txBytes, rfl, id⟩

theorem State.send_touches (s : State) (from_ : Nat) (d : Src) (bs : List Byte) : Touches s (s.send from_ d bs) := by
  unfold State.send
  split
  · exact ⟨s.regs, s.evt, s.recd, _, _, rfl, id⟩
  · exact .refl s

theorem State.sendEvents_touches (s : State) (d : Dest) (rs : List EvRec) : Touches s (s.sendEvents d false rs) := by
  simp only [State.sendEvents]
  exact Touches.foldl _ (fun s p => s.send_touches _ p _) _ _

theorem State.evt_touches (s : State) (e : Evt) : Touches s { s with evt := e } := ⟨s.regs, e, s.recd, [], s.chan.txBytes, by simp, id⟩

theorem State.recd_touches (s : State) (r : Recorder) (h : r = s.recd.withEvents r) : Touches s { s with recd := r } :=
  ⟨s.regs, s.evt, r, [], s.chan.txBytes, by rw [← h]; simp, id⟩

theorem recEnqueue_withEvents (x : RecRec) (r : Recorder) : (recEnqueue x r).1 = r.withEvents (recEnqueue x r).1 := by
  unfold recEnqueue; split <;> rfl

theorem Recorder.withEvents_trans {r d e : Recorder} (h1 : d = r.withEvents d) (h2 : e = d.withEvents e) : e = r.withEvents e := by
  rw [h1] at h2; exact h2

theorem recBegin_withEvents (t : Nat) (x : RecRec) (r : Recorder) : (recBegin t x r).1 = r.withEvents (recBegin t x r).1 :=
  (recEnqueue_withEvents x _).trans rfl

/-- The seconds that end change the recorder's queue, coalescing and count of dropped records alone. -/
theorem recCoalesceEnd_withEvents (t : Nat) (r : Recorder) : (recCoalesceEnd t r).1 = r.withEvents (recCoalesceEnd t r).1 := by
  have go : ∀ (cs : List Coalesce) (f : Recorder × List Fx → Coalesce → Recorder × List Fx) (_ : ∀ q c, (f q c).1 = q.1.withEvents (f q c).1)
      (q : Recorder × List Fx), (cs.foldl f q).1 = q.1.withEvents (cs.foldl f q).1 := by
    intro cs f hf
    induction cs with
    | nil => intro q; rfl
    | cons c cs ih => intro q; exact Recorder.withEvents_trans (hf q c) (ih (f q c))
  unfold recCoalesceEnd
  refine Recorder.withEvents_trans rfl (go _ _ (fun q c => ?_) _)
  dsimp only
  split
  · exact recBegin_withEvents _ _ _
  · rfl

/-- An occurrence changes the recorder's queue, coalescing and count of dropped records alone. -/
theorem recEvent_withEvents (t : Nat) (x : RecRec) (r : Recorder) : (recEvent t x r).1 = r.withEvents (recEvent t x r).1 := by
  refine Recorder.withEvents_trans (recCoalesceEnd_withEvents t r) ?_
  simp only [recEvent, recOccur]
  split
  · rfl
  · exact recBegin_withEvents _ _ _

theorem State.newRecord_touches (s : State) (i t ev count vessel epoch : Nat) (det : List Byte) :
    Touches s (s.newRecord i t ev count vessel epoch det) := by
  unfold State.newRecord
  split
  · exact .refl s
  · exact (s.evt_touches _).trans (State.sendEvents_touches _ _ _)

theorem State.reportTo_touches (t ev : Nat) (det : List Byte) (s : State) (i : Nat) : Touches s (State.reportTo t ev det s i) := by
  unfold State.reportTo
  split
  · exact .refl s
  · split
    · exact .refl s
    · split
      · exact s.evt_touches _
      · exact s.newRecord_touches _ _ _ _ _ _ _

theorem State.occur_touches (s : State) (t ev : Nat) (det : List Byte) : Touches s (s.occur t ev det) := by
  simp only [State.occur]
  generalize h : s.plainFx (.flag (Reg.evtLatch + 4 * (ev / 32)) (ev % 32)) = s1
  have h1 : Touches s s1 := h ▸ s.plainFx_touches _
  refine Touches.trans ?_ (Touches.foldl _ (State.reportTo_touches t ev _) _ _)
  split
  · exact (h1.trans (s1.recd_touches _ (recEvent_withEvents _ _ _))).trans (Touches.foldl _ State.plainFx_touches _ _)
  · exact h1

theorem State.apply1_touches (t : Nat) (s : State) (f : Fx) : Touches s (State.apply1 t s f) := by
  cases f with
  | event ev d =>
    simp only [State.apply1]
    split
    · split
      · exact .refl s
      · exact (s.evt_touches _).trans (State.occur_touches _ _ _ _)
    · exact s.occur_touches _ _ _
  | start ev k d => exact (s.evt_touches _).trans (State.occur_touches _ _ _ _)
  | ended ev k d => exact (s.evt_touches _).trans (State.occur_touches _ _ _ _)
  | clear ev k => exact s.evt_touches _
  | count a n => exact s.plainFx_touches (.count a n)
  | flag a b => exact s.plainFx_touches (.flag a b)
  | field a lo w v => exact s.plainFx_touches (.field a lo w v)
  | maxi a lo w v => exact s.plainFx_touches (.maxi a lo w v)
  | mini a lo w v => exact s.plainFx_touches (.mini a lo w v)

/-- Effects, once for all: what a list of effects can do. -/
theorem State.apply_touches (s : State) (t : Nat) (fx : List Fx) : Touches s (s.apply t fx) := Touches.foldl _ (State.apply1_touches t) fx s

/-- `t` is `s` but for what effects touch and the serial ports. -/
def Alerts (s t : State) : Prop := ∃ p, Touches { s with ser := p } t ∧ ∀ a, p.withAlerts a = s.ser.withAlerts a

theorem Ser.withAlerts_self (q : Ser) : q.withAlerts q = q := by
  have h : (q.ports.zip q.ports).map (fun x => ({ x.1 with txq := x.2.txq } : SerPort)) = q.ports := by
    induction q.ports with
    | nil => rfl
    | cons x xs ih => simp only [List.zip_cons_cons, List.map_cons, ih]
  simp only [Ser.withAlerts, h]

theorem txPush_same (txt : List (List Byte)) (p : SerPort) (b : List (List Byte)) :
    ({ txt.foldl (fun p u => txPush u p) p with txq := b } : SerPort) = { p with txq := b } := by
  induction txt generalizing p with
  | nil => rfl
  | cons u us ih =>
    rw [List.foldl_cons, ih]
    unfold txPush; split <;> rfl

/-- Alert sentences change the ports' transmit queues alone. -/
theorem alertSend_same (cfg : Mem) (txt : List (List Byte)) (ps qs : List SerPort) :
    ((alertSend cfg txt ps).zip qs).map (fun x => ({ x.1 with txq := x.2.txq } : SerPort)) = (ps.zip qs).map (fun x => { x.1 with txq := x.2.txq }) := by
  apply List.ext_getElem?
  intro i
  simp only [alertSend, List.getElem?_map, List.zip, List.getElem?_zipWith, List.getElem?_zipIdx]
  cases ps[i]? <;> cases qs[i]? <;> try rfl
  refine congrArg some ?_
  dsimp only
  split
  · exact txPush_same _ _ _
  · rfl

theorem alertScan_same (cfg : Mem) (t : Nat) (v : Int) (n : Nat) (q a : Ser) : (alertScan cfg t v n q).1.withAlerts a = q.withAlerts a := by
  have go : ∀ (ns : List Nat) (f : Ser × List (List Byte) → Nat → Ser × List (List Byte)) (_ : ∀ r n, (f r n).1.withAlerts a = r.1.withAlerts a)
      (r : Ser × List (List Byte)), (ns.foldl f r).1.withAlerts a = r.1.withAlerts a := by
    intro ns f hf
    induction ns with
    | nil => intro r; rfl
    | cons n ns ih => intro r; rw [List.foldl_cons, ih, hf]
  unfold alertScan
  refine (go _ _ (fun r n => ?_) _).trans rfl
  dsimp only
  split
  · rfl
  · split <;> rfl
  · rfl
  · rfl

theorem State.alerts_alerts (s : State) (txt : List (List Byte)) : Alerts s (s.alerts txt) := by
  refine ⟨{ s.ser with ports := alertSend s.cfg.active txt s.ser.ports }, ?_, fun a => by simp only [Ser.withAlerts, alertSend_same]⟩
  simp only [State.alerts]
  split
  · exact .refl _
  · refine Touches.foldl _ (fun a x => Touches.foldl _ (fun b p => ?_) _ _) _ _
    split
    · exact (State.emit_touches _ _).trans (State.plainFx_touches _ _)
    · exact .refl _

theorem State.alertsOut_alerts (s : State) (txt : List (List Byte)) : Alerts s (s.alertsOut txt) := by
  unfold State.alertsOut
  split
  · exact s.alerts_alerts txt
  · exact ⟨s.ser, .refl _, fun _ => rfl⟩

/-- The end of a command, once for all: `s.finish t q` is `s` but for the register file, which stays canonical, the serial ports, more that was sent,
events, the recorder and sent bytes; MONO stands at the command's time, the queue is `q`. -/
theorem State.finish_shape (s : State) (t : Nat) (q : List Instr) :
    ∃ r e d o n p, s.finish t q = { s with
        regs := r, evt := e, recd := s.recd.withEvents d, out := s.out ++ o, chan := { s.chan with txBytes := n }, ser := p, mono := Nat.max s.mono t, pending := q } ∧
      (regsOk s.regs → regsOk r) ∧ ∀ a, p.withAlerts a = s.ser.withAlerts a := by
  obtain ⟨p, ⟨r, e, d, o, n, h, k⟩, g⟩ := State.alertsOut_alerts { s with ser := (alertScan s.cfg.active t (s.vessel t) s.evActive s.ser).1 }
    (alertScan s.cfg.active t (s.vessel t) s.evActive s.ser).2
  refine ⟨r, e, d, o, n, p, ?_, k, fun a => (g a).trans (alertScan_same _ _ _ _ _ _)⟩
  simp only [State.finish]
  rw [h]

end Sys2Proof.Machine
end

