-- ==== Sys2Proof/Laws/State.lean ====
section
/-! SUPPORT. What the named updates of the state leave and set, one lemma per field per update, all by definition. -/

namespace Sys2Proof.Machine

/-! A register written. -/

@[simp] theorem State.setReg_mono (s : State) (a v : Nat) : (s.setReg a v).mono = s.mono := rfl
@[simp] theorem State.setReg_pending (s : State) (a v : Nat) : (s.setReg a v).pending = s.pending := rfl
@[simp] theorem State.setReg_out (s : State) (a v : Nat) : (s.setReg a v).out = s.out := rfl
@[simp] theorem State.setReg_pers (s : State) (a v : Nat) : (s.setReg a v).pers = s.pers := rfl
@[simp] theorem State.setReg_profile (s : State) (a v : Nat) : (s.setReg a v).profile = s.profile := rfl
@[simp] theorem State.setReg_stored (s : State) (a v : Nat) : (s.setReg a v).stored = s.stored := rfl
@[simp] theorem State.setReg_cfg (s : State) (a v : Nat) : (s.setReg a v).cfg = s.cfg := rfl
@[simp] theorem State.setReg_chan (s : State) (a v : Nat) : (s.setReg a v).chan = s.chan := rfl
@[simp] theorem State.setReg_evt (s : State) (a v : Nat) : (s.setReg a v).evt = s.evt := rfl
@[simp] theorem State.setReg_cyc (s : State) (a v : Nat) : (s.setReg a v).cyc = s.cyc := rfl
@[simp] theorem State.setReg_mbx (s : State) (a v : Nat) : (s.setReg a v).mbx = s.mbx := rfl
@[simp] theorem State.setReg_clk (s : State) (a v : Nat) : (s.setReg a v).clk = s.clk := rfl
@[simp] theorem State.setReg_sup (s : State) (a v : Nat) : (s.setReg a v).sup = s.sup := rfl
@[simp] theorem State.setReg_fw (s : State) (a v : Nat) : (s.setReg a v).fw = s.fw := rfl
@[simp] theorem State.setReg_svc (s : State) (a v : Nat) : (s.setReg a v).svc = s.svc := rfl
@[simp] theorem State.setReg_saved (s : State) (a v : Nat) : (s.setReg a v).saved = s.saved := rfl
@[simp] theorem State.setReg_tim (s : State) (a v : Nat) : (s.setReg a v).tim = s.tim := rfl
@[simp] theorem State.setReg_gns (s : State) (a v : Nat) : (s.setReg a v).gns = s.gns := rfl
@[simp] theorem State.setReg_fus (s : State) (a v : Nat) : (s.setReg a v).fus = s.fus := rfl
@[simp] theorem State.setReg_ctl (s : State) (a v : Nat) : (s.setReg a v).ctl = s.ctl := rfl
@[simp] theorem State.setReg_alc (s : State) (a v : Nat) : (s.setReg a v).alc = s.alc := rfl
@[simp] theorem State.setReg_srv (s : State) (a v : Nat) : (s.setReg a v).srv = s.srv := rfl
@[simp] theorem State.setReg_ser (s : State) (a v : Nat) : (s.setReg a v).ser = s.ser := rfl
@[simp] theorem State.setReg_can0 (s : State) (a v : Nat) : (s.setReg a v).can0 = s.can0 := rfl
@[simp] theorem State.setReg_can1 (s : State) (a v : Nat) : (s.setReg a v).can1 = s.can1 := rfl
@[simp] theorem State.setReg_crc (s : State) (a v : Nat) : (s.setReg a v).crc = s.crc := rfl
@[simp] theorem State.setReg_fld (s : State) (a v : Nat) : (s.setReg a v).fld = s.fld := rfl
@[simp] theorem State.setReg_aio (s : State) (a v : Nat) : (s.setReg a v).aio = s.aio := rfl
@[simp] theorem State.setReg_lgc (s : State) (a v : Nat) : (s.setReg a v).lgc = s.lgc := rfl
@[simp] theorem State.setReg_saf (s : State) (a v : Nat) : (s.setReg a v).saf = s.saf := rfl
@[simp] theorem State.setReg_red (s : State) (a v : Nat) : (s.setReg a v).red = s.red := rfl
@[simp] theorem State.setReg_recd (s : State) (a v : Nat) : (s.setReg a v).recd = s.recd := rfl
@[simp] theorem State.setReg_pk (s : State) (a v : Nat) : (s.setReg a v).pk = s.pk := rfl
@[simp] theorem State.setReg_regs (s : State) (a v : Nat) : (s.setReg a v).regs = sparseSet regDflt s.regs a (BitVec.ofNat 32 v) := rfl

/-! Something sent. -/

@[simp] theorem State.emit_mono (s : State) (o : Out) : (s.emit o).mono = s.mono := rfl
@[simp] theorem State.emit_pending (s : State) (o : Out) : (s.emit o).pending = s.pending := rfl
@[simp] theorem State.emit_regs (s : State) (o : Out) : (s.emit o).regs = s.regs := rfl
@[simp] theorem State.emit_pers (s : State) (o : Out) : (s.emit o).pers = s.pers := rfl
@[simp] theorem State.emit_profile (s : State) (o : Out) : (s.emit o).profile = s.profile := rfl
@[simp] theorem State.emit_stored (s : State) (o : Out) : (s.emit o).stored = s.stored := rfl
@[simp] theorem State.emit_cfg (s : State) (o : Out) : (s.emit o).cfg = s.cfg := rfl
@[simp] theorem State.emit_chan (s : State) (o : Out) : (s.emit o).chan = s.chan := rfl
@[simp] theorem State.emit_evt (s : State) (o : Out) : (s.emit o).evt = s.evt := rfl
@[simp] theorem State.emit_cyc (s : State) (o : Out) : (s.emit o).cyc = s.cyc := rfl
@[simp] theorem State.emit_mbx (s : State) (o : Out) : (s.emit o).mbx = s.mbx := rfl
@[simp] theorem State.emit_clk (s : State) (o : Out) : (s.emit o).clk = s.clk := rfl
@[simp] theorem State.emit_sup (s : State) (o : Out) : (s.emit o).sup = s.sup := rfl
@[simp] theorem State.emit_fw (s : State) (o : Out) : (s.emit o).fw = s.fw := rfl
@[simp] theorem State.emit_svc (s : State) (o : Out) : (s.emit o).svc = s.svc := rfl
@[simp] theorem State.emit_saved (s : State) (o : Out) : (s.emit o).saved = s.saved := rfl
@[simp] theorem State.emit_tim (s : State) (o : Out) : (s.emit o).tim = s.tim := rfl
@[simp] theorem State.emit_gns (s : State) (o : Out) : (s.emit o).gns = s.gns := rfl
@[simp] theorem State.emit_fus (s : State) (o : Out) : (s.emit o).fus = s.fus := rfl
@[simp] theorem State.emit_ctl (s : State) (o : Out) : (s.emit o).ctl = s.ctl := rfl
@[simp] theorem State.emit_alc (s : State) (o : Out) : (s.emit o).alc = s.alc := rfl
@[simp] theorem State.emit_srv (s : State) (o : Out) : (s.emit o).srv = s.srv := rfl
@[simp] theorem State.emit_ser (s : State) (o : Out) : (s.emit o).ser = s.ser := rfl
@[simp] theorem State.emit_can0 (s : State) (o : Out) : (s.emit o).can0 = s.can0 := rfl
@[simp] theorem State.emit_can1 (s : State) (o : Out) : (s.emit o).can1 = s.can1 := rfl
@[simp] theorem State.emit_crc (s : State) (o : Out) : (s.emit o).crc = s.crc := rfl
@[simp] theorem State.emit_fld (s : State) (o : Out) : (s.emit o).fld = s.fld := rfl
@[simp] theorem State.emit_aio (s : State) (o : Out) : (s.emit o).aio = s.aio := rfl
@[simp] theorem State.emit_lgc (s : State) (o : Out) : (s.emit o).lgc = s.lgc := rfl
@[simp] theorem State.emit_saf (s : State) (o : Out) : (s.emit o).saf = s.saf := rfl
@[simp] theorem State.emit_red (s : State) (o : Out) : (s.emit o).red = s.red := rfl
@[simp] theorem State.emit_recd (s : State) (o : Out) : (s.emit o).recd = s.recd := rfl
@[simp] theorem State.emit_pk (s : State) (o : Out) : (s.emit o).pk = s.pk := rfl
@[simp] theorem State.emit_out (s : State) (o : Out) : (s.emit o).out = s.out ++ (if s.chan.ready || s.clk.phase == .bootLoader then [o] else []) := rfl

/-! A counter of the command channel. -/

@[simp] theorem State.cnt_mono (s : State) (f : ChanCnt → ChanCnt) : (s.cnt f).mono = s.mono := rfl
@[simp] theorem State.cnt_pending (s : State) (f : ChanCnt → ChanCnt) : (s.cnt f).pending = s.pending := rfl
@[simp] theorem State.cnt_out (s : State) (f : ChanCnt → ChanCnt) : (s.cnt f).out = s.out := rfl
@[simp] theorem State.cnt_regs (s : State) (f : ChanCnt → ChanCnt) : (s.cnt f).regs = s.regs := rfl
@[simp] theorem State.cnt_pers (s : State) (f : ChanCnt → ChanCnt) : (s.cnt f).pers = s.pers := rfl
@[simp] theorem State.cnt_profile (s : State) (f : ChanCnt → ChanCnt) : (s.cnt f).profile = s.profile := rfl
@[simp] theorem State.cnt_stored (s : State) (f : ChanCnt → ChanCnt) : (s.cnt f).stored = s.stored := rfl
@[simp] theorem State.cnt_cfg (s : State) (f : ChanCnt → ChanCnt) : (s.cnt f).cfg = s.cfg := rfl
@[simp] theorem State.cnt_evt (s : State) (f : ChanCnt → ChanCnt) : (s.cnt f).evt = s.evt := rfl
@[simp] theorem State.cnt_cyc (s : State) (f : ChanCnt → ChanCnt) : (s.cnt f).cyc = s.cyc := rfl
@[simp] theorem State.cnt_mbx (s : State) (f : ChanCnt → ChanCnt) : (s.cnt f).mbx = s.mbx := rfl
@[simp] theorem State.cnt_clk (s : State) (f : ChanCnt → ChanCnt) : (s.cnt f).clk = s.clk := rfl
@[simp] theorem State.cnt_sup (s : State) (f : ChanCnt → ChanCnt) : (s.cnt f).sup = s.sup := rfl
@[simp] theorem State.cnt_fw (s : State) (f : ChanCnt → ChanCnt) : (s.cnt f).fw = s.fw := rfl
@[simp] theorem State.cnt_svc (s : State) (f : ChanCnt → ChanCnt) : (s.cnt f).svc = s.svc := rfl
@[simp] theorem State.cnt_saved (s : State) (f : ChanCnt → ChanCnt) : (s.cnt f).saved = s.saved := rfl
@[simp] theorem State.cnt_tim (s : State) (f : ChanCnt → ChanCnt) : (s.cnt f).tim = s.tim := rfl
@[simp] theorem State.cnt_gns (s : State) (f : ChanCnt → ChanCnt) : (s.cnt f).gns = s.gns := rfl
@[simp] theorem State.cnt_fus (s : State) (f : ChanCnt → ChanCnt) : (s.cnt f).fus = s.fus := rfl
@[simp] theorem State.cnt_ctl (s : State) (f : ChanCnt → ChanCnt) : (s.cnt f).ctl = s.ctl := rfl
@[simp] theorem State.cnt_alc (s : State) (f : ChanCnt → ChanCnt) : (s.cnt f).alc = s.alc := rfl
@[simp] theorem State.cnt_srv (s : State) (f : ChanCnt → ChanCnt) : (s.cnt f).srv = s.srv := rfl
@[simp] theorem State.cnt_ser (s : State) (f : ChanCnt → ChanCnt) : (s.cnt f).ser = s.ser := rfl
@[simp] theorem State.cnt_can0 (s : State) (f : ChanCnt → ChanCnt) : (s.cnt f).can0 = s.can0 := rfl
@[simp] theorem State.cnt_can1 (s : State) (f : ChanCnt → ChanCnt) : (s.cnt f).can1 = s.can1 := rfl
@[simp] theorem State.cnt_crc (s : State) (f : ChanCnt → ChanCnt) : (s.cnt f).crc = s.crc := rfl
@[simp] theorem State.cnt_fld (s : State) (f : ChanCnt → ChanCnt) : (s.cnt f).fld = s.fld := rfl
@[simp] theorem State.cnt_aio (s : State) (f : ChanCnt → ChanCnt) : (s.cnt f).aio = s.aio := rfl
@[simp] theorem State.cnt_lgc (s : State) (f : ChanCnt → ChanCnt) : (s.cnt f).lgc = s.lgc := rfl
@[simp] theorem State.cnt_saf (s : State) (f : ChanCnt → ChanCnt) : (s.cnt f).saf = s.saf := rfl
@[simp] theorem State.cnt_red (s : State) (f : ChanCnt → ChanCnt) : (s.cnt f).red = s.red := rfl
@[simp] theorem State.cnt_recd (s : State) (f : ChanCnt → ChanCnt) : (s.cnt f).recd = s.recd := rfl
@[simp] theorem State.cnt_pk (s : State) (f : ChanCnt → ChanCnt) : (s.cnt f).pk = s.pk := rfl
@[simp] theorem State.cnt_chan_ready (s : State) (f : ChanCnt → ChanCnt) : (s.cnt f).chan.ready = s.chan.ready := rfl
@[simp] theorem State.cnt_chan_hosts (s : State) (f : ChanCnt → ChanCnt) : (s.cnt f).chan.hosts = s.chan.hosts := rfl
@[simp] theorem State.cnt_chan_opens (s : State) (f : ChanCnt → ChanCnt) : (s.cnt f).chan.opens = s.chan.opens := rfl
@[simp] theorem State.cnt_chan_nextId (s : State) (f : ChanCnt → ChanCnt) : (s.cnt f).chan.nextId = s.chan.nextId := rfl
@[simp] theorem State.cnt_chan_rxBytes (s : State) (f : ChanCnt → ChanCnt) : (s.cnt f).chan.rxBytes = s.chan.rxBytes := rfl
@[simp] theorem State.cnt_chan_txBytes (s : State) (f : ChanCnt → ChanCnt) : (s.cnt f).chan.txBytes = s.chan.txBytes := rfl
@[simp] theorem State.cnt_chan_results (s : State) (f : ChanCnt → ChanCnt) : (s.cnt f).chan.results = s.chan.results := rfl
@[simp] theorem State.cnt_chan_cnt (s : State) (f : ChanCnt → ChanCnt) : (s.cnt f).chan.cnt = f s.chan.cnt := rfl

/-! A host record changed. -/

@[simp] theorem State.modHost_mono (s : State) (w : Ident) (f : HostRec → HostRec) : (s.modHost w f).mono = s.mono := rfl
@[simp] theorem State.modHost_pending (s : State) (w : Ident) (f : HostRec → HostRec) : (s.modHost w f).pending = s.pending := rfl
@[simp] theorem State.modHost_out (s : State) (w : Ident) (f : HostRec → HostRec) : (s.modHost w f).out = s.out := rfl
@[simp] theorem State.modHost_regs (s : State) (w : Ident) (f : HostRec → HostRec) : (s.modHost w f).regs = s.regs := rfl
@[simp] theorem State.modHost_pers (s : State) (w : Ident) (f : HostRec → HostRec) : (s.modHost w f).pers = s.pers := rfl
@[simp] theorem State.modHost_profile (s : State) (w : Ident) (f : HostRec → HostRec) : (s.modHost w f).profile = s.profile := rfl
@[simp] theorem State.modHost_stored (s : State) (w : Ident) (f : HostRec → HostRec) : (s.modHost w f).stored = s.stored := rfl
@[simp] theorem State.modHost_cfg (s : State) (w : Ident) (f : HostRec → HostRec) : (s.modHost w f).cfg = s.cfg := rfl
@[simp] theorem State.modHost_evt (s : State) (w : Ident) (f : HostRec → HostRec) : (s.modHost w f).evt = s.evt := rfl
@[simp] theorem State.modHost_cyc (s : State) (w : Ident) (f : HostRec → HostRec) : (s.modHost w f).cyc = s.cyc := rfl
@[simp] theorem State.modHost_mbx (s : State) (w : Ident) (f : HostRec → HostRec) : (s.modHost w f).mbx = s.mbx := rfl
@[simp] theorem State.modHost_clk (s : State) (w : Ident) (f : HostRec → HostRec) : (s.modHost w f).clk = s.clk := rfl
@[simp] theorem State.modHost_sup (s : State) (w : Ident) (f : HostRec → HostRec) : (s.modHost w f).sup = s.sup := rfl
@[simp] theorem State.modHost_fw (s : State) (w : Ident) (f : HostRec → HostRec) : (s.modHost w f).fw = s.fw := rfl
@[simp] theorem State.modHost_svc (s : State) (w : Ident) (f : HostRec → HostRec) : (s.modHost w f).svc = s.svc := rfl
@[simp] theorem State.modHost_saved (s : State) (w : Ident) (f : HostRec → HostRec) : (s.modHost w f).saved = s.saved := rfl
@[simp] theorem State.modHost_tim (s : State) (w : Ident) (f : HostRec → HostRec) : (s.modHost w f).tim = s.tim := rfl
@[simp] theorem State.modHost_gns (s : State) (w : Ident) (f : HostRec → HostRec) : (s.modHost w f).gns = s.gns := rfl
@[simp] theorem State.modHost_fus (s : State) (w : Ident) (f : HostRec → HostRec) : (s.modHost w f).fus = s.fus := rfl
@[simp] theorem State.modHost_ctl (s : State) (w : Ident) (f : HostRec → HostRec) : (s.modHost w f).ctl = s.ctl := rfl
@[simp] theorem State.modHost_alc (s : State) (w : Ident) (f : HostRec → HostRec) : (s.modHost w f).alc = s.alc := rfl
@[simp] theorem State.modHost_srv (s : State) (w : Ident) (f : HostRec → HostRec) : (s.modHost w f).srv = s.srv := rfl
@[simp] theorem State.modHost_ser (s : State) (w : Ident) (f : HostRec → HostRec) : (s.modHost w f).ser = s.ser := rfl
@[simp] theorem State.modHost_can0 (s : State) (w : Ident) (f : HostRec → HostRec) : (s.modHost w f).can0 = s.can0 := rfl
@[simp] theorem State.modHost_can1 (s : State) (w : Ident) (f : HostRec → HostRec) : (s.modHost w f).can1 = s.can1 := rfl
@[simp] theorem State.modHost_crc (s : State) (w : Ident) (f : HostRec → HostRec) : (s.modHost w f).crc = s.crc := rfl
@[simp] theorem State.modHost_fld (s : State) (w : Ident) (f : HostRec → HostRec) : (s.modHost w f).fld = s.fld := rfl
@[simp] theorem State.modHost_aio (s : State) (w : Ident) (f : HostRec → HostRec) : (s.modHost w f).aio = s.aio := rfl
@[simp] theorem State.modHost_lgc (s : State) (w : Ident) (f : HostRec → HostRec) : (s.modHost w f).lgc = s.lgc := rfl
@[simp] theorem State.modHost_saf (s : State) (w : Ident) (f : HostRec → HostRec) : (s.modHost w f).saf = s.saf := rfl
@[simp] theorem State.modHost_red (s : State) (w : Ident) (f : HostRec → HostRec) : (s.modHost w f).red = s.red := rfl
@[simp] theorem State.modHost_recd (s : State) (w : Ident) (f : HostRec → HostRec) : (s.modHost w f).recd = s.recd := rfl
@[simp] theorem State.modHost_pk (s : State) (w : Ident) (f : HostRec → HostRec) : (s.modHost w f).pk = s.pk := rfl
@[simp] theorem State.modHost_chan_ready (s : State) (w : Ident) (f : HostRec → HostRec) : (s.modHost w f).chan.ready = s.chan.ready := rfl
@[simp] theorem State.modHost_chan_opens (s : State) (w : Ident) (f : HostRec → HostRec) : (s.modHost w f).chan.opens = s.chan.opens := rfl
@[simp] theorem State.modHost_chan_nextId (s : State) (w : Ident) (f : HostRec → HostRec) : (s.modHost w f).chan.nextId = s.chan.nextId := rfl
@[simp] theorem State.modHost_chan_cnt (s : State) (w : Ident) (f : HostRec → HostRec) : (s.modHost w f).chan.cnt = s.chan.cnt := rfl
@[simp] theorem State.modHost_chan_rxBytes (s : State) (w : Ident) (f : HostRec → HostRec) : (s.modHost w f).chan.rxBytes = s.chan.rxBytes := rfl
@[simp] theorem State.modHost_chan_txBytes (s : State) (w : Ident) (f : HostRec → HostRec) : (s.modHost w f).chan.txBytes = s.chan.txBytes := rfl
@[simp] theorem State.modHost_chan_results (s : State) (w : Ident) (f : HostRec → HostRec) : (s.modHost w f).chan.results = s.chan.results := rfl
@[simp] theorem State.modHost_chan_hosts (s : State) (w : Ident) (f : HostRec → HostRec) :
    (s.modHost w f).chan.hosts = s.chan.hosts.map (fun h => if h.ident = w then f h else h) := rfl

/-! A serial port changed. -/

@[simp] theorem State.setPort_mono (s : State) (p : Nat) (x : SerPort) : (s.setPort p x).mono = s.mono := rfl
@[simp] theorem State.setPort_pending (s : State) (p : Nat) (x : SerPort) : (s.setPort p x).pending = s.pending := rfl
@[simp] theorem State.setPort_out (s : State) (p : Nat) (x : SerPort) : (s.setPort p x).out = s.out := rfl
@[simp] theorem State.setPort_regs (s : State) (p : Nat) (x : SerPort) : (s.setPort p x).regs = s.regs := rfl
@[simp] theorem State.setPort_pers (s : State) (p : Nat) (x : SerPort) : (s.setPort p x).pers = s.pers := rfl
@[simp] theorem State.setPort_profile (s : State) (p : Nat) (x : SerPort) : (s.setPort p x).profile = s.profile := rfl
@[simp] theorem State.setPort_stored (s : State) (p : Nat) (x : SerPort) : (s.setPort p x).stored = s.stored := rfl
@[simp] theorem State.setPort_cfg (s : State) (p : Nat) (x : SerPort) : (s.setPort p x).cfg = s.cfg := rfl
@[simp] theorem State.setPort_chan (s : State) (p : Nat) (x : SerPort) : (s.setPort p x).chan = s.chan := rfl
@[simp] theorem State.setPort_evt (s : State) (p : Nat) (x : SerPort) : (s.setPort p x).evt = s.evt := rfl
@[simp] theorem State.setPort_cyc (s : State) (p : Nat) (x : SerPort) : (s.setPort p x).cyc = s.cyc := rfl
@[simp] theorem State.setPort_mbx (s : State) (p : Nat) (x : SerPort) : (s.setPort p x).mbx = s.mbx := rfl
@[simp] theorem State.setPort_clk (s : State) (p : Nat) (x : SerPort) : (s.setPort p x).clk = s.clk := rfl
@[simp] theorem State.setPort_sup (s : State) (p : Nat) (x : SerPort) : (s.setPort p x).sup = s.sup := rfl
@[simp] theorem State.setPort_fw (s : State) (p : Nat) (x : SerPort) : (s.setPort p x).fw = s.fw := rfl
@[simp] theorem State.setPort_svc (s : State) (p : Nat) (x : SerPort) : (s.setPort p x).svc = s.svc := rfl
@[simp] theorem State.setPort_saved (s : State) (p : Nat) (x : SerPort) : (s.setPort p x).saved = s.saved := rfl
@[simp] theorem State.setPort_tim (s : State) (p : Nat) (x : SerPort) : (s.setPort p x).tim = s.tim := rfl
@[simp] theorem State.setPort_gns (s : State) (p : Nat) (x : SerPort) : (s.setPort p x).gns = s.gns := rfl
@[simp] theorem State.setPort_fus (s : State) (p : Nat) (x : SerPort) : (s.setPort p x).fus = s.fus := rfl
@[simp] theorem State.setPort_ctl (s : State) (p : Nat) (x : SerPort) : (s.setPort p x).ctl = s.ctl := rfl
@[simp] theorem State.setPort_alc (s : State) (p : Nat) (x : SerPort) : (s.setPort p x).alc = s.alc := rfl
@[simp] theorem State.setPort_srv (s : State) (p : Nat) (x : SerPort) : (s.setPort p x).srv = s.srv := rfl
@[simp] theorem State.setPort_can0 (s : State) (p : Nat) (x : SerPort) : (s.setPort p x).can0 = s.can0 := rfl
@[simp] theorem State.setPort_can1 (s : State) (p : Nat) (x : SerPort) : (s.setPort p x).can1 = s.can1 := rfl
@[simp] theorem State.setPort_crc (s : State) (p : Nat) (x : SerPort) : (s.setPort p x).crc = s.crc := rfl
@[simp] theorem State.setPort_fld (s : State) (p : Nat) (x : SerPort) : (s.setPort p x).fld = s.fld := rfl
@[simp] theorem State.setPort_aio (s : State) (p : Nat) (x : SerPort) : (s.setPort p x).aio = s.aio := rfl
@[simp] theorem State.setPort_lgc (s : State) (p : Nat) (x : SerPort) : (s.setPort p x).lgc = s.lgc := rfl
@[simp] theorem State.setPort_saf (s : State) (p : Nat) (x : SerPort) : (s.setPort p x).saf = s.saf := rfl
@[simp] theorem State.setPort_red (s : State) (p : Nat) (x : SerPort) : (s.setPort p x).red = s.red := rfl
@[simp] theorem State.setPort_recd (s : State) (p : Nat) (x : SerPort) : (s.setPort p x).recd = s.recd := rfl
@[simp] theorem State.setPort_pk (s : State) (p : Nat) (x : SerPort) : (s.setPort p x).pk = s.pk := rfl
/-! A clock domain changed. -/

@[simp] theorem State.setDom_mono (s : State) (d : Nat) (x : Domain) : (s.setDom d x).mono = s.mono := rfl
@[simp] theorem State.setDom_pending (s : State) (d : Nat) (x : Domain) : (s.setDom d x).pending = s.pending := rfl
@[simp] theorem State.setDom_out (s : State) (d : Nat) (x : Domain) : (s.setDom d x).out = s.out := rfl
@[simp] theorem State.setDom_regs (s : State) (d : Nat) (x : Domain) : (s.setDom d x).regs = s.regs := rfl
@[simp] theorem State.setDom_pers (s : State) (d : Nat) (x : Domain) : (s.setDom d x).pers = s.pers := rfl
@[simp] theorem State.setDom_profile (s : State) (d : Nat) (x : Domain) : (s.setDom d x).profile = s.profile := rfl
@[simp] theorem State.setDom_stored (s : State) (d : Nat) (x : Domain) : (s.setDom d x).stored = s.stored := rfl
@[simp] theorem State.setDom_cfg (s : State) (d : Nat) (x : Domain) : (s.setDom d x).cfg = s.cfg := rfl
@[simp] theorem State.setDom_chan (s : State) (d : Nat) (x : Domain) : (s.setDom d x).chan = s.chan := rfl
@[simp] theorem State.setDom_evt (s : State) (d : Nat) (x : Domain) : (s.setDom d x).evt = s.evt := rfl
@[simp] theorem State.setDom_cyc (s : State) (d : Nat) (x : Domain) : (s.setDom d x).cyc = s.cyc := rfl
@[simp] theorem State.setDom_mbx (s : State) (d : Nat) (x : Domain) : (s.setDom d x).mbx = s.mbx := rfl
@[simp] theorem State.setDom_sup (s : State) (d : Nat) (x : Domain) : (s.setDom d x).sup = s.sup := rfl
@[simp] theorem State.setDom_fw (s : State) (d : Nat) (x : Domain) : (s.setDom d x).fw = s.fw := rfl
@[simp] theorem State.setDom_svc (s : State) (d : Nat) (x : Domain) : (s.setDom d x).svc = s.svc := rfl
@[simp] theorem State.setDom_saved (s : State) (d : Nat) (x : Domain) : (s.setDom d x).saved = s.saved := rfl
@[simp] theorem State.setDom_tim (s : State) (d : Nat) (x : Domain) : (s.setDom d x).tim = s.tim := rfl
@[simp] theorem State.setDom_gns (s : State) (d : Nat) (x : Domain) : (s.setDom d x).gns = s.gns := rfl
@[simp] theorem State.setDom_fus (s : State) (d : Nat) (x : Domain) : (s.setDom d x).fus = s.fus := rfl
@[simp] theorem State.setDom_ctl (s : State) (d : Nat) (x : Domain) : (s.setDom d x).ctl = s.ctl := rfl
@[simp] theorem State.setDom_alc (s : State) (d : Nat) (x : Domain) : (s.setDom d x).alc = s.alc := rfl
@[simp] theorem State.setDom_srv (s : State) (d : Nat) (x : Domain) : (s.setDom d x).srv = s.srv := rfl
@[simp] theorem State.setDom_ser (s : State) (d : Nat) (x : Domain) : (s.setDom d x).ser = s.ser := rfl
@[simp] theorem State.setDom_can0 (s : State) (d : Nat) (x : Domain) : (s.setDom d x).can0 = s.can0 := rfl
@[simp] theorem State.setDom_can1 (s : State) (d : Nat) (x : Domain) : (s.setDom d x).can1 = s.can1 := rfl
@[simp] theorem State.setDom_crc (s : State) (d : Nat) (x : Domain) : (s.setDom d x).crc = s.crc := rfl
@[simp] theorem State.setDom_fld (s : State) (d : Nat) (x : Domain) : (s.setDom d x).fld = s.fld := rfl
@[simp] theorem State.setDom_aio (s : State) (d : Nat) (x : Domain) : (s.setDom d x).aio = s.aio := rfl
@[simp] theorem State.setDom_lgc (s : State) (d : Nat) (x : Domain) : (s.setDom d x).lgc = s.lgc := rfl
@[simp] theorem State.setDom_saf (s : State) (d : Nat) (x : Domain) : (s.setDom d x).saf = s.saf := rfl
@[simp] theorem State.setDom_red (s : State) (d : Nat) (x : Domain) : (s.setDom d x).red = s.red := rfl
@[simp] theorem State.setDom_recd (s : State) (d : Nat) (x : Domain) : (s.setDom d x).recd = s.recd := rfl
@[simp] theorem State.setDom_pk (s : State) (d : Nat) (x : Domain) : (s.setDom d x).pk = s.pk := rfl

end Sys2Proof.Machine
end

