-- ==== Sys2Proof/Laws/Frame.lean ====
section
/-! SUPPORT. The frames of the shared operations, field by field, from their shapes in Laws/Effects.lean. -/

namespace Sys2Proof.Machine

/-! apply -/

@[simp] theorem State.apply_mono (s : State) (t : Nat) (fx : List Fx) : (s.apply t fx).mono = s.mono := by obtain ⟨_, _, _, _, _, h, _⟩ := s.apply_touches t fx; rw [h]
@[simp] theorem State.apply_pending (s : State) (t : Nat) (fx : List Fx) : (s.apply t fx).pending = s.pending := by obtain ⟨_, _, _, _, _, h, _⟩ := s.apply_touches t fx; rw [h]
@[simp] theorem State.apply_pers (s : State) (t : Nat) (fx : List Fx) : (s.apply t fx).pers = s.pers := by obtain ⟨_, _, _, _, _, h, _⟩ := s.apply_touches t fx; rw [h]
@[simp] theorem State.apply_profile (s : State) (t : Nat) (fx : List Fx) : (s.apply t fx).profile = s.profile := by obtain ⟨_, _, _, _, _, h, _⟩ := s.apply_touches t fx; rw [h]
@[simp] theorem State.apply_stored (s : State) (t : Nat) (fx : List Fx) : (s.apply t fx).stored = s.stored := by obtain ⟨_, _, _, _, _, h, _⟩ := s.apply_touches t fx; rw [h]
@[simp] theorem State.apply_cfg (s : State) (t : Nat) (fx : List Fx) : (s.apply t fx).cfg = s.cfg := by obtain ⟨_, _, _, _, _, h, _⟩ := s.apply_touches t fx; rw [h]
@[simp] theorem State.apply_cyc (s : State) (t : Nat) (fx : List Fx) : (s.apply t fx).cyc = s.cyc := by obtain ⟨_, _, _, _, _, h, _⟩ := s.apply_touches t fx; rw [h]
@[simp] theorem State.apply_mbx (s : State) (t : Nat) (fx : List Fx) : (s.apply t fx).mbx = s.mbx := by obtain ⟨_, _, _, _, _, h, _⟩ := s.apply_touches t fx; rw [h]
@[simp] theorem State.apply_clk (s : State) (t : Nat) (fx : List Fx) : (s.apply t fx).clk = s.clk := by obtain ⟨_, _, _, _, _, h, _⟩ := s.apply_touches t fx; rw [h]
@[simp] theorem State.apply_sup (s : State) (t : Nat) (fx : List Fx) : (s.apply t fx).sup = s.sup := by obtain ⟨_, _, _, _, _, h, _⟩ := s.apply_touches t fx; rw [h]
@[simp] theorem State.apply_fw (s : State) (t : Nat) (fx : List Fx) : (s.apply t fx).fw = s.fw := by obtain ⟨_, _, _, _, _, h, _⟩ := s.apply_touches t fx; rw [h]
@[simp] theorem State.apply_svc (s : State) (t : Nat) (fx : List Fx) : (s.apply t fx).svc = s.svc := by obtain ⟨_, _, _, _, _, h, _⟩ := s.apply_touches t fx; rw [h]
@[simp] theorem State.apply_saved (s : State) (t : Nat) (fx : List Fx) : (s.apply t fx).saved = s.saved := by obtain ⟨_, _, _, _, _, h, _⟩ := s.apply_touches t fx; rw [h]
@[simp] theorem State.apply_tim (s : State) (t : Nat) (fx : List Fx) : (s.apply t fx).tim = s.tim := by obtain ⟨_, _, _, _, _, h, _⟩ := s.apply_touches t fx; rw [h]
@[simp] theorem State.apply_gns (s : State) (t : Nat) (fx : List Fx) : (s.apply t fx).gns = s.gns := by obtain ⟨_, _, _, _, _, h, _⟩ := s.apply_touches t fx; rw [h]
@[simp] theorem State.apply_fus (s : State) (t : Nat) (fx : List Fx) : (s.apply t fx).fus = s.fus := by obtain ⟨_, _, _, _, _, h, _⟩ := s.apply_touches t fx; rw [h]
@[simp] theorem State.apply_ctl (s : State) (t : Nat) (fx : List Fx) : (s.apply t fx).ctl = s.ctl := by obtain ⟨_, _, _, _, _, h, _⟩ := s.apply_touches t fx; rw [h]
@[simp] theorem State.apply_alc (s : State) (t : Nat) (fx : List Fx) : (s.apply t fx).alc = s.alc := by obtain ⟨_, _, _, _, _, h, _⟩ := s.apply_touches t fx; rw [h]
@[simp] theorem State.apply_srv (s : State) (t : Nat) (fx : List Fx) : (s.apply t fx).srv = s.srv := by obtain ⟨_, _, _, _, _, h, _⟩ := s.apply_touches t fx; rw [h]
@[simp] theorem State.apply_ser (s : State) (t : Nat) (fx : List Fx) : (s.apply t fx).ser = s.ser := by obtain ⟨_, _, _, _, _, h, _⟩ := s.apply_touches t fx; rw [h]
@[simp] theorem State.apply_can0 (s : State) (t : Nat) (fx : List Fx) : (s.apply t fx).can0 = s.can0 := by obtain ⟨_, _, _, _, _, h, _⟩ := s.apply_touches t fx; rw [h]
@[simp] theorem State.apply_can1 (s : State) (t : Nat) (fx : List Fx) : (s.apply t fx).can1 = s.can1 := by obtain ⟨_, _, _, _, _, h, _⟩ := s.apply_touches t fx; rw [h]
@[simp] theorem State.apply_crc (s : State) (t : Nat) (fx : List Fx) : (s.apply t fx).crc = s.crc := by obtain ⟨_, _, _, _, _, h, _⟩ := s.apply_touches t fx; rw [h]
@[simp] theorem State.apply_fld (s : State) (t : Nat) (fx : List Fx) : (s.apply t fx).fld = s.fld := by obtain ⟨_, _, _, _, _, h, _⟩ := s.apply_touches t fx; rw [h]
@[simp] theorem State.apply_aio (s : State) (t : Nat) (fx : List Fx) : (s.apply t fx).aio = s.aio := by obtain ⟨_, _, _, _, _, h, _⟩ := s.apply_touches t fx; rw [h]
@[simp] theorem State.apply_lgc (s : State) (t : Nat) (fx : List Fx) : (s.apply t fx).lgc = s.lgc := by obtain ⟨_, _, _, _, _, h, _⟩ := s.apply_touches t fx; rw [h]
@[simp] theorem State.apply_saf (s : State) (t : Nat) (fx : List Fx) : (s.apply t fx).saf = s.saf := by obtain ⟨_, _, _, _, _, h, _⟩ := s.apply_touches t fx; rw [h]
@[simp] theorem State.apply_red (s : State) (t : Nat) (fx : List Fx) : (s.apply t fx).red = s.red := by obtain ⟨_, _, _, _, _, h, _⟩ := s.apply_touches t fx; rw [h]
@[simp] theorem State.apply_pk (s : State) (t : Nat) (fx : List Fx) : (s.apply t fx).pk = s.pk := by obtain ⟨_, _, _, _, _, h, _⟩ := s.apply_touches t fx; rw [h]
@[simp] theorem State.apply_chan_ready (s : State) (t : Nat) (fx : List Fx) : (s.apply t fx).chan.ready = s.chan.ready := by obtain ⟨_, _, _, _, _, h, _⟩ := s.apply_touches t fx; rw [h]
@[simp] theorem State.apply_chan_hosts (s : State) (t : Nat) (fx : List Fx) : (s.apply t fx).chan.hosts = s.chan.hosts := by obtain ⟨_, _, _, _, _, h, _⟩ := s.apply_touches t fx; rw [h]
@[simp] theorem State.apply_chan_opens (s : State) (t : Nat) (fx : List Fx) : (s.apply t fx).chan.opens = s.chan.opens := by obtain ⟨_, _, _, _, _, h, _⟩ := s.apply_touches t fx; rw [h]
@[simp] theorem State.apply_chan_nextId (s : State) (t : Nat) (fx : List Fx) : (s.apply t fx).chan.nextId = s.chan.nextId := by obtain ⟨_, _, _, _, _, h, _⟩ := s.apply_touches t fx; rw [h]
@[simp] theorem State.apply_chan_cnt (s : State) (t : Nat) (fx : List Fx) : (s.apply t fx).chan.cnt = s.chan.cnt := by obtain ⟨_, _, _, _, _, h, _⟩ := s.apply_touches t fx; rw [h]
@[simp] theorem State.apply_chan_rxBytes (s : State) (t : Nat) (fx : List Fx) : (s.apply t fx).chan.rxBytes = s.chan.rxBytes := by obtain ⟨_, _, _, _, _, h, _⟩ := s.apply_touches t fx; rw [h]
@[simp] theorem State.apply_chan_results (s : State) (t : Nat) (fx : List Fx) : (s.apply t fx).chan.results = s.chan.results := by obtain ⟨_, _, _, _, _, h, _⟩ := s.apply_touches t fx; rw [h]
theorem State.apply_mem_out (s : State) (t : Nat) (fx : List Fx) (o : Out) (ho : o ∈ s.out) : o ∈ (s.apply t fx).out := by
  obtain ⟨_, _, _, _, _, h, _⟩ := s.apply_touches t fx; rw [h]; exact List.mem_append_left _ ho
theorem State.apply_regsOk (s : State) (t : Nat) (fx : List Fx) (k : regsOk s.regs) : regsOk (s.apply t fx).regs := by
  obtain ⟨_, _, _, _, _, h, g⟩ := s.apply_touches t fx; rw [h]; exact g k

/-! plainFx -/

@[simp] theorem State.plainFx_mono (s : State) (f : Fx) : (s.plainFx f).mono = s.mono := by obtain ⟨_, _, _, _, _, h, _⟩ := s.plainFx_touches f; rw [h]
@[simp] theorem State.plainFx_pending (s : State) (f : Fx) : (s.plainFx f).pending = s.pending := by obtain ⟨_, _, _, _, _, h, _⟩ := s.plainFx_touches f; rw [h]
@[simp] theorem State.plainFx_pers (s : State) (f : Fx) : (s.plainFx f).pers = s.pers := by obtain ⟨_, _, _, _, _, h, _⟩ := s.plainFx_touches f; rw [h]
@[simp] theorem State.plainFx_profile (s : State) (f : Fx) : (s.plainFx f).profile = s.profile := by obtain ⟨_, _, _, _, _, h, _⟩ := s.plainFx_touches f; rw [h]
@[simp] theorem State.plainFx_stored (s : State) (f : Fx) : (s.plainFx f).stored = s.stored := by obtain ⟨_, _, _, _, _, h, _⟩ := s.plainFx_touches f; rw [h]
@[simp] theorem State.plainFx_cfg (s : State) (f : Fx) : (s.plainFx f).cfg = s.cfg := by obtain ⟨_, _, _, _, _, h, _⟩ := s.plainFx_touches f; rw [h]
@[simp] theorem State.plainFx_cyc (s : State) (f : Fx) : (s.plainFx f).cyc = s.cyc := by obtain ⟨_, _, _, _, _, h, _⟩ := s.plainFx_touches f; rw [h]
@[simp] theorem State.plainFx_mbx (s : State) (f : Fx) : (s.plainFx f).mbx = s.mbx := by obtain ⟨_, _, _, _, _, h, _⟩ := s.plainFx_touches f; rw [h]
@[simp] theorem State.plainFx_clk (s : State) (f : Fx) : (s.plainFx f).clk = s.clk := by obtain ⟨_, _, _, _, _, h, _⟩ := s.plainFx_touches f; rw [h]
@[simp] theorem State.plainFx_sup (s : State) (f : Fx) : (s.plainFx f).sup = s.sup := by obtain ⟨_, _, _, _, _, h, _⟩ := s.plainFx_touches f; rw [h]
@[simp] theorem State.plainFx_fw (s : State) (f : Fx) : (s.plainFx f).fw = s.fw := by obtain ⟨_, _, _, _, _, h, _⟩ := s.plainFx_touches f; rw [h]
@[simp] theorem State.plainFx_svc (s : State) (f : Fx) : (s.plainFx f).svc = s.svc := by obtain ⟨_, _, _, _, _, h, _⟩ := s.plainFx_touches f; rw [h]
@[simp] theorem State.plainFx_saved (s : State) (f : Fx) : (s.plainFx f).saved = s.saved := by obtain ⟨_, _, _, _, _, h, _⟩ := s.plainFx_touches f; rw [h]
@[simp] theorem State.plainFx_tim (s : State) (f : Fx) : (s.plainFx f).tim = s.tim := by obtain ⟨_, _, _, _, _, h, _⟩ := s.plainFx_touches f; rw [h]
@[simp] theorem State.plainFx_gns (s : State) (f : Fx) : (s.plainFx f).gns = s.gns := by obtain ⟨_, _, _, _, _, h, _⟩ := s.plainFx_touches f; rw [h]
@[simp] theorem State.plainFx_fus (s : State) (f : Fx) : (s.plainFx f).fus = s.fus := by obtain ⟨_, _, _, _, _, h, _⟩ := s.plainFx_touches f; rw [h]
@[simp] theorem State.plainFx_ctl (s : State) (f : Fx) : (s.plainFx f).ctl = s.ctl := by obtain ⟨_, _, _, _, _, h, _⟩ := s.plainFx_touches f; rw [h]
@[simp] theorem State.plainFx_alc (s : State) (f : Fx) : (s.plainFx f).alc = s.alc := by obtain ⟨_, _, _, _, _, h, _⟩ := s.plainFx_touches f; rw [h]
@[simp] theorem State.plainFx_srv (s : State) (f : Fx) : (s.plainFx f).srv = s.srv := by obtain ⟨_, _, _, _, _, h, _⟩ := s.plainFx_touches f; rw [h]
@[simp] theorem State.plainFx_ser (s : State) (f : Fx) : (s.plainFx f).ser = s.ser := by obtain ⟨_, _, _, _, _, h, _⟩ := s.plainFx_touches f; rw [h]
@[simp] theorem State.plainFx_can0 (s : State) (f : Fx) : (s.plainFx f).can0 = s.can0 := by obtain ⟨_, _, _, _, _, h, _⟩ := s.plainFx_touches f; rw [h]
@[simp] theorem State.plainFx_can1 (s : State) (f : Fx) : (s.plainFx f).can1 = s.can1 := by obtain ⟨_, _, _, _, _, h, _⟩ := s.plainFx_touches f; rw [h]
@[simp] theorem State.plainFx_crc (s : State) (f : Fx) : (s.plainFx f).crc = s.crc := by obtain ⟨_, _, _, _, _, h, _⟩ := s.plainFx_touches f; rw [h]
@[simp] theorem State.plainFx_fld (s : State) (f : Fx) : (s.plainFx f).fld = s.fld := by obtain ⟨_, _, _, _, _, h, _⟩ := s.plainFx_touches f; rw [h]
@[simp] theorem State.plainFx_aio (s : State) (f : Fx) : (s.plainFx f).aio = s.aio := by obtain ⟨_, _, _, _, _, h, _⟩ := s.plainFx_touches f; rw [h]
@[simp] theorem State.plainFx_lgc (s : State) (f : Fx) : (s.plainFx f).lgc = s.lgc := by obtain ⟨_, _, _, _, _, h, _⟩ := s.plainFx_touches f; rw [h]
@[simp] theorem State.plainFx_saf (s : State) (f : Fx) : (s.plainFx f).saf = s.saf := by obtain ⟨_, _, _, _, _, h, _⟩ := s.plainFx_touches f; rw [h]
@[simp] theorem State.plainFx_red (s : State) (f : Fx) : (s.plainFx f).red = s.red := by obtain ⟨_, _, _, _, _, h, _⟩ := s.plainFx_touches f; rw [h]
@[simp] theorem State.plainFx_pk (s : State) (f : Fx) : (s.plainFx f).pk = s.pk := by obtain ⟨_, _, _, _, _, h, _⟩ := s.plainFx_touches f; rw [h]
@[simp] theorem State.plainFx_chan_ready (s : State) (f : Fx) : (s.plainFx f).chan.ready = s.chan.ready := by obtain ⟨_, _, _, _, _, h, _⟩ := s.plainFx_touches f; rw [h]
@[simp] theorem State.plainFx_chan_hosts (s : State) (f : Fx) : (s.plainFx f).chan.hosts = s.chan.hosts := by obtain ⟨_, _, _, _, _, h, _⟩ := s.plainFx_touches f; rw [h]
@[simp] theorem State.plainFx_chan_opens (s : State) (f : Fx) : (s.plainFx f).chan.opens = s.chan.opens := by obtain ⟨_, _, _, _, _, h, _⟩ := s.plainFx_touches f; rw [h]
@[simp] theorem State.plainFx_chan_nextId (s : State) (f : Fx) : (s.plainFx f).chan.nextId = s.chan.nextId := by obtain ⟨_, _, _, _, _, h, _⟩ := s.plainFx_touches f; rw [h]
@[simp] theorem State.plainFx_chan_cnt (s : State) (f : Fx) : (s.plainFx f).chan.cnt = s.chan.cnt := by obtain ⟨_, _, _, _, _, h, _⟩ := s.plainFx_touches f; rw [h]
@[simp] theorem State.plainFx_chan_rxBytes (s : State) (f : Fx) : (s.plainFx f).chan.rxBytes = s.chan.rxBytes := by obtain ⟨_, _, _, _, _, h, _⟩ := s.plainFx_touches f; rw [h]
@[simp] theorem State.plainFx_chan_results (s : State) (f : Fx) : (s.plainFx f).chan.results = s.chan.results := by obtain ⟨_, _, _, _, _, h, _⟩ := s.plainFx_touches f; rw [h]
theorem State.plainFx_mem_out (s : State) (f : Fx) (o : Out) (ho : o ∈ s.out) : o ∈ (s.plainFx f).out := by
  obtain ⟨_, _, _, _, _, h, _⟩ := s.plainFx_touches f; rw [h]; exact List.mem_append_left _ ho
theorem State.plainFx_regsOk (s : State) (f : Fx) (k : regsOk s.regs) : regsOk (s.plainFx f).regs := by
  obtain ⟨_, _, _, _, _, h, g⟩ := s.plainFx_touches f; rw [h]; exact g k

/-! send -/

@[simp] theorem State.send_mono (s : State) (n : Nat) (d : Src) (b : List Byte) : (s.send n d b).mono = s.mono := by obtain ⟨_, _, _, _, _, h, _⟩ := s.send_touches n d b; rw [h]
@[simp] theorem State.send_pending (s : State) (n : Nat) (d : Src) (b : List Byte) : (s.send n d b).pending = s.pending := by obtain ⟨_, _, _, _, _, h, _⟩ := s.send_touches n d b; rw [h]
@[simp] theorem State.send_pers (s : State) (n : Nat) (d : Src) (b : List Byte) : (s.send n d b).pers = s.pers := by obtain ⟨_, _, _, _, _, h, _⟩ := s.send_touches n d b; rw [h]
@[simp] theorem State.send_profile (s : State) (n : Nat) (d : Src) (b : List Byte) : (s.send n d b).profile = s.profile := by obtain ⟨_, _, _, _, _, h, _⟩ := s.send_touches n d b; rw [h]
@[simp] theorem State.send_stored (s : State) (n : Nat) (d : Src) (b : List Byte) : (s.send n d b).stored = s.stored := by obtain ⟨_, _, _, _, _, h, _⟩ := s.send_touches n d b; rw [h]
@[simp] theorem State.send_cfg (s : State) (n : Nat) (d : Src) (b : List Byte) : (s.send n d b).cfg = s.cfg := by obtain ⟨_, _, _, _, _, h, _⟩ := s.send_touches n d b; rw [h]
@[simp] theorem State.send_cyc (s : State) (n : Nat) (d : Src) (b : List Byte) : (s.send n d b).cyc = s.cyc := by obtain ⟨_, _, _, _, _, h, _⟩ := s.send_touches n d b; rw [h]
@[simp] theorem State.send_mbx (s : State) (n : Nat) (d : Src) (b : List Byte) : (s.send n d b).mbx = s.mbx := by obtain ⟨_, _, _, _, _, h, _⟩ := s.send_touches n d b; rw [h]
@[simp] theorem State.send_clk (s : State) (n : Nat) (d : Src) (b : List Byte) : (s.send n d b).clk = s.clk := by obtain ⟨_, _, _, _, _, h, _⟩ := s.send_touches n d b; rw [h]
@[simp] theorem State.send_sup (s : State) (n : Nat) (d : Src) (b : List Byte) : (s.send n d b).sup = s.sup := by obtain ⟨_, _, _, _, _, h, _⟩ := s.send_touches n d b; rw [h]
@[simp] theorem State.send_fw (s : State) (n : Nat) (d : Src) (b : List Byte) : (s.send n d b).fw = s.fw := by obtain ⟨_, _, _, _, _, h, _⟩ := s.send_touches n d b; rw [h]
@[simp] theorem State.send_svc (s : State) (n : Nat) (d : Src) (b : List Byte) : (s.send n d b).svc = s.svc := by obtain ⟨_, _, _, _, _, h, _⟩ := s.send_touches n d b; rw [h]
@[simp] theorem State.send_saved (s : State) (n : Nat) (d : Src) (b : List Byte) : (s.send n d b).saved = s.saved := by obtain ⟨_, _, _, _, _, h, _⟩ := s.send_touches n d b; rw [h]
@[simp] theorem State.send_tim (s : State) (n : Nat) (d : Src) (b : List Byte) : (s.send n d b).tim = s.tim := by obtain ⟨_, _, _, _, _, h, _⟩ := s.send_touches n d b; rw [h]
@[simp] theorem State.send_gns (s : State) (n : Nat) (d : Src) (b : List Byte) : (s.send n d b).gns = s.gns := by obtain ⟨_, _, _, _, _, h, _⟩ := s.send_touches n d b; rw [h]
@[simp] theorem State.send_fus (s : State) (n : Nat) (d : Src) (b : List Byte) : (s.send n d b).fus = s.fus := by obtain ⟨_, _, _, _, _, h, _⟩ := s.send_touches n d b; rw [h]
@[simp] theorem State.send_ctl (s : State) (n : Nat) (d : Src) (b : List Byte) : (s.send n d b).ctl = s.ctl := by obtain ⟨_, _, _, _, _, h, _⟩ := s.send_touches n d b; rw [h]
@[simp] theorem State.send_alc (s : State) (n : Nat) (d : Src) (b : List Byte) : (s.send n d b).alc = s.alc := by obtain ⟨_, _, _, _, _, h, _⟩ := s.send_touches n d b; rw [h]
@[simp] theorem State.send_srv (s : State) (n : Nat) (d : Src) (b : List Byte) : (s.send n d b).srv = s.srv := by obtain ⟨_, _, _, _, _, h, _⟩ := s.send_touches n d b; rw [h]
@[simp] theorem State.send_ser (s : State) (n : Nat) (d : Src) (b : List Byte) : (s.send n d b).ser = s.ser := by obtain ⟨_, _, _, _, _, h, _⟩ := s.send_touches n d b; rw [h]
@[simp] theorem State.send_can0 (s : State) (n : Nat) (d : Src) (b : List Byte) : (s.send n d b).can0 = s.can0 := by obtain ⟨_, _, _, _, _, h, _⟩ := s.send_touches n d b; rw [h]
@[simp] theorem State.send_can1 (s : State) (n : Nat) (d : Src) (b : List Byte) : (s.send n d b).can1 = s.can1 := by obtain ⟨_, _, _, _, _, h, _⟩ := s.send_touches n d b; rw [h]
@[simp] theorem State.send_crc (s : State) (n : Nat) (d : Src) (b : List Byte) : (s.send n d b).crc = s.crc := by obtain ⟨_, _, _, _, _, h, _⟩ := s.send_touches n d b; rw [h]
@[simp] theorem State.send_fld (s : State) (n : Nat) (d : Src) (b : List Byte) : (s.send n d b).fld = s.fld := by obtain ⟨_, _, _, _, _, h, _⟩ := s.send_touches n d b; rw [h]
@[simp] theorem State.send_aio (s : State) (n : Nat) (d : Src) (b : List Byte) : (s.send n d b).aio = s.aio := by obtain ⟨_, _, _, _, _, h, _⟩ := s.send_touches n d b; rw [h]
@[simp] theorem State.send_lgc (s : State) (n : Nat) (d : Src) (b : List Byte) : (s.send n d b).lgc = s.lgc := by obtain ⟨_, _, _, _, _, h, _⟩ := s.send_touches n d b; rw [h]
@[simp] theorem State.send_saf (s : State) (n : Nat) (d : Src) (b : List Byte) : (s.send n d b).saf = s.saf := by obtain ⟨_, _, _, _, _, h, _⟩ := s.send_touches n d b; rw [h]
@[simp] theorem State.send_red (s : State) (n : Nat) (d : Src) (b : List Byte) : (s.send n d b).red = s.red := by obtain ⟨_, _, _, _, _, h, _⟩ := s.send_touches n d b; rw [h]
@[simp] theorem State.send_pk (s : State) (n : Nat) (d : Src) (b : List Byte) : (s.send n d b).pk = s.pk := by obtain ⟨_, _, _, _, _, h, _⟩ := s.send_touches n d b; rw [h]
@[simp] theorem State.send_chan_ready (s : State) (n : Nat) (d : Src) (b : List Byte) : (s.send n d b).chan.ready = s.chan.ready := by obtain ⟨_, _, _, _, _, h, _⟩ := s.send_touches n d b; rw [h]
@[simp] theorem State.send_chan_hosts (s : State) (n : Nat) (d : Src) (b : List Byte) : (s.send n d b).chan.hosts = s.chan.hosts := by obtain ⟨_, _, _, _, _, h, _⟩ := s.send_touches n d b; rw [h]
@[simp] theorem State.send_chan_opens (s : State) (n : Nat) (d : Src) (b : List Byte) : (s.send n d b).chan.opens = s.chan.opens := by obtain ⟨_, _, _, _, _, h, _⟩ := s.send_touches n d b; rw [h]
@[simp] theorem State.send_chan_nextId (s : State) (n : Nat) (d : Src) (b : List Byte) : (s.send n d b).chan.nextId = s.chan.nextId := by obtain ⟨_, _, _, _, _, h, _⟩ := s.send_touches n d b; rw [h]
@[simp] theorem State.send_chan_cnt (s : State) (n : Nat) (d : Src) (b : List Byte) : (s.send n d b).chan.cnt = s.chan.cnt := by obtain ⟨_, _, _, _, _, h, _⟩ := s.send_touches n d b; rw [h]
@[simp] theorem State.send_chan_rxBytes (s : State) (n : Nat) (d : Src) (b : List Byte) : (s.send n d b).chan.rxBytes = s.chan.rxBytes := by obtain ⟨_, _, _, _, _, h, _⟩ := s.send_touches n d b; rw [h]
@[simp] theorem State.send_chan_results (s : State) (n : Nat) (d : Src) (b : List Byte) : (s.send n d b).chan.results = s.chan.results := by obtain ⟨_, _, _, _, _, h, _⟩ := s.send_touches n d b; rw [h]
theorem State.send_mem_out (s : State) (n : Nat) (d : Src) (b : List Byte) (o : Out) (ho : o ∈ s.out) : o ∈ (s.send n d b).out := by
  obtain ⟨_, _, _, _, _, h, _⟩ := s.send_touches n d b; rw [h]; exact List.mem_append_left _ ho
theorem State.send_regsOk (s : State) (n : Nat) (d : Src) (b : List Byte) (k : regsOk s.regs) : regsOk (s.send n d b).regs := by
  obtain ⟨_, _, _, _, _, h, g⟩ := s.send_touches n d b; rw [h]; exact g k

/-! occur -/

@[simp] theorem State.occur_mono (s : State) (t ev : Nat) (d : List Byte) : (s.occur t ev d).mono = s.mono := by obtain ⟨_, _, _, _, _, h, _⟩ := s.occur_touches t ev d; rw [h]
@[simp] theorem State.occur_pending (s : State) (t ev : Nat) (d : List Byte) : (s.occur t ev d).pending = s.pending := by obtain ⟨_, _, _, _, _, h, _⟩ := s.occur_touches t ev d; rw [h]
@[simp] theorem State.occur_pers (s : State) (t ev : Nat) (d : List Byte) : (s.occur t ev d).pers = s.pers := by obtain ⟨_, _, _, _, _, h, _⟩ := s.occur_touches t ev d; rw [h]
@[simp] theorem State.occur_profile (s : State) (t ev : Nat) (d : List Byte) : (s.occur t ev d).profile = s.profile := by obtain ⟨_, _, _, _, _, h, _⟩ := s.occur_touches t ev d; rw [h]
@[simp] theorem State.occur_stored (s : State) (t ev : Nat) (d : List Byte) : (s.occur t ev d).stored = s.stored := by obtain ⟨_, _, _, _, _, h, _⟩ := s.occur_touches t ev d; rw [h]
@[simp] theorem State.occur_cfg (s : State) (t ev : Nat) (d : List Byte) : (s.occur t ev d).cfg = s.cfg := by obtain ⟨_, _, _, _, _, h, _⟩ := s.occur_touches t ev d; rw [h]
@[simp] theorem State.occur_cyc (s : State) (t ev : Nat) (d : List Byte) : (s.occur t ev d).cyc = s.cyc := by obtain ⟨_, _, _, _, _, h, _⟩ := s.occur_touches t ev d; rw [h]
@[simp] theorem State.occur_mbx (s : State) (t ev : Nat) (d : List Byte) : (s.occur t ev d).mbx = s.mbx := by obtain ⟨_, _, _, _, _, h, _⟩ := s.occur_touches t ev d; rw [h]
@[simp] theorem State.occur_clk (s : State) (t ev : Nat) (d : List Byte) : (s.occur t ev d).clk = s.clk := by obtain ⟨_, _, _, _, _, h, _⟩ := s.occur_touches t ev d; rw [h]
@[simp] theorem State.occur_sup (s : State) (t ev : Nat) (d : List Byte) : (s.occur t ev d).sup = s.sup := by obtain ⟨_, _, _, _, _, h, _⟩ := s.occur_touches t ev d; rw [h]
@[simp] theorem State.occur_fw (s : State) (t ev : Nat) (d : List Byte) : (s.occur t ev d).fw = s.fw := by obtain ⟨_, _, _, _, _, h, _⟩ := s.occur_touches t ev d; rw [h]
@[simp] theorem State.occur_svc (s : State) (t ev : Nat) (d : List Byte) : (s.occur t ev d).svc = s.svc := by obtain ⟨_, _, _, _, _, h, _⟩ := s.occur_touches t ev d; rw [h]
@[simp] theorem State.occur_saved (s : State) (t ev : Nat) (d : List Byte) : (s.occur t ev d).saved = s.saved := by obtain ⟨_, _, _, _, _, h, _⟩ := s.occur_touches t ev d; rw [h]
@[simp] theorem State.occur_tim (s : State) (t ev : Nat) (d : List Byte) : (s.occur t ev d).tim = s.tim := by obtain ⟨_, _, _, _, _, h, _⟩ := s.occur_touches t ev d; rw [h]
@[simp] theorem State.occur_gns (s : State) (t ev : Nat) (d : List Byte) : (s.occur t ev d).gns = s.gns := by obtain ⟨_, _, _, _, _, h, _⟩ := s.occur_touches t ev d; rw [h]
@[simp] theorem State.occur_fus (s : State) (t ev : Nat) (d : List Byte) : (s.occur t ev d).fus = s.fus := by obtain ⟨_, _, _, _, _, h, _⟩ := s.occur_touches t ev d; rw [h]
@[simp] theorem State.occur_ctl (s : State) (t ev : Nat) (d : List Byte) : (s.occur t ev d).ctl = s.ctl := by obtain ⟨_, _, _, _, _, h, _⟩ := s.occur_touches t ev d; rw [h]
@[simp] theorem State.occur_alc (s : State) (t ev : Nat) (d : List Byte) : (s.occur t ev d).alc = s.alc := by obtain ⟨_, _, _, _, _, h, _⟩ := s.occur_touches t ev d; rw [h]
@[simp] theorem State.occur_srv (s : State) (t ev : Nat) (d : List Byte) : (s.occur t ev d).srv = s.srv := by obtain ⟨_, _, _, _, _, h, _⟩ := s.occur_touches t ev d; rw [h]
@[simp] theorem State.occur_ser (s : State) (t ev : Nat) (d : List Byte) : (s.occur t ev d).ser = s.ser := by obtain ⟨_, _, _, _, _, h, _⟩ := s.occur_touches t ev d; rw [h]
@[simp] theorem State.occur_can0 (s : State) (t ev : Nat) (d : List Byte) : (s.occur t ev d).can0 = s.can0 := by obtain ⟨_, _, _, _, _, h, _⟩ := s.occur_touches t ev d; rw [h]
@[simp] theorem State.occur_can1 (s : State) (t ev : Nat) (d : List Byte) : (s.occur t ev d).can1 = s.can1 := by obtain ⟨_, _, _, _, _, h, _⟩ := s.occur_touches t ev d; rw [h]
@[simp] theorem State.occur_crc (s : State) (t ev : Nat) (d : List Byte) : (s.occur t ev d).crc = s.crc := by obtain ⟨_, _, _, _, _, h, _⟩ := s.occur_touches t ev d; rw [h]
@[simp] theorem State.occur_fld (s : State) (t ev : Nat) (d : List Byte) : (s.occur t ev d).fld = s.fld := by obtain ⟨_, _, _, _, _, h, _⟩ := s.occur_touches t ev d; rw [h]
@[simp] theorem State.occur_aio (s : State) (t ev : Nat) (d : List Byte) : (s.occur t ev d).aio = s.aio := by obtain ⟨_, _, _, _, _, h, _⟩ := s.occur_touches t ev d; rw [h]
@[simp] theorem State.occur_lgc (s : State) (t ev : Nat) (d : List Byte) : (s.occur t ev d).lgc = s.lgc := by obtain ⟨_, _, _, _, _, h, _⟩ := s.occur_touches t ev d; rw [h]
@[simp] theorem State.occur_saf (s : State) (t ev : Nat) (d : List Byte) : (s.occur t ev d).saf = s.saf := by obtain ⟨_, _, _, _, _, h, _⟩ := s.occur_touches t ev d; rw [h]
@[simp] theorem State.occur_red (s : State) (t ev : Nat) (d : List Byte) : (s.occur t ev d).red = s.red := by obtain ⟨_, _, _, _, _, h, _⟩ := s.occur_touches t ev d; rw [h]
@[simp] theorem State.occur_pk (s : State) (t ev : Nat) (d : List Byte) : (s.occur t ev d).pk = s.pk := by obtain ⟨_, _, _, _, _, h, _⟩ := s.occur_touches t ev d; rw [h]
@[simp] theorem State.occur_chan_ready (s : State) (t ev : Nat) (d : List Byte) : (s.occur t ev d).chan.ready = s.chan.ready := by obtain ⟨_, _, _, _, _, h, _⟩ := s.occur_touches t ev d; rw [h]
@[simp] theorem State.occur_chan_hosts (s : State) (t ev : Nat) (d : List Byte) : (s.occur t ev d).chan.hosts = s.chan.hosts := by obtain ⟨_, _, _, _, _, h, _⟩ := s.occur_touches t ev d; rw [h]
@[simp] theorem State.occur_chan_opens (s : State) (t ev : Nat) (d : List Byte) : (s.occur t ev d).chan.opens = s.chan.opens := by obtain ⟨_, _, _, _, _, h, _⟩ := s.occur_touches t ev d; rw [h]
@[simp] theorem State.occur_chan_nextId (s : State) (t ev : Nat) (d : List Byte) : (s.occur t ev d).chan.nextId = s.chan.nextId := by obtain ⟨_, _, _, _, _, h, _⟩ := s.occur_touches t ev d; rw [h]
@[simp] theorem State.occur_chan_cnt (s : State) (t ev : Nat) (d : List Byte) : (s.occur t ev d).chan.cnt = s.chan.cnt := by obtain ⟨_, _, _, _, _, h, _⟩ := s.occur_touches t ev d; rw [h]
@[simp] theorem State.occur_chan_rxBytes (s : State) (t ev : Nat) (d : List Byte) : (s.occur t ev d).chan.rxBytes = s.chan.rxBytes := by obtain ⟨_, _, _, _, _, h, _⟩ := s.occur_touches t ev d; rw [h]
@[simp] theorem State.occur_chan_results (s : State) (t ev : Nat) (d : List Byte) : (s.occur t ev d).chan.results = s.chan.results := by obtain ⟨_, _, _, _, _, h, _⟩ := s.occur_touches t ev d; rw [h]
theorem State.occur_mem_out (s : State) (t ev : Nat) (d : List Byte) (o : Out) (ho : o ∈ s.out) : o ∈ (s.occur t ev d).out := by
  obtain ⟨_, _, _, _, _, h, _⟩ := s.occur_touches t ev d; rw [h]; exact List.mem_append_left _ ho
theorem State.occur_regsOk (s : State) (t ev : Nat) (d : List Byte) (k : regsOk s.regs) : regsOk (s.occur t ev d).regs := by
  obtain ⟨_, _, _, _, _, h, g⟩ := s.occur_touches t ev d; rw [h]; exact g k

/-! finish -/

@[simp] theorem State.finish_pers (s : State) (t : Nat) (q : List Instr) : (s.finish t q).pers = s.pers := by obtain ⟨_, _, _, _, _, _, h, _⟩ := s.finish_shape t q; rw [h]
@[simp] theorem State.finish_profile (s : State) (t : Nat) (q : List Instr) : (s.finish t q).profile = s.profile := by obtain ⟨_, _, _, _, _, _, h, _⟩ := s.finish_shape t q; rw [h]
@[simp] theorem State.finish_stored (s : State) (t : Nat) (q : List Instr) : (s.finish t q).stored = s.stored := by obtain ⟨_, _, _, _, _, _, h, _⟩ := s.finish_shape t q; rw [h]
@[simp] theorem State.finish_cfg (s : State) (t : Nat) (q : List Instr) : (s.finish t q).cfg = s.cfg := by obtain ⟨_, _, _, _, _, _, h, _⟩ := s.finish_shape t q; rw [h]
@[simp] theorem State.finish_cyc (s : State) (t : Nat) (q : List Instr) : (s.finish t q).cyc = s.cyc := by obtain ⟨_, _, _, _, _, _, h, _⟩ := s.finish_shape t q; rw [h]
@[simp] theorem State.finish_mbx (s : State) (t : Nat) (q : List Instr) : (s.finish t q).mbx = s.mbx := by obtain ⟨_, _, _, _, _, _, h, _⟩ := s.finish_shape t q; rw [h]
@[simp] theorem State.finish_clk (s : State) (t : Nat) (q : List Instr) : (s.finish t q).clk = s.clk := by obtain ⟨_, _, _, _, _, _, h, _⟩ := s.finish_shape t q; rw [h]
@[simp] theorem State.finish_sup (s : State) (t : Nat) (q : List Instr) : (s.finish t q).sup = s.sup := by obtain ⟨_, _, _, _, _, _, h, _⟩ := s.finish_shape t q; rw [h]
@[simp] theorem State.finish_fw (s : State) (t : Nat) (q : List Instr) : (s.finish t q).fw = s.fw := by obtain ⟨_, _, _, _, _, _, h, _⟩ := s.finish_shape t q; rw [h]
@[simp] theorem State.finish_svc (s : State) (t : Nat) (q : List Instr) : (s.finish t q).svc = s.svc := by obtain ⟨_, _, _, _, _, _, h, _⟩ := s.finish_shape t q; rw [h]
@[simp] theorem State.finish_saved (s : State) (t : Nat) (q : List Instr) : (s.finish t q).saved = s.saved := by obtain ⟨_, _, _, _, _, _, h, _⟩ := s.finish_shape t q; rw [h]
@[simp] theorem State.finish_tim (s : State) (t : Nat) (q : List Instr) : (s.finish t q).tim = s.tim := by obtain ⟨_, _, _, _, _, _, h, _⟩ := s.finish_shape t q; rw [h]
@[simp] theorem State.finish_gns (s : State) (t : Nat) (q : List Instr) : (s.finish t q).gns = s.gns := by obtain ⟨_, _, _, _, _, _, h, _⟩ := s.finish_shape t q; rw [h]
@[simp] theorem State.finish_fus (s : State) (t : Nat) (q : List Instr) : (s.finish t q).fus = s.fus := by obtain ⟨_, _, _, _, _, _, h, _⟩ := s.finish_shape t q; rw [h]
@[simp] theorem State.finish_ctl (s : State) (t : Nat) (q : List Instr) : (s.finish t q).ctl = s.ctl := by obtain ⟨_, _, _, _, _, _, h, _⟩ := s.finish_shape t q; rw [h]
@[simp] theorem State.finish_alc (s : State) (t : Nat) (q : List Instr) : (s.finish t q).alc = s.alc := by obtain ⟨_, _, _, _, _, _, h, _⟩ := s.finish_shape t q; rw [h]
@[simp] theorem State.finish_srv (s : State) (t : Nat) (q : List Instr) : (s.finish t q).srv = s.srv := by obtain ⟨_, _, _, _, _, _, h, _⟩ := s.finish_shape t q; rw [h]
@[simp] theorem State.finish_can0 (s : State) (t : Nat) (q : List Instr) : (s.finish t q).can0 = s.can0 := by obtain ⟨_, _, _, _, _, _, h, _⟩ := s.finish_shape t q; rw [h]
@[simp] theorem State.finish_can1 (s : State) (t : Nat) (q : List Instr) : (s.finish t q).can1 = s.can1 := by obtain ⟨_, _, _, _, _, _, h, _⟩ := s.finish_shape t q; rw [h]
@[simp] theorem State.finish_crc (s : State) (t : Nat) (q : List Instr) : (s.finish t q).crc = s.crc := by obtain ⟨_, _, _, _, _, _, h, _⟩ := s.finish_shape t q; rw [h]
@[simp] theorem State.finish_fld (s : State) (t : Nat) (q : List Instr) : (s.finish t q).fld = s.fld := by obtain ⟨_, _, _, _, _, _, h, _⟩ := s.finish_shape t q; rw [h]
@[simp] theorem State.finish_aio (s : State) (t : Nat) (q : List Instr) : (s.finish t q).aio = s.aio := by obtain ⟨_, _, _, _, _, _, h, _⟩ := s.finish_shape t q; rw [h]
@[simp] theorem State.finish_lgc (s : State) (t : Nat) (q : List Instr) : (s.finish t q).lgc = s.lgc := by obtain ⟨_, _, _, _, _, _, h, _⟩ := s.finish_shape t q; rw [h]
@[simp] theorem State.finish_saf (s : State) (t : Nat) (q : List Instr) : (s.finish t q).saf = s.saf := by obtain ⟨_, _, _, _, _, _, h, _⟩ := s.finish_shape t q; rw [h]
@[simp] theorem State.finish_red (s : State) (t : Nat) (q : List Instr) : (s.finish t q).red = s.red := by obtain ⟨_, _, _, _, _, _, h, _⟩ := s.finish_shape t q; rw [h]
@[simp] theorem State.finish_pk (s : State) (t : Nat) (q : List Instr) : (s.finish t q).pk = s.pk := by obtain ⟨_, _, _, _, _, _, h, _⟩ := s.finish_shape t q; rw [h]
@[simp] theorem State.finish_chan_ready (s : State) (t : Nat) (q : List Instr) : (s.finish t q).chan.ready = s.chan.ready := by obtain ⟨_, _, _, _, _, _, h, _⟩ := s.finish_shape t q; rw [h]
@[simp] theorem State.finish_chan_hosts (s : State) (t : Nat) (q : List Instr) : (s.finish t q).chan.hosts = s.chan.hosts := by obtain ⟨_, _, _, _, _, _, h, _⟩ := s.finish_shape t q; rw [h]
@[simp] theorem State.finish_chan_opens (s : State) (t : Nat) (q : List Instr) : (s.finish t q).chan.opens = s.chan.opens := by obtain ⟨_, _, _, _, _, _, h, _⟩ := s.finish_shape t q; rw [h]
@[simp] theorem State.finish_chan_nextId (s : State) (t : Nat) (q : List Instr) : (s.finish t q).chan.nextId = s.chan.nextId := by obtain ⟨_, _, _, _, _, _, h, _⟩ := s.finish_shape t q; rw [h]
@[simp] theorem State.finish_chan_cnt (s : State) (t : Nat) (q : List Instr) : (s.finish t q).chan.cnt = s.chan.cnt := by obtain ⟨_, _, _, _, _, _, h, _⟩ := s.finish_shape t q; rw [h]
@[simp] theorem State.finish_chan_rxBytes (s : State) (t : Nat) (q : List Instr) : (s.finish t q).chan.rxBytes = s.chan.rxBytes := by obtain ⟨_, _, _, _, _, _, h, _⟩ := s.finish_shape t q; rw [h]
@[simp] theorem State.finish_chan_results (s : State) (t : Nat) (q : List Instr) : (s.finish t q).chan.results = s.chan.results := by obtain ⟨_, _, _, _, _, _, h, _⟩ := s.finish_shape t q; rw [h]
@[simp] theorem State.finish_mono (s : State) (t : Nat) (q : List Instr) : (s.finish t q).mono = Nat.max s.mono t := by obtain ⟨_, _, _, _, _, _, h, _⟩ := s.finish_shape t q; rw [h]
@[simp] theorem State.finish_pending (s : State) (t : Nat) (q : List Instr) : (s.finish t q).pending = q := by obtain ⟨_, _, _, _, _, _, h, _⟩ := s.finish_shape t q; rw [h]
theorem State.finish_mem_out (s : State) (t : Nat) (q : List Instr) (o : Out) (ho : o ∈ s.out) : o ∈ (s.finish t q).out := by
  obtain ⟨_, _, _, _, _, _, h, _⟩ := s.finish_shape t q; rw [h]; exact List.mem_append_left _ ho
theorem State.finish_regsOk (s : State) (t : Nat) (q : List Instr) (k : regsOk s.regs) : regsOk (s.finish t q).regs := by
  obtain ⟨_, _, _, _, _, _, h, g, _⟩ := s.finish_shape t q; rw [h]; exact g k

/-- The end of a command leaves the serial links but for the alerts and the transmit queues. -/
theorem State.finish_ser (s : State) (t : Nat) (q : List Instr) (a : Ser) : (s.finish t q).ser.withAlerts a = s.ser.withAlerts a := by
  obtain ⟨_, _, _, _, _, _, h, _, g⟩ := s.finish_shape t q; rw [h]; exact g a

end Sys2Proof.Machine
end

