-- ==== Sys2Proof/Laws/Regs.lean ====
section
/-! SUPPORT. What effects do to single registers and to the conditions of events: the frame of the register file, counts and flags, what starts and ends. -/

namespace Sys2Proof.Machine

/-! Bit fields. -/

theorem bits_setBits (n lo w v : Nat) : bits (setBits n lo w v) lo w = v % 2 ^ w := by
  have hp : 0 < 2 ^ lo := Nat.two_pow_pos lo
  have hw : 0 < 2 ^ w := Nat.two_pow_pos w
  have e : n = (n / 2 ^ lo / 2 ^ w) * 2 ^ w * 2 ^ lo + (n / 2 ^ lo % 2 ^ w) * 2 ^ lo + n % 2 ^ lo := by
    conv => lhs; rw [← Nat.div_add_mod n (2 ^ lo), ← Nat.div_add_mod (n / 2 ^ lo) (2 ^ w)]
    rw [Nat.mul_add, Nat.mul_comm (2 ^ w), Nat.mul_comm (2 ^ lo) (_ * _), Nat.mul_comm (2 ^ lo) (_ % _)]
  have e2 : setBits n lo w v = ((n / 2 ^ lo / 2 ^ w) * 2 ^ w + v % 2 ^ w) * 2 ^ lo + n % 2 ^ lo := by
    simp only [setBits, bits, Nat.shiftRight_eq_div_pow]
    conv => lhs; lhs; lhs; rw [e]
    rw [Nat.add_mul]
    omega
  rw [e2]
  simp only [bits, Nat.shiftRight_eq_div_pow]
  rw [Nat.mul_comm _ (2 ^ lo), Nat.mul_add_div hp, Nat.div_eq_of_lt (Nat.mod_lt _ hp), Nat.add_zero, Nat.mul_comm _ (2 ^ w), Nat.mul_add_mod]
  exact Nat.mod_mod _ _

/-- A flag set leaves the other bits. -/
theorem bits_flag (n b c : Nat) : bits (setBits n b 1 1) c 1 = if b = c then 1 else bits n c 1 := by
  by_cases h : b = c
  · subst h
    rw [if_pos rfl]
    exact bits_setBits n b 1 1
  rw [if_neg h]
  have hp : 0 < 2 ^ b := Nat.two_pow_pos b
  have hs : setBits n b 1 1 = n ∨ (setBits n b 1 1 = n + 2 ^ b ∧ n / 2 ^ b % 2 = 0) := by
    simp only [setBits, bits, Nat.shiftRight_eq_div_pow, Nat.pow_one]
    have hle : n / 2 ^ b % 2 * 2 ^ b ≤ n :=
      Nat.le_trans (Nat.mul_le_mul_right _ (Nat.mod_le _ _)) (Nat.div_mul_le_self n (2 ^ b))
    rcases Nat.mod_two_eq_zero_or_one (n / 2 ^ b) with h0 | h1
    · right; rw [h0]; simp
    · left; rw [h1] at hle ⊢; omega
  rcases hs with e | ⟨e, h0⟩
  · rw [e]
  rw [e]
  simp only [bits, Nat.shiftRight_eq_div_pow, Nat.pow_one]
  rcases Nat.lt_or_gt_of_ne h with hlt | hgt
  · have d : n / 2 ^ (b + 1) = (n + 2 ^ b) / 2 ^ (b + 1) := by
      rw [Nat.pow_succ, ← Nat.div_div_eq_div_mul, ← Nat.div_div_eq_div_mul, Nat.add_div_right _ hp]
      omega
    obtain ⟨k, rfl⟩ : ∃ k, c = b + 1 + k := ⟨c - (b + 1), by omega⟩
    rw [Nat.pow_add, ← Nat.div_div_eq_div_mul, ← Nat.div_div_eq_div_mul, d]
  · obtain ⟨k, rfl⟩ : ∃ k, b = c + 1 + k := ⟨b - (c + 1), by omega⟩
    have : 2 ^ (c + 1 + k) = 2 ^ c * (2 * 2 ^ k) := by rw [Nat.pow_add, Nat.pow_succ, Nat.mul_assoc]
    rw [this, Nat.add_mul_div_left _ _ (Nat.two_pow_pos c)]
    omega

theorem bits_mod32 (n : Nat) {k : Nat} (hk : k < 32) : bits (n % 2 ^ 32) k 1 = bits n k 1 := by
  simp only [bits, Nat.shiftRight_eq_div_pow, Nat.pow_one]
  have e : 2 ^ 32 = 2 ^ k * (2 * 2 ^ (31 - k)) := by
    rw [← Nat.mul_assoc, Nat.mul_comm (2 ^ k) 2, Nat.mul_assoc, ← Nat.pow_add, ← Nat.pow_succ', show (k + (31 - k)).succ = 32 by omega]
  rw [e, Nat.mod_mul_right_div_self, Nat.mod_mul_right_mod]

/-! Single registers. -/

theorem State.reg_setReg (s : State) (a b v : Nat) : (s.setReg a v).reg b = if a = b then v % 2 ^ 32 else s.reg b := by
  simp only [State.reg, State.setReg]
  rw [sparseGet_set]
  split
  · simp [BitVec.toNat_ofNat]
  · rfl

@[simp] theorem State.reg_setReg_same (s : State) (a v : Nat) : (s.setReg a v).reg a = v % 2 ^ 32 := by rw [s.reg_setReg, if_pos rfl]

theorem State.reg_setReg_other (s : State) {a b : Nat} (v : Nat) (h : a ≠ b) : (s.setReg a v).reg b = s.reg b := by rw [s.reg_setReg, if_neg h]

/-- The registers an effect can write. -/
def fxRegs : Fx → List Nat
  | .event ev _ | .start ev _ _ | .ended ev _ _ => (Reg.evtLatch + 4 * (ev / 32)) :: [Reg.recCntDrop, Reg.recStatus, Reg.recCntCoalesce]
  | .clear _ _ => []
  | .count a _ | .flag a _ | .field a _ _ _ | .maxi a _ _ _ | .mini a _ _ _ => [a]

theorem State.plainFx_reg (s : State) (f : Fx) (a : Nat) (h : a ∉ fxRegs f) : (s.plainFx f).reg a = s.reg a := by
  cases f <;> first
    | rfl
    | (simp only [fxRegs, List.mem_singleton] at h
       exact s.reg_setReg_other _ (Ne.symm h))

theorem State.plainFxs_reg (fx : List Fx) (s : State) (a : Nat) (h : ∀ f ∈ fx, a ∉ fxRegs f) : (fx.foldl State.plainFx s).reg a = s.reg a := by
  induction fx generalizing s with
  | nil => rfl
  | cons f fx ih =>
    rw [List.foldl_cons, ih _ (fun g hg => h g (List.mem_cons_of_mem _ hg)), State.plainFx_reg _ _ _ (h f List.mem_cons_self)]

/-- Operations that leave the register file. -/
theorem State.send_regs (s : State) (n : Nat) (d : Src) (b : List Byte) : (s.send n d b).regs = s.regs := by
  unfold State.send; split <;> rfl

theorem State.sendEvents_regs (s : State) (d : Dest) (b : Bool) (rs : List EvRec) : (s.sendEvents d b rs).regs = s.regs := by
  have go : ∀ (ps : List Src) (bs : List Byte) (s : State), (ps.foldl (fun (a : State) p => a.send 22481 p bs) s).regs = s.regs := by
    intro ps bs
    induction ps with
    | nil => intro s; rfl
    | cons p ps ih => intro s; rw [List.foldl_cons, ih, State.send_regs]
  simp only [State.sendEvents]
  split <;> exact go _ _ _

theorem State.newRecord_regs (s : State) (i t ev n v e : Nat) (d : List Byte) : (s.newRecord i t ev n v e d).regs = s.regs := by
  unfold State.newRecord
  split
  · rfl
  · exact State.sendEvents_regs _ _ _ _

theorem State.reportTo_regs (t ev : Nat) (d : List Byte) (s : State) (i : Nat) : (State.reportTo t ev d s i).regs = s.regs := by
  unfold State.reportTo
  split
  · rfl
  · split
    · rfl
    · split
      · rfl
      · exact s.newRecord_regs _ _ _ _ _ _ _

theorem State.reports_regs (t ev : Nat) (d : List Byte) (is : List Nat) (s : State) : (is.foldl (State.reportTo t ev d) s).regs = s.regs := by
  induction is generalizing s with
  | nil => rfl
  | cons i is ih => rw [List.foldl_cons, ih, State.reportTo_regs]

/-- An effect of the recorder: it counts or sets a flag in one of the recorder's own registers. -/
def RecFx (f : Fx) : Prop :=
  ∃ a ∈ [Reg.recCntDrop, Reg.recStatus, Reg.recCntCoalesce], fxRegs f = [a] ∧ ((∃ n, f = .count a n) ∨ ∃ b, f = .flag a b)

theorem recBegin_regs (m : Nat) (x : RecRec) (r : Recorder) : ∀ f ∈ (recBegin m x r).2, RecFx f := by
  intro f hf
  unfold recBegin recEnqueue at hf
  dsimp only at hf
  split at hf
  · simp only [List.mem_cons, List.not_mem_nil, or_false] at hf
    obtain rfl | rfl := hf
    · exact ⟨_, by simp, rfl, .inl ⟨_, rfl⟩⟩
    · exact ⟨_, by simp, rfl, .inr ⟨_, rfl⟩⟩
  · simp at hf

theorem recCoalesceEnd_regs (m : Nat) (r : Recorder) : ∀ f ∈ (recCoalesceEnd m r).2, RecFx f := by
  have go : ∀ (cs : List Coalesce) (g : Recorder × List Fx → Coalesce → Recorder × List Fx)
      (_ : ∀ q c, (∀ f ∈ q.2, RecFx f) → ∀ f ∈ (g q c).2, RecFx f) (q : Recorder × List Fx), (∀ f ∈ q.2, RecFx f) → ∀ f ∈ (cs.foldl g q).2, RecFx f := by
    intro cs g hg
    induction cs with
    | nil => intro q h; exact h
    | cons c cs ih => intro q h; exact ih _ (hg q c h)
  unfold recCoalesceEnd
  refine go _ _ (fun q c h => ?_) _ (fun f hf => by simp at hf)
  dsimp only
  split
  · intro f hf
    exact (List.mem_append.1 hf).elim (h f) (recBegin_regs _ _ _ f)
  · exact h

theorem recEvent_regs (m : Nat) (x : RecRec) (r : Recorder) : ∀ f ∈ (recEvent m x r).2, RecFx f := by
  intro f hf
  simp only [recEvent] at hf
  refine (List.mem_append.1 hf).elim (recCoalesceEnd_regs _ _ f) (fun hf => ?_)
  unfold recOccur at hf
  split at hf
  · simp only [List.mem_singleton] at hf; subst hf; exact ⟨_, by simp, rfl, .inl ⟨_, rfl⟩⟩
  · exact recBegin_regs _ _ _ f hf

/-- An occurrence writes its latch word and the recorder's counters and status, no other register. -/
theorem State.occur_reg (s : State) (t ev : Nat) (d : List Byte) (a : Nat) (h : a ∉ fxRegs (.event ev d)) : (s.occur t ev d).reg a = s.reg a := by
  simp only [State.occur]
  rw [State.reg, State.reports_regs, ← State.reg]
  have h1 : (s.plainFx (.flag (Reg.evtLatch + 4 * (ev / 32)) (ev % 32))).reg a = s.reg a :=
    s.plainFx_reg _ _ (fun hc => h (by simp only [fxRegs, List.mem_singleton] at hc; simp [fxRegs, hc]))
  split
  · rw [State.plainFxs_reg _ _ _ (fun f hf hc => by
      obtain ⟨b, hb, e, _⟩ := recEvent_regs _ _ _ f hf
      rw [e, List.mem_singleton] at hc
      exact h (by simp only [fxRegs]; exact List.mem_cons_of_mem _ (hc ▸ hb)))]
    exact h1
  · exact h1

theorem State.apply1_reg (t : Nat) (s : State) (f : Fx) (a : Nat) (h : a ∉ fxRegs f) : (State.apply1 t s f).reg a = s.reg a := by
  cases f with
  | event ev d =>
    simp only [State.apply1]
    split
    · split
      · rfl
      · rw [State.occur_reg _ _ _ _ _ h]; rfl
    · exact s.occur_reg _ _ _ _ h
  | start ev k d => exact State.occur_reg _ _ _ _ _ h
  | ended ev k d => exact State.occur_reg _ _ _ _ _ h
  | clear ev k => rfl
  | count _ _ => exact s.plainFx_reg _ _ h
  | flag _ _ => exact s.plainFx_reg _ _ h
  | field _ _ _ _ => exact s.plainFx_reg _ _ h
  | maxi _ _ _ _ => exact s.plainFx_reg _ _ h
  | mini _ _ _ _ => exact s.plainFx_reg _ _ h

/-- Effects write the registers they name, no other. -/
theorem State.apply_reg (s : State) (t : Nat) (fx : List Fx) (a : Nat) (h : ∀ f ∈ fx, a ∉ fxRegs f) : (s.apply t fx).reg a = s.reg a := by
  induction fx generalizing s with
  | nil => rfl
  | cons f fx ih =>
    simp only [State.apply, List.foldl_cons] at ih ⊢
    rw [ih _ (fun g hg => h g (List.mem_cons_of_mem _ hg)), State.apply1_reg _ _ _ _ (h f List.mem_cons_self)]

theorem State.apply_nil (s : State) (t : Nat) : s.apply t [] = s := rfl
theorem State.apply_cons (s : State) (t : Nat) (f : Fx) (fx : List Fx) : s.apply t (f :: fx) = (State.apply1 t s f).apply t fx := rfl
theorem State.apply_append (s : State) (t : Nat) (f g : List Fx) : s.apply t (f ++ g) = (s.apply t f).apply t g := by simp [State.apply]

@[simp] theorem State.apply_count (s : State) (t a n : Nat) : s.apply t [.count a n] = s.setReg a ((s.reg a + n) % 2 ^ 32) := rfl
@[simp] theorem State.apply_flag (s : State) (t a n : Nat) : s.apply t [.flag a n] = s.setReg a (setBits (s.reg a) n 1 1) := rfl
@[simp] theorem State.apply_field (s : State) (t a lo w v : Nat) : s.apply t [.field a lo w v] = s.setReg a (setBits (s.reg a) lo w v) := rfl

/-! Latches. -/

/-- An effect that clears no latch bit. -/
def fxKeepsLatch : Fx → Bool
  | .count a _ | .field a _ _ _ | .maxi a _ _ _ | .mini a _ _ _ => decide (Reg.evtLatch + 16 ≤ a)
  | _ => true

theorem State.flag_latched {s : State} {ev : Nat} (h : Latched s ev) (a b : Nat) : Latched (s.plainFx (.flag a b)) ev := by
  simp only [Latched, State.plainFx, State.reg_setReg] at h ⊢
  split
  · rename_i e
    subst e
    have hb := bits_flag (s.reg (Reg.evtLatch + 4 * (ev / 32))) b (ev % 32)
    rw [bits_mod32 _ (Nat.mod_lt _ (by decide)), hb]
    split
    · rfl
    · exact h
  · exact h

theorem State.plainFx_latched {s : State} {ev : Nat} (h : Latched s ev) (he : ev < 128) (f : Fx) (hf : fxKeepsLatch f = true) : Latched (s.plainFx f) ev := by
  have other : ∀ a v, Reg.evtLatch + 16 ≤ a → Latched (s.setReg a v) ev := by
    intro a v ha
    simp only [Latched]
    rw [State.reg_setReg_other _ _ (by omega)]
    exact h
  cases f with
  | flag a b => exact State.flag_latched h a b
  | count a n => exact other _ _ (by simpa [fxKeepsLatch] using hf)
  | field a _ _ _ => exact other _ _ (by simpa [fxKeepsLatch] using hf)
  | maxi a _ _ _ => exact other _ _ (by simpa [fxKeepsLatch] using hf)
  | mini a _ _ _ => exact other _ _ (by simpa [fxKeepsLatch] using hf)
  | event _ _ => exact h
  | start _ _ _ => exact h
  | ended _ _ _ => exact h
  | clear _ _ => exact h

theorem State.plainFxs_latched {ev : Nat} (he : ev < 128) (fx : List Fx) {s : State} (h : Latched s ev) (hf : ∀ f ∈ fx, fxKeepsLatch f = true) :
    Latched (fx.foldl State.plainFx s) ev := by
  induction fx generalizing s with
  | nil => exact h
  | cons f fx ih => exact ih (State.plainFx_latched h he f (hf f List.mem_cons_self)) (fun g hg => hf g (List.mem_cons_of_mem _ hg))

theorem latched_of_regs {s t : State} (e : t.regs = s.regs) {ev : Nat} (h : Latched s ev) : Latched t ev := by
  simpa only [Latched, State.reg, e] using h

theorem State.occur_keeps {s : State} {ev : Nat} (he : ev < 128) (h : Latched s ev) (t n : Nat) (d : List Byte) : Latched (s.occur t n d) ev := by
  simp only [State.occur]
  refine latched_of_regs (State.reports_regs _ _ _ _ _) ?_
  have h1 := State.flag_latched h (Reg.evtLatch + 4 * (n / 32)) (n % 32)
  split
  · refine State.plainFxs_latched he _ (latched_of_regs rfl h1) (fun f hf => ?_)
    obtain ⟨a, ha, -, ⟨m, rfl⟩ | ⟨m, rfl⟩⟩ := recEvent_regs _ _ _ f hf
    · simp only [List.mem_cons, List.not_mem_nil, or_false] at ha
      obtain rfl | rfl | rfl := ha <;> rfl
    · rfl
  · exact h1

theorem State.occur_latched (s : State) (t : Nat) {ev : Nat} (he : ev < 128) (d : List Byte) : Latched (s.occur t ev d) ev := by
  have h1 : Latched (s.plainFx (.flag (Reg.evtLatch + 4 * (ev / 32)) (ev % 32))) ev := by
    simp only [Latched, State.plainFx, State.reg_setReg_same]
    have hb := bits_setBits (s.reg (Reg.evtLatch + 4 * (ev / 32))) (ev % 32) 1 1
    rw [bits_mod32 _ (Nat.mod_lt _ (by decide))]
    exact hb
  simp only [State.occur]
  refine latched_of_regs (State.reports_regs _ _ _ _ _) ?_
  split
  · refine State.plainFxs_latched he _ (latched_of_regs rfl h1) (fun f hf => ?_)
    obtain ⟨a, ha, -, ⟨m, rfl⟩ | ⟨m, rfl⟩⟩ := recEvent_regs _ _ _ f hf
    · simp only [List.mem_cons, List.not_mem_nil, or_false] at ha
      obtain rfl | rfl | rfl := ha <;> rfl
    · rfl
  · exact h1

theorem State.apply1_latched {s : State} {ev : Nat} (he : ev < 128) (h : Latched s ev) (t : Nat) (f : Fx) (hf : fxKeepsLatch f = true) :
    Latched (State.apply1 t s f) ev := by
  cases f with
  | event n d =>
    simp only [State.apply1]
    split
    · split
      · exact h
      · refine State.occur_keeps he ?_ t n d
        exact latched_of_regs (s := s) (by rfl) h
    · exact State.occur_keeps he h t n d
  | start n k d =>
    simp only [State.apply1]
    refine State.occur_keeps he ?_ t n d
    exact latched_of_regs (s := s) (by rfl) h
  | ended n k d =>
    simp only [State.apply1]
    refine State.occur_keeps he ?_ t n d
    exact latched_of_regs (s := s) (by rfl) h
  | clear n k => exact latched_of_regs rfl h
  | count _ _ => exact State.plainFx_latched h he _ hf
  | flag _ _ => exact State.plainFx_latched h he _ hf
  | field _ _ _ _ => exact State.plainFx_latched h he _ hf
  | maxi _ _ _ _ => exact State.plainFx_latched h he _ hf
  | mini _ _ _ _ => exact State.plainFx_latched h he _ hf

theorem State.apply_keeps {s : State} {ev : Nat} (he : ev < 128) (h : Latched s ev) (t : Nat) (fx : List Fx) (hf : ∀ f ∈ fx, fxKeepsLatch f = true) :
    Latched (s.apply t fx) ev := by
  induction fx generalizing s with
  | nil => exact h
  | cons f fx ih => exact ih (State.apply1_latched he h t f (hf f List.mem_cons_self)) (fun g hg => hf g (List.mem_cons_of_mem _ hg))

/-- Whether an effect is an occurrence of an event (COLLECTOR_OVERRUN apart). -/
def fxIs (ev : Nat) : Fx → Bool
  | .event n _ => n == ev && n != 14
  | .start n _ _ | .ended n _ _ => n == ev
  | _ => false

/-- An event among effects is latched. -/
theorem State.apply_latched (s : State) {ev : Nat} (he : ev < 128) (t : Nat) (fx : List Fx) (hf : ∀ f ∈ fx, fxKeepsLatch f = true)
    (hx : fx.any (fxIs ev) = true) : Latched (s.apply t fx) ev := by
  induction fx generalizing s with
  | nil => simp at hx
  | cons f fx ih =>
    have hr := fun g hg => hf g (List.mem_cons_of_mem _ hg)
    rw [State.apply_cons]
    by_cases h : fxIs ev f = true
    · refine State.apply_keeps he ?_ t fx hr
      cases f with
      | event n d =>
        simp only [fxIs, Bool.and_eq_true, beq_iff_eq, bne_iff_ne] at h
        obtain ⟨rfl, hn⟩ := h
        simp only [State.apply1]
        rw [if_neg hn]
        exact s.occur_latched t he d
      | start n k d => simp only [fxIs, beq_iff_eq] at h; subst h; exact State.occur_latched _ t he d
      | ended n k d => simp only [fxIs, beq_iff_eq] at h; subst h; exact State.occur_latched _ t he d
      | _ => simp [fxIs] at h
    · exact ih _ hr (by simpa [h] using hx)

/-! Conditions. -/

theorem State.reportTo_conds (t ev : Nat) (d : List Byte) (s : State) (i : Nat) : (State.reportTo t ev d s i).evt.conds = s.evt.conds := by
  have hs : ∀ (s : State) (n : Nat) (d : Src) (b : List Byte), (s.send n d b).evt = s.evt := by intro s n d b; unfold State.send; split <;> rfl
  have go : ∀ (ps : List Src) (bs : List Byte) (s : State), (ps.foldl (fun (a : State) p => a.send 22481 p bs) s).evt = s.evt := by
    intro ps bs
    induction ps with
    | nil => intro s; rfl
    | cons p ps ih => intro s; rw [List.foldl_cons, ih, hs]
  unfold State.reportTo
  split
  · rfl
  · split
    · rfl
    · split
      · rfl
      · unfold State.newRecord
        split
        · rfl
        · simp only [State.sendEvents, Bool.false_eq_true, if_false]
          rw [go]

theorem State.plainFx_evt (s : State) (f : Fx) : (s.plainFx f).evt = s.evt := by cases f <;> rfl

theorem State.occur_conds (s : State) (t ev : Nat) (d : List Byte) : (s.occur t ev d).evt.conds = s.evt.conds := by
  have go : ∀ (is : List Nat) (d : List Byte) (s : State), (is.foldl (State.reportTo t ev d) s).evt.conds = s.evt.conds := by
    intro is d
    induction is with
    | nil => intro s; rfl
    | cons i is ih => intro s; rw [List.foldl_cons, ih, State.reportTo_conds]
  have pf : ∀ (fx : List Fx) (s : State), (fx.foldl State.plainFx s).evt = s.evt := by
    intro fx
    induction fx with
    | nil => intro s; rfl
    | cons f fx ih => intro s; rw [List.foldl_cons, ih, State.plainFx_evt]
  simp only [State.occur]
  rw [go]
  split
  · rw [pf]; exact congrArg Evt.conds (State.plainFx_evt _ _)
  · exact congrArg Evt.conds (State.plainFx_evt _ _)

/-- The conditions after an effect. -/
def fxConds (cs : List (Nat × Nat)) : Fx → List (Nat × Nat)
  | .start ev k _ => if cs.contains (ev, k) then cs else (ev, k) :: cs
  | .ended ev k _ | .clear ev k => cs.filter (fun c => c != (ev, k))
  | _ => cs

theorem State.apply1_conds (t : Nat) (s : State) (f : Fx) : (State.apply1 t s f).evt.conds = fxConds s.evt.conds f := by
  cases f with
  | event ev d =>
    simp only [State.apply1, fxConds]
    split
    · split
      · rfl
      · rw [State.occur_conds]
    · rw [State.occur_conds]
  | start ev k d => simp only [State.apply1, fxConds]; rw [State.occur_conds]
  | ended ev k d => simp only [State.apply1, fxConds]; rw [State.occur_conds]
  | clear ev k => rfl
  | count _ _ => rfl
  | flag _ _ => rfl
  | field _ _ _ _ => rfl
  | maxi _ _ _ _ => rfl
  | mini _ _ _ _ => rfl

/-- The conditions after effects. -/
theorem State.apply_conds (s : State) (t : Nat) (fx : List Fx) : (s.apply t fx).evt.conds = fx.foldl fxConds s.evt.conds := by
  induction fx generalizing s with
  | nil => rfl
  | cons f fx ih =>
    simp only [State.apply, List.foldl_cons] at ih ⊢
    rw [ih, State.apply1_conds]

/-! The end of a command. -/

theorem State.alertsOut_reg (s : State) (txt : List (List Byte)) (a : Nat) (h : a ≠ cnt450 7) : (s.alertsOut txt).reg a = s.reg a := by
  unfold State.alertsOut
  split
  · simp only [State.alerts]
    split
    · rfl
    · have inner : ∀ (x : List Byte) (ps : List Nat) (b : State),
          (ps.foldl (fun (b : State) p =>
            if bits (s450Ports s.cfg.active) p 1 = 1 then
              (b.emit (.iec450 (p == 1) (s450Out s.cfg.active) (s450OutPort s.cfg.active) ipHdr (alertDatagram s.cfg.active x))).plainFx (.count (cnt450 7) 1)
            else b) b).reg a = b.reg a := by
        intro x ps
        induction ps with
        | nil => intro b; rfl
        | cons p ps ih =>
          intro b
          rw [List.foldl_cons, ih]
          split
          · rw [State.plainFx_reg _ _ _ (by simpa [fxRegs] using h)]; rfl
          · rfl
      have outer : ∀ (xs : List (List Byte)) (b : State),
          (xs.foldl (fun (a : State) x =>
            (List.range 2).foldl (fun (b : State) p =>
              if bits (s450Ports s.cfg.active) p 1 = 1 then
                (b.emit (.iec450 (p == 1) (s450Out s.cfg.active) (s450OutPort s.cfg.active) ipHdr (alertDatagram s.cfg.active x))).plainFx (.count (cnt450 7) 1)
              else b) a) b).reg a = b.reg a := by
        intro xs
        induction xs with
        | nil => intro b; rfl
        | cons x xs ih => intro b; rw [List.foldl_cons, ih, inner]
      rw [outer]
      rfl
  · rfl

/-- The end of a command writes the count of alert datagrams, no other register. -/
theorem State.finish_reg (s : State) (t : Nat) (q : List Instr) (a : Nat) (h : a ≠ cnt450 7) : (s.finish t q).reg a = s.reg a := by
  simp only [State.finish]
  exact State.alertsOut_reg _ _ _ h

@[simp] theorem State.finish_evt (s : State) (t : Nat) (q : List Instr) : (s.finish t q).evt = s.evt := by
  have fold2 : ∀ (f : State → Nat → State) (_ : ∀ b p, (f b p).evt = b.evt) (ps : List Nat) (b : State), (ps.foldl f b).evt = b.evt := by
    intro f hf ps
    induction ps with
    | nil => intro b; rfl
    | cons p ps ih => intro b; rw [List.foldl_cons, ih, hf]
  have fold1 : ∀ (f : State → List Byte → State) (_ : ∀ b p, (f b p).evt = b.evt) (ps : List (List Byte)) (b : State), (ps.foldl f b).evt = b.evt := by
    intro f hf ps
    induction ps with
    | nil => intro b; rfl
    | cons p ps ih => intro b; rw [List.foldl_cons, ih, hf]
  simp only [State.finish, State.alertsOut]
  split
  · simp only [State.alerts]
    split
    · rfl
    · refine (fold1 _ (fun b x => fold2 _ (fun c p => ?_) _ b) _ _).trans rfl
      split <;> rfl
  · rfl

@[simp] theorem State.finish_recd (s : State) (t : Nat) (q : List Instr) : (s.finish t q).recd = s.recd := by
  have fold2 : ∀ (f : State → Nat → State) (_ : ∀ b p, (f b p).recd = b.recd) (ps : List Nat) (b : State), (ps.foldl f b).recd = b.recd := by
    intro f hf ps
    induction ps with
    | nil => intro b; rfl
    | cons p ps ih => intro b; rw [List.foldl_cons, ih, hf]
  have fold1 : ∀ (f : State → List Byte → State) (_ : ∀ b p, (f b p).recd = b.recd) (ps : List (List Byte)) (b : State), (ps.foldl f b).recd = b.recd := by
    intro f hf ps
    induction ps with
    | nil => intro b; rfl
    | cons p ps ih => intro b; rw [List.foldl_cons, ih, hf]
  simp only [State.finish, State.alertsOut]
  split
  · simp only [State.alerts]
    split
    · rfl
    · refine (fold1 _ (fun b x => fold2 _ (fun c p => ?_) _ b) _ _).trans rfl
      split <;> rfl
  · rfl

theorem State.finish_latched {s : State} {ev : Nat} (he : ev < 128) (h : Latched s ev) (t : Nat) (q : List Instr) : Latched (s.finish t q) ev := by
  have e : Reg.evtLatch + 4 * (ev / 32) ≠ cnt450 7 := by
    simp only [Reg.evtLatch, cnt450, Reg.serStatus]; omega
  have : (s.finish t q).reg (Reg.evtLatch + 4 * (ev / 32)) = s.reg (Reg.evtLatch + 4 * (ev / 32)) := by
    simp only [State.finish]
    exact State.alertsOut_reg _ _ _ e
  simpa only [Latched, this] using h

end Sys2Proof.Machine
end

