-- ==== Sys2Proof/Laws/Events.lean ====
section
/-! SUPPORT. What reporting does to the event destinations: they stay, with their masks and ports; a held record keeps its sequence and its step. -/

namespace Sys2Proof.Machine

/-- Destination `e` is `d` with more occurrences reported. -/
def Grown (d e : Dest) : Prop :=
  e.ident = d.ident ∧ e.hostIdx = d.hostIdx ∧ e.mask = d.mask ∧ e.setSeq = d.setSeq ∧ e.ports = d.ports ∧ e.rounds = d.rounds ∧
    ∀ n r, d.recs.find? (fun x => x.ev == n) = some r → ∃ q, e.recs.find? (fun x => x.ev == n) = some q ∧ q.seq = r.seq ∧ q.born = r.born

theorem Grown.refl (d : Dest) : Grown d d := ⟨rfl, rfl, rfl, rfl, rfl, rfl, fun _ r h => ⟨r, h, rfl, rfl⟩⟩

theorem Grown.trans {a b c : Dest} (h : Grown a b) (k : Grown b c) : Grown a c := by
  obtain ⟨h1, h2, h3, h4, h5, h6, h7⟩ := h
  obtain ⟨k1, k2, k3, k4, k5, k6, k7⟩ := k
  refine ⟨k1.trans h1, k2.trans h2, k3.trans h3, k4.trans h4, k5.trans h5, k6.trans h6, fun n r hr => ?_⟩
  obtain ⟨q, hq, e1, e2⟩ := h7 n r hr
  obtain ⟨p, hp, f1, f2⟩ := k7 n q hq
  exact ⟨p, hp, f1.trans e1, f2.trans e2⟩

/-- Destinations grown, one by one. -/
def Grows (ds es : List Dest) : Prop := es.length = ds.length ∧ ∀ (i : Nat) (d : Dest), ds[i]? = some d → ∃ e, es[i]? = some e ∧ Grown d e

theorem Grows.refl (ds : List Dest) : Grows ds ds := ⟨rfl, fun _ d h => ⟨d, h, .refl d⟩⟩

theorem Grows.trans {a b c : List Dest} (h : Grows a b) (k : Grows b c) : Grows a c := by
  refine ⟨k.1.trans h.1, fun i d hd => ?_⟩
  obtain ⟨e, he, g⟩ := h.2 i d hd
  obtain ⟨f, hf, g2⟩ := k.2 i e he
  exact ⟨f, hf, g.trans g2⟩

/-- One destination replaced by a grown one. -/
theorem Grows.set {ds : List Dest} {i : Nat} {d e : Dest} (hd : ds[i]? = some d) (g : Grown d e) : Grows ds (ds.set i e) := by
  refine ⟨List.length_set, fun j x hx => ?_⟩
  by_cases h : i = j
  · subst h
    rw [hd] at hx
    cases hx
    refine ⟨e, ?_, g⟩
    rw [List.getElem?_set_self]
    exact (List.getElem?_eq_some_iff.1 hd).1
  · exact ⟨x, by rw [List.getElem?_set_ne h]; exact hx, .refl x⟩

theorem State.send_evt (s : State) (n : Nat) (d : Src) (b : List Byte) : (s.send n d b).evt = s.evt := by unfold State.send; split <;> rfl

theorem State.sendEvents_evt (s : State) (d : Dest) (b : Bool) (rs : List EvRec) : (s.sendEvents d b rs).evt = s.evt := by
  have go : ∀ (ps : List Src) (bs : List Byte) (s : State), (ps.foldl (fun (a : State) p => a.send 22481 p bs) s).evt = s.evt := by
    intro ps bs
    induction ps with
    | nil => intro s; rfl
    | cons p ps ih => intro s; rw [List.foldl_cons, ih, State.send_evt]
  simp only [State.sendEvents]
  split <;> exact go _ _ _

theorem State.newRecord_grows (s : State) (i t n c v e : Nat) (b : List Byte) : Grows s.evt.dests (s.newRecord i t n c v e b).evt.dests := by
  unfold State.newRecord
  split
  · exact .refl _
  · rename_i d hd
    dsimp only
    rw [State.sendEvents_evt]
    refine Grows.set hd ⟨rfl, rfl, rfl, rfl, rfl, rfl, fun m r hr => ⟨r, ?_, rfl, rfl⟩⟩
    rw [List.find?_append, hr]; rfl

theorem EvRec.again_ev (step v e : Nat) (b : List Byte) (r : EvRec) : (r.again step v e b).ev = r.ev := by unfold EvRec.again; dsimp only; split <;> rfl
theorem EvRec.again_seq (step v e : Nat) (b : List Byte) (r : EvRec) : (r.again step v e b).seq = r.seq := by unfold EvRec.again; dsimp only; split <;> rfl
theorem EvRec.again_born (step v e : Nat) (b : List Byte) (r : EvRec) : (r.again step v e b).born = r.born := by unfold EvRec.again; dsimp only; split <;> rfl

theorem State.reportTo_grows (t n : Nat) (b : List Byte) (s : State) (i : Nat) : Grows s.evt.dests (State.reportTo t n b s i).evt.dests := by
  unfold State.reportTo
  split
  · exact .refl _
  · rename_i d hd
    split
    · exact .refl _
    · split
      · refine Grows.set hd ⟨rfl, rfl, rfl, rfl, rfl, rfl, fun m r hr => ?_⟩
        rw [List.find?_map]
        simp only [Function.comp_def]
        have e : ∀ x : EvRec, (if x.ev = n then x.again (t / 1000) (s.vessel t) s.cyc.number b else x).ev = x.ev := by
          intro x; split
          · exact x.again_ev _ _ _ _
          · rfl
        simp only [e, hr, Option.map_some]
        refine ⟨_, rfl, ?_, ?_⟩ <;> split <;> first | exact r.again_seq _ _ _ _ | exact r.again_born _ _ _ _ | rfl
      · exact s.newRecord_grows _ _ _ _ _ _ _

theorem State.occur_grows (s : State) (t n : Nat) (b : List Byte) {ds : List Dest} (hd : s.evt.dests = ds) : Grows ds (s.occur t n b).evt.dests := by
  subst hd
  have go : ∀ (is : List Nat) (d : List Byte) (s : State), Grows s.evt.dests (is.foldl (State.reportTo t n d) s).evt.dests := by
    intro is d
    induction is with
    | nil => intro s; exact .refl _
    | cons i is ih => intro s; exact (State.reportTo_grows t n d s i).trans (ih _)
  have pf : ∀ (fx : List Fx) (s : State), (fx.foldl State.plainFx s).evt = s.evt := by
    intro fx
    induction fx with
    | nil => intro s; rfl
    | cons f fx ih => intro s; rw [List.foldl_cons, ih, State.plainFx_evt]
  simp only [State.occur]
  refine Grows.trans ?_ (go _ _ _)
  split
  · rw [pf]; exact .refl _
  · exact .refl _

/-- Effects let the destinations grow, nothing else. -/
theorem State.apply_grows (s : State) (t : Nat) (fx : List Fx) : Grows s.evt.dests (s.apply t fx).evt.dests := by
  have one : ∀ (f : Fx) (s : State), Grows s.evt.dests (State.apply1 t s f).evt.dests := by
    intro f s
    cases f with
    | event n d =>
      simp only [State.apply1]
      split
      · split
        · exact .refl _
        · exact State.occur_grows _ _ _ _ rfl
      · exact State.occur_grows _ _ _ _ rfl
    | start n k d => exact State.occur_grows _ _ _ _ rfl
    | ended n k d => exact State.occur_grows _ _ _ _ rfl
    | _ => exact .refl _
  induction fx generalizing s with
  | nil => exact .refl _
  | cons f fx ih => exact (one f s).trans (ih _)

theorem Grows.idents {ds es : List Dest} (g : Grows ds es) : es.map Dest.ident = ds.map Dest.ident := by
  apply List.ext_getElem?
  intro i
  rw [List.getElem?_map, List.getElem?_map]
  cases h : ds[i]? with
  | none =>
    have : es[i]? = none := by
      rw [List.getElem?_eq_none_iff] at h ⊢
      rw [g.1]; exact h
    rw [this]
  | some d =>
    obtain ⟨e, he, k⟩ := g.2 i d h
    rw [he]
    exact congrArg some k.1

theorem Grows.findIdx {ds es : List Dest} (g : Grows ds es) (w : Ident) :
    es.findIdx? (fun d => d.ident == w) = ds.findIdx? (fun d => d.ident == w) := by
  have k : ∀ l : List Dest, l.findIdx? (fun d => d.ident == w) = (l.map Dest.ident).findIdx? (fun x => x == w) := by
    intro l; rw [List.findIdx?_map]; rfl
  rw [k, k, g.idents]

end Sys2Proof.Machine
end

