-- ==== Sys2Proof/Laws/Serve.lean ====
section
/-! SUPPORT. The path of an admitted request: what reaches its handler, and what its answers leave. -/

namespace Sys2Proof.Machine

/-! Arrival. -/

theorem State.pathScan_touches (s : State) (t : Nat) : Touches s (s.pathScan t) := s.apply_touches t _

theorem State.heard_touches (s : State) (t : Nat) (p : Bool) (w : Ident) :
    ∃ f, Touches (s.modHost w f) (s.heard t p w) ∧ ∀ h : HostRec, (f h).ident = h.ident ∧ (f h).seen = h.seen ∧ (f h).held = h.held ∧ (f h).high = h.high ∧
      (f h).idx = h.idx ∧ (f h).lastResult = h.lastResult :=
  ⟨_, (State.apply_touches _ _ _).trans (State.pathScan_touches _ _), fun _ => ⟨rfl, rfl, rfl, rfl, rfl, rfl⟩⟩

/-- Arrival writes the registers of events, no other. -/
theorem State.heard_reg (s : State) (t : Nat) (p : Bool) (w : Ident) (a : Nat) (h : a ∉ eventRegs) : (s.heard t p w).reg a = s.reg a := by
  have h8 : a ∉ fxRegs (.event 8 []) := by
    intro hc
    apply h
    simp only [fxRegs, List.mem_cons, List.not_mem_nil, or_false] at hc
    obtain rfl | rfl | rfl | rfl := hc <;> decide
  have ends : ∀ (s : State) i b, ∀ f ∈ pathEnds s i b, a ∉ fxRegs f := by
    intro s i b f hf
    unfold pathEnds at hf
    split at hf
    · simp only [List.mem_singleton] at hf; subst hf; exact h8
    · simp at hf
  have scan : ∀ s : State, (s.pathScan t).reg a = s.reg a := by
    intro s
    refine State.apply_reg _ _ _ _ (fun f hf => ?_)
    simp only [List.mem_flatMap] at hf
    obtain ⟨x, -, hf⟩ := hf
    split at hf
    · simp at hf
    · simp only [List.mem_flatMap] at hf
      obtain ⟨b, -, hf⟩ := hf
      rw [List.mem_ite_nil_right, List.mem_singleton] at hf
      obtain ⟨-, rfl⟩ := hf
      exact h8
  unfold State.heard
  rw [scan, State.apply_reg]
  · rfl
  · intro f hf
    split at hf
    · exact ends _ _ _ f hf
    · simp at hf

/-- Arrival lets the destinations grow. -/
theorem State.heard_grows (s : State) (t : Nat) (p : Bool) (w : Ident) : Grows s.evt.dests (s.heard t p w).evt.dests := by
  simp only [State.heard, State.pathScan]
  exact Grows.trans (State.apply_grows (s.modHost w _) t _) (State.apply_grows _ _ _)

/-- What arrival leaves, field by field. -/
theorem State.heard_shape (s : State) (t : Nat) (p : Bool) (w : Ident) :
    ∃ (f : HostRec → HostRec) (r : List (Nat × Word)) (e : Evt) (d : Recorder) (o : List Out) (n : Nat), s.heard t p w = { s with
        regs := r, evt := e, recd := s.recd.withEvents d, out := s.out ++ o,
        chan := { s.chan with txBytes := n, hosts := s.chan.hosts.map (fun h => if h.ident = w then f h else h) } } ∧
      (regsOk s.regs → regsOk r) ∧ (∀ a, a ∉ eventRegs → sparseGet regDflt r a = sparseGet regDflt s.regs a) ∧ Grows s.evt.dests e.dests ∧
      ∀ h : HostRec, (f h).ident = h.ident ∧ (f h).seen = h.seen ∧ (f h).held = h.held ∧ (f h).high = h.high ∧ (f h).idx = h.idx ∧
        (f h).lastResult = h.lastResult := by
  obtain ⟨f, ⟨r, e, d, o, n, h, k⟩, g⟩ := s.heard_touches t p w
  refine ⟨f, r, e, d, o, n, h, k, fun a ha => ?_, ?_, g⟩
  · have := s.heard_reg t p w a ha
    rw [h] at this
    simpa only [State.reg, BitVec.toNat_inj] using this
  · have := s.heard_grows t p w
    rw [h] at this
    exact this

theorem State.host?_map (hs : List HostRec) (w : Ident) (f : HostRec → HostRec) (hf : ∀ h, (f h).ident = h.ident) :
    (hs.map (fun h => if h.ident = w then f h else h)).find? (fun h => h.ident == w) = (hs.find? (fun h => h.ident == w)).map f := by
  induction hs with
  | nil => rfl
  | cons a hs ih =>
    by_cases h : a.ident = w
    · simp [h, hf]
    · simp [h, ih]

/-- `s3` is `s` after the arrival of an admitted request of host `w` with record `h`: the register file, which stays canonical, events, the recorder, what
was sent, the channel's byte counts and next number, and the host's record have changed, nothing else. -/
def Arrived (s s3 : State) (w : Ident) (h : HostRec) : Prop :=
  ∃ (r : List (Nat × Word)) (e : Evt) (d : Recorder) (o : List Out) (n m : Nat) (hs : List HostRec) (h' : HostRec),
    s3 = { s with regs := r, evt := e, recd := s.recd.withEvents d, out := s.out ++ o,
                  chan := { s.chan with rxBytes := m, txBytes := n, hosts := hs, nextId := s.chan.nextId + 1 } } ∧
    (regsOk s.regs → regsOk r) ∧ (∀ a, a ∉ eventRegs → sparseGet regDflt r a = sparseGet regDflt s.regs a) ∧ Grows s.evt.dests e.dests ∧ hs.find? (fun x => x.ident == w) = some h' ∧ h'.lastResult = h.lastResult ∧ h'.idx = h.idx

/-- An admitted request with its arrival done reaches its handler. -/
theorem State.serveNew_admitted {s s3 : State} {op : Nat} {rq : Rq} {w : Ident} {h hr : HostRec} {au : Bool} (A : Admitted s op rq w h au) (hi : hr.idx = h.idx)
    (e1 : s3.pers = s.pers) (e2 : s3.profile = s.profile) (e3 : s3.cfg = s.cfg) (e4 : s3.chan.opens = s.chan.opens) (e5 : s3.chan.nextId = s.chan.nextId)
    (e6 : s3.clk = s.clk) (e7 : s3.red = s.red) (H : Opn → State → State × Resp) :
    s3.serveNew op rq w hr H =
      State.execute (requestOf s op rq w h au) rq.from_ H { s3 with chan := { s3.chan with nextId := s3.chan.nextId + 1 } } := by
  have a1 := A.known; have a2 := A.pers; have a3 := A.auth; have a4 := A.tag; have a5 := A.room; have a6 := A.len; have a7 := A.awake; have a8 := A.role
  simp only [State.asleep, State.active] at a7 a8
  unfold State.serveNew
  simp only [State.asleep, State.active, e1, e2, e3, e4, e5, e6, e7, a1, a2, a3, a4, a6, a7, a8, hi, Bool.not_true, Bool.false_eq_true, if_false, Bool.or_false,
    Nat.not_le.mpr a5, requestOf]

/-- An admitted request reaches its handler. -/
theorem State.serve_admitted {s : State} {op : Nat} {rq : Rq} {w : Ident} {h : HostRec} {au : Bool} (A : Admitted s op rq w h au)
    (H : Opn → State → State × Resp) : ∃ s3 : State, s.serve op rq H = State.execute (requestOf s op rq w h au) rq.from_ H s3 ∧ Arrived s s3 w h := by
  obtain ⟨k, hk⟩ : ∃ k, identOf s.cfg.active rq.from_ = some (w, k) := by
    have := A.source
    cases hq : identOf s.cfg.active rq.from_ with
    | none => simp [hq] at this
    | some q => obtain ⟨a, b⟩ := q; simp [hq] at this; exact ⟨b, by rw [this]⟩
  have hh : ∀ n, (State.host? ({ s with chan := { s.chan with rxBytes := n } }) w).isSome = true := by
    intro n; simp only [State.host?]; have := A.host; simp only [State.host?] at this; rw [this]; rfl
  have ht : ∀ n, State.track ({ s with chan := { s.chan with rxBytes := n } }) rq.t rq.from_ = ({ s with chan := { s.chan with rxBytes := n } }, .host w) := by
    intro n; simp only [State.track, hk]; rw [if_pos (hh n)]
  unfold State.serve
  rw [if_neg (by simp [A.ready])]
  dsimp only
  rw [ht]
  dsimp only
  obtain ⟨f, r, e, d, o, n, hs, hr, hq, hg, hf⟩ := State.heard_shape ({ s with chan := { s.chan with rxBytes := s.chan.rxBytes + rq.size } }) rq.t rq.portB w
  rw [hs]
  have hh2 : State.host? ({ s with regs := r, evt := e, recd := s.recd.withEvents d, out := s.out ++ o, chan := { s.chan with rxBytes := s.chan.rxBytes + rq.size, txBytes := n, hosts := s.chan.hosts.map (fun h => if h.ident = w then f h else h) } }) w = some (f h) := by
    simp only [State.host?]
    rw [State.host?_map _ _ _ (fun h => (hf h).1)]
    have := A.host; simp only [State.host?] at this; rw [this]; rfl
  have hk0 : seqKind (f h) rq.seq = 0 := by
    have := A.fresh
    simp only [seqKind] at this ⊢
    rw [(hf h).2.1, (hf h).2.2.2.1]; exact this
  unfold State.serveHost
  dsimp only at hh2 ⊢
  rw [hh2]
  dsimp only
  rw [if_neg (by rw [hk0]; decide), if_neg (by rw [hk0]; decide)]
  refine ⟨_, State.serveNew_admitted A (hf h).2.2.2.2.1 ?_ ?_ ?_ ?_ ?_ ?_ ?_ H, r, e, d, o, n, s.chan.rxBytes + rq.size, _, seqTake rq.seq (f h), rfl, hr, hq, hg, ?_, ?_, ?_⟩
  iterate 7 rfl
  · simp only [State.modHost]
    rw [State.host?_map _ w (seqTake rq.seq) (fun _ => rfl)]
    simp only [State.host?] at hh2
    rw [hh2]; rfl
  · exact (hf h).2.2.2.2.2
  · exact (hf h).2.2.2.2.1

/-! Answers. -/

/-- What a datagram list sent to one source leaves, the channel being ready. -/
theorem State.sendAll_one (s : State) (d : Src) (parts : List (List Byte)) (hr : s.chan.ready = true) :
    ∃ n, s.sendAll [d] parts = { s with out := s.out ++ parts.map (Out.udp (s.ownIp d.portB) 22480 d ipHdr), chan := { s.chan with txBytes := n } } := by
  have go : ∀ (ps : List (List Byte)) (s : State), s.chan.ready = true → ∃ n, ps.foldl (fun (b : State) p => b.send 22480 d p) s =
      { s with out := s.out ++ ps.map (Out.udp (s.ownIp d.portB) 22480 d ipHdr), chan := { s.chan with txBytes := n } } := by
    intro ps
    induction ps with
    | nil => intro s _; exact ⟨s.chan.txBytes, by simp⟩
    | cons p ps ih =>
      intro s hr
      rw [List.foldl_cons]
      have e : s.send 22480 d p = { s with out := s.out ++ [.udp (s.ownIp d.portB) 22480 d ipHdr p], chan := { s.chan with txBytes := s.chan.txBytes + p.length } } := by
        unfold State.send; rw [if_pos (by simp [hr])]
      rw [e]
      obtain ⟨n, hn⟩ := ih { s with out := s.out ++ [.udp (s.ownIp d.portB) 22480 d ipHdr p], chan := { s.chan with txBytes := s.chan.txBytes + p.length } } hr
      exact ⟨n, by rw [hn]; simp [State.ownIp]⟩
  exact go parts s hr

/-- The open requests after an answer, the newest having been answered. -/
theorem opens_answered {os : List Opn} {o : Opn} (h : ∀ x ∈ os, x.id < o.id) : (os ++ [o]).filter (fun x => x.id != o.id) = os := by
  rw [List.filter_append, List.filter_eq_self.mpr (fun x hx => by simpa using Nat.ne_of_lt (h x hx))]
  simp

theorem opens_find {os : List Opn} {o : Opn} (h : ∀ x ∈ os, x.id < o.id) : (os ++ [o]).find? (fun x => x.id == o.id) = some o := by
  rw [List.find?_append, List.find?_eq_none.mpr (fun x hx => by simpa using Nat.ne_of_lt (h x hx))]
  simp

/-! Frames, field by field. -/

theorem Served.pending {rs : List Nat} {s t : State} (h : Served rs s t) : t.pending = s.pending := by have e := congrArg State.pending h.1; exact e
theorem Served.pers {rs : List Nat} {s t : State} (h : Served rs s t) : t.pers = s.pers := by have e := congrArg State.pers h.1; exact e
theorem Served.profile {rs : List Nat} {s t : State} (h : Served rs s t) : t.profile = s.profile := by have e := congrArg State.profile h.1; exact e
theorem Served.stored {rs : List Nat} {s t : State} (h : Served rs s t) : t.stored = s.stored := by have e := congrArg State.stored h.1; exact e
theorem Served.cfg {rs : List Nat} {s t : State} (h : Served rs s t) : t.cfg = s.cfg := by have e := congrArg State.cfg h.1; exact e
theorem Served.cyc {rs : List Nat} {s t : State} (h : Served rs s t) : t.cyc = s.cyc := by have e := congrArg State.cyc h.1; exact e
theorem Served.mbx {rs : List Nat} {s t : State} (h : Served rs s t) : t.mbx = s.mbx := by have e := congrArg State.mbx h.1; exact e
theorem Served.clk {rs : List Nat} {s t : State} (h : Served rs s t) : t.clk = s.clk := by have e := congrArg State.clk h.1; exact e
theorem Served.sup {rs : List Nat} {s t : State} (h : Served rs s t) : t.sup = s.sup := by have e := congrArg State.sup h.1; exact e
theorem Served.fw {rs : List Nat} {s t : State} (h : Served rs s t) : t.fw = s.fw := by have e := congrArg State.fw h.1; exact e
theorem Served.svc {rs : List Nat} {s t : State} (h : Served rs s t) : t.svc = s.svc := by have e := congrArg State.svc h.1; exact e
theorem Served.saved {rs : List Nat} {s t : State} (h : Served rs s t) : t.saved = s.saved := by have e := congrArg State.saved h.1; exact e
theorem Served.tim {rs : List Nat} {s t : State} (h : Served rs s t) : t.tim = s.tim := by have e := congrArg State.tim h.1; exact e
theorem Served.gns {rs : List Nat} {s t : State} (h : Served rs s t) : t.gns = s.gns := by have e := congrArg State.gns h.1; exact e
theorem Served.fus {rs : List Nat} {s t : State} (h : Served rs s t) : t.fus = s.fus := by have e := congrArg State.fus h.1; exact e
theorem Served.ctl {rs : List Nat} {s t : State} (h : Served rs s t) : t.ctl = s.ctl := by have e := congrArg State.ctl h.1; exact e
theorem Served.alc {rs : List Nat} {s t : State} (h : Served rs s t) : t.alc = s.alc := by have e := congrArg State.alc h.1; exact e
theorem Served.srv {rs : List Nat} {s t : State} (h : Served rs s t) : t.srv = s.srv := by have e := congrArg State.srv h.1; exact e
theorem Served.can0 {rs : List Nat} {s t : State} (h : Served rs s t) : t.can0 = s.can0 := by have e := congrArg State.can0 h.1; exact e
theorem Served.can1 {rs : List Nat} {s t : State} (h : Served rs s t) : t.can1 = s.can1 := by have e := congrArg State.can1 h.1; exact e
theorem Served.crc {rs : List Nat} {s t : State} (h : Served rs s t) : t.crc = s.crc := by have e := congrArg State.crc h.1; exact e
theorem Served.fld {rs : List Nat} {s t : State} (h : Served rs s t) : t.fld = s.fld := by have e := congrArg State.fld h.1; exact e
theorem Served.aio {rs : List Nat} {s t : State} (h : Served rs s t) : t.aio = s.aio := by have e := congrArg State.aio h.1; exact e
theorem Served.lgc {rs : List Nat} {s t : State} (h : Served rs s t) : t.lgc = s.lgc := by have e := congrArg State.lgc h.1; exact e
theorem Served.saf {rs : List Nat} {s t : State} (h : Served rs s t) : t.saf = s.saf := by have e := congrArg State.saf h.1; exact e
theorem Served.red {rs : List Nat} {s t : State} (h : Served rs s t) : t.red = s.red := by have e := congrArg State.red h.1; exact e
theorem Served.pk {rs : List Nat} {s t : State} (h : Served rs s t) : t.pk = s.pk := by have e := congrArg State.pk h.1; exact e
theorem Served.ready {rs : List Nat} {s t : State} (h : Served rs s t) : t.chan.ready = s.chan.ready := by have e := congrArg (fun x : State => x.chan.ready) h.1; exact e
theorem Served.cnt {rs : List Nat} {s t : State} (h : Served rs s t) : t.chan.cnt = s.chan.cnt := by have e := congrArg (fun x : State => x.chan.cnt) h.1; exact e
theorem Served.results {rs : List Nat} {s t : State} (h : Served rs s t) : t.chan.results = s.chan.results := by have e := congrArg (fun x : State => x.chan.results) h.1; exact e
theorem Calm.pending {rs : List Nat} {s t : State} (h : Calm rs s t) : t.pending = s.pending := by have e := congrArg State.pending h.1; exact e
theorem Calm.pers {rs : List Nat} {s t : State} (h : Calm rs s t) : t.pers = s.pers := by have e := congrArg State.pers h.1; exact e
theorem Calm.profile {rs : List Nat} {s t : State} (h : Calm rs s t) : t.profile = s.profile := by have e := congrArg State.profile h.1; exact e
theorem Calm.stored {rs : List Nat} {s t : State} (h : Calm rs s t) : t.stored = s.stored := by have e := congrArg State.stored h.1; exact e
theorem Calm.cfg {rs : List Nat} {s t : State} (h : Calm rs s t) : t.cfg = s.cfg := by have e := congrArg State.cfg h.1; exact e
theorem Calm.cyc {rs : List Nat} {s t : State} (h : Calm rs s t) : t.cyc = s.cyc := by have e := congrArg State.cyc h.1; exact e
theorem Calm.mbx {rs : List Nat} {s t : State} (h : Calm rs s t) : t.mbx = s.mbx := by have e := congrArg State.mbx h.1; exact e
theorem Calm.clk {rs : List Nat} {s t : State} (h : Calm rs s t) : t.clk = s.clk := by have e := congrArg State.clk h.1; exact e
theorem Calm.sup {rs : List Nat} {s t : State} (h : Calm rs s t) : t.sup = s.sup := by have e := congrArg State.sup h.1; exact e
theorem Calm.fw {rs : List Nat} {s t : State} (h : Calm rs s t) : t.fw = s.fw := by have e := congrArg State.fw h.1; exact e
theorem Calm.svc {rs : List Nat} {s t : State} (h : Calm rs s t) : t.svc = s.svc := by have e := congrArg State.svc h.1; exact e
theorem Calm.saved {rs : List Nat} {s t : State} (h : Calm rs s t) : t.saved = s.saved := by have e := congrArg State.saved h.1; exact e
theorem Calm.tim {rs : List Nat} {s t : State} (h : Calm rs s t) : t.tim = s.tim := by have e := congrArg State.tim h.1; exact e
theorem Calm.gns {rs : List Nat} {s t : State} (h : Calm rs s t) : t.gns = s.gns := by have e := congrArg State.gns h.1; exact e
theorem Calm.fus {rs : List Nat} {s t : State} (h : Calm rs s t) : t.fus = s.fus := by have e := congrArg State.fus h.1; exact e
theorem Calm.ctl {rs : List Nat} {s t : State} (h : Calm rs s t) : t.ctl = s.ctl := by have e := congrArg State.ctl h.1; exact e
theorem Calm.alc {rs : List Nat} {s t : State} (h : Calm rs s t) : t.alc = s.alc := by have e := congrArg State.alc h.1; exact e
theorem Calm.srv {rs : List Nat} {s t : State} (h : Calm rs s t) : t.srv = s.srv := by have e := congrArg State.srv h.1; exact e
theorem Calm.can0 {rs : List Nat} {s t : State} (h : Calm rs s t) : t.can0 = s.can0 := by have e := congrArg State.can0 h.1; exact e
theorem Calm.can1 {rs : List Nat} {s t : State} (h : Calm rs s t) : t.can1 = s.can1 := by have e := congrArg State.can1 h.1; exact e
theorem Calm.crc {rs : List Nat} {s t : State} (h : Calm rs s t) : t.crc = s.crc := by have e := congrArg State.crc h.1; exact e
theorem Calm.fld {rs : List Nat} {s t : State} (h : Calm rs s t) : t.fld = s.fld := by have e := congrArg State.fld h.1; exact e
theorem Calm.aio {rs : List Nat} {s t : State} (h : Calm rs s t) : t.aio = s.aio := by have e := congrArg State.aio h.1; exact e
theorem Calm.lgc {rs : List Nat} {s t : State} (h : Calm rs s t) : t.lgc = s.lgc := by have e := congrArg State.lgc h.1; exact e
theorem Calm.saf {rs : List Nat} {s t : State} (h : Calm rs s t) : t.saf = s.saf := by have e := congrArg State.saf h.1; exact e
theorem Calm.red {rs : List Nat} {s t : State} (h : Calm rs s t) : t.red = s.red := by have e := congrArg State.red h.1; exact e
theorem Calm.pk {rs : List Nat} {s t : State} (h : Calm rs s t) : t.pk = s.pk := by have e := congrArg State.pk h.1; exact e
theorem Calm.ready {rs : List Nat} {s t : State} (h : Calm rs s t) : t.chan.ready = s.chan.ready := by have e := congrArg (fun x : State => x.chan.ready) h.1; exact e
theorem Calm.cnt {rs : List Nat} {s t : State} (h : Calm rs s t) : t.chan.cnt = s.chan.cnt := by have e := congrArg (fun x : State => x.chan.cnt) h.1; exact e
theorem Calm.results {rs : List Nat} {s t : State} (h : Calm rs s t) : t.chan.results = s.chan.results := by have e := congrArg (fun x : State => x.chan.results) h.1; exact e
theorem Calm.hosts {rs : List Nat} {s t : State} (h : Calm rs s t) : t.chan.hosts = s.chan.hosts := by have e := congrArg (fun x : State => x.chan.hosts) h.1; exact e
theorem Calm.opens {rs : List Nat} {s t : State} (h : Calm rs s t) : t.chan.opens = s.chan.opens := by have e := congrArg (fun x : State => x.chan.opens) h.1; exact e
theorem Calm.nextId {rs : List Nat} {s t : State} (h : Calm rs s t) : t.chan.nextId = s.chan.nextId := by have e := congrArg (fun x : State => x.chan.nextId) h.1; exact e
theorem Calm.rxBytes {rs : List Nat} {s t : State} (h : Calm rs s t) : t.chan.rxBytes = s.chan.rxBytes := by have e := congrArg (fun x : State => x.chan.rxBytes) h.1; exact e

/-! A unit replaced on both sides of a frame. -/

theorem Served.set_pers {rs : List Nat} {s t : State} (h : Served rs s t) (v) : Served rs { s with pers := v } { t with pers := v } := ⟨congrArg (fun y : State => { y with pers := v }) h.1, h.2⟩
theorem Served.set_profile {rs : List Nat} {s t : State} (h : Served rs s t) (v) : Served rs { s with profile := v } { t with profile := v } := ⟨congrArg (fun y : State => { y with profile := v }) h.1, h.2⟩
theorem Served.set_stored {rs : List Nat} {s t : State} (h : Served rs s t) (v) : Served rs { s with stored := v } { t with stored := v } := ⟨congrArg (fun y : State => { y with stored := v }) h.1, h.2⟩
theorem Served.set_cfg {rs : List Nat} {s t : State} (h : Served rs s t) (v) : Served rs { s with cfg := v } { t with cfg := v } := ⟨congrArg (fun y : State => { y with cfg := v }) h.1, h.2⟩
theorem Served.set_cyc {rs : List Nat} {s t : State} (h : Served rs s t) (v) : Served rs { s with cyc := v } { t with cyc := v } := ⟨congrArg (fun y : State => { y with cyc := v }) h.1, h.2⟩
theorem Served.set_mbx {rs : List Nat} {s t : State} (h : Served rs s t) (v) : Served rs { s with mbx := v } { t with mbx := v } := ⟨congrArg (fun y : State => { y with mbx := v }) h.1, h.2⟩
theorem Served.set_clk {rs : List Nat} {s t : State} (h : Served rs s t) (v) : Served rs { s with clk := v } { t with clk := v } := ⟨congrArg (fun y : State => { y with clk := v }) h.1, h.2⟩
theorem Served.set_sup {rs : List Nat} {s t : State} (h : Served rs s t) (v) : Served rs { s with sup := v } { t with sup := v } := ⟨congrArg (fun y : State => { y with sup := v }) h.1, h.2⟩
theorem Served.set_fw {rs : List Nat} {s t : State} (h : Served rs s t) (v) : Served rs { s with fw := v } { t with fw := v } := ⟨congrArg (fun y : State => { y with fw := v }) h.1, h.2⟩
theorem Served.set_svc {rs : List Nat} {s t : State} (h : Served rs s t) (v) : Served rs { s with svc := v } { t with svc := v } := ⟨congrArg (fun y : State => { y with svc := v }) h.1, h.2⟩
theorem Served.set_saved {rs : List Nat} {s t : State} (h : Served rs s t) (v) : Served rs { s with saved := v } { t with saved := v } := ⟨congrArg (fun y : State => { y with saved := v }) h.1, h.2⟩
theorem Served.set_tim {rs : List Nat} {s t : State} (h : Served rs s t) (v) : Served rs { s with tim := v } { t with tim := v } := ⟨congrArg (fun y : State => { y with tim := v }) h.1, h.2⟩
theorem Served.set_gns {rs : List Nat} {s t : State} (h : Served rs s t) (v) : Served rs { s with gns := v } { t with gns := v } := ⟨congrArg (fun y : State => { y with gns := v }) h.1, h.2⟩
theorem Served.set_fus {rs : List Nat} {s t : State} (h : Served rs s t) (v) : Served rs { s with fus := v } { t with fus := v } := ⟨congrArg (fun y : State => { y with fus := v }) h.1, h.2⟩
theorem Served.set_ctl {rs : List Nat} {s t : State} (h : Served rs s t) (v) : Served rs { s with ctl := v } { t with ctl := v } := ⟨congrArg (fun y : State => { y with ctl := v }) h.1, h.2⟩
theorem Served.set_alc {rs : List Nat} {s t : State} (h : Served rs s t) (v) : Served rs { s with alc := v } { t with alc := v } := ⟨congrArg (fun y : State => { y with alc := v }) h.1, h.2⟩
theorem Served.set_srv {rs : List Nat} {s t : State} (h : Served rs s t) (v) : Served rs { s with srv := v } { t with srv := v } := ⟨congrArg (fun y : State => { y with srv := v }) h.1, h.2⟩
theorem Served.set_can0 {rs : List Nat} {s t : State} (h : Served rs s t) (v) : Served rs { s with can0 := v } { t with can0 := v } := ⟨congrArg (fun y : State => { y with can0 := v }) h.1, h.2⟩
theorem Served.set_can1 {rs : List Nat} {s t : State} (h : Served rs s t) (v) : Served rs { s with can1 := v } { t with can1 := v } := ⟨congrArg (fun y : State => { y with can1 := v }) h.1, h.2⟩
theorem Served.set_crc {rs : List Nat} {s t : State} (h : Served rs s t) (v) : Served rs { s with crc := v } { t with crc := v } := ⟨congrArg (fun y : State => { y with crc := v }) h.1, h.2⟩
theorem Served.set_fld {rs : List Nat} {s t : State} (h : Served rs s t) (v) : Served rs { s with fld := v } { t with fld := v } := ⟨congrArg (fun y : State => { y with fld := v }) h.1, h.2⟩
theorem Served.set_aio {rs : List Nat} {s t : State} (h : Served rs s t) (v) : Served rs { s with aio := v } { t with aio := v } := ⟨congrArg (fun y : State => { y with aio := v }) h.1, h.2⟩
theorem Served.set_lgc {rs : List Nat} {s t : State} (h : Served rs s t) (v) : Served rs { s with lgc := v } { t with lgc := v } := ⟨congrArg (fun y : State => { y with lgc := v }) h.1, h.2⟩
theorem Served.set_saf {rs : List Nat} {s t : State} (h : Served rs s t) (v) : Served rs { s with saf := v } { t with saf := v } := ⟨congrArg (fun y : State => { y with saf := v }) h.1, h.2⟩
theorem Served.set_red {rs : List Nat} {s t : State} (h : Served rs s t) (v) : Served rs { s with red := v } { t with red := v } := ⟨congrArg (fun y : State => { y with red := v }) h.1, h.2⟩
theorem Served.set_pk {rs : List Nat} {s t : State} (h : Served rs s t) (v) : Served rs { s with pk := v } { t with pk := v } := ⟨congrArg (fun y : State => { y with pk := v }) h.1, h.2⟩
theorem Served.set_cnt {rs : List Nat} {s t : State} (h : Served rs s t) (f : ChanCnt → ChanCnt) : Served rs (s.cnt f) (t.cnt f) := ⟨by have e := congrArg (fun y : State => { y with chan := { y.chan with cnt := f s.chan.cnt } }) h.1; have k := h.cnt; simp only [State.cnt, k]; exact e, h.2⟩
theorem Calm.set_pers {rs : List Nat} {s t : State} (h : Calm rs s t) (v) : Calm rs { s with pers := v } { t with pers := v } := ⟨congrArg (fun y : State => { y with pers := v }) h.1, h.2⟩
theorem Calm.set_profile {rs : List Nat} {s t : State} (h : Calm rs s t) (v) : Calm rs { s with profile := v } { t with profile := v } := ⟨congrArg (fun y : State => { y with profile := v }) h.1, h.2⟩
theorem Calm.set_stored {rs : List Nat} {s t : State} (h : Calm rs s t) (v) : Calm rs { s with stored := v } { t with stored := v } := ⟨congrArg (fun y : State => { y with stored := v }) h.1, h.2⟩
theorem Calm.set_cfg {rs : List Nat} {s t : State} (h : Calm rs s t) (v) : Calm rs { s with cfg := v } { t with cfg := v } := ⟨congrArg (fun y : State => { y with cfg := v }) h.1, h.2⟩
theorem Calm.set_cyc {rs : List Nat} {s t : State} (h : Calm rs s t) (v) : Calm rs { s with cyc := v } { t with cyc := v } := ⟨congrArg (fun y : State => { y with cyc := v }) h.1, h.2⟩
theorem Calm.set_mbx {rs : List Nat} {s t : State} (h : Calm rs s t) (v) : Calm rs { s with mbx := v } { t with mbx := v } := ⟨congrArg (fun y : State => { y with mbx := v }) h.1, h.2⟩
theorem Calm.set_clk {rs : List Nat} {s t : State} (h : Calm rs s t) (v) : Calm rs { s with clk := v } { t with clk := v } := ⟨congrArg (fun y : State => { y with clk := v }) h.1, h.2⟩
theorem Calm.set_sup {rs : List Nat} {s t : State} (h : Calm rs s t) (v) : Calm rs { s with sup := v } { t with sup := v } := ⟨congrArg (fun y : State => { y with sup := v }) h.1, h.2⟩
theorem Calm.set_fw {rs : List Nat} {s t : State} (h : Calm rs s t) (v) : Calm rs { s with fw := v } { t with fw := v } := ⟨congrArg (fun y : State => { y with fw := v }) h.1, h.2⟩
theorem Calm.set_svc {rs : List Nat} {s t : State} (h : Calm rs s t) (v) : Calm rs { s with svc := v } { t with svc := v } := ⟨congrArg (fun y : State => { y with svc := v }) h.1, h.2⟩
theorem Calm.set_saved {rs : List Nat} {s t : State} (h : Calm rs s t) (v) : Calm rs { s with saved := v } { t with saved := v } := ⟨congrArg (fun y : State => { y with saved := v }) h.1, h.2⟩
theorem Calm.set_tim {rs : List Nat} {s t : State} (h : Calm rs s t) (v) : Calm rs { s with tim := v } { t with tim := v } := ⟨congrArg (fun y : State => { y with tim := v }) h.1, h.2⟩
theorem Calm.set_gns {rs : List Nat} {s t : State} (h : Calm rs s t) (v) : Calm rs { s with gns := v } { t with gns := v } := ⟨congrArg (fun y : State => { y with gns := v }) h.1, h.2⟩
theorem Calm.set_fus {rs : List Nat} {s t : State} (h : Calm rs s t) (v) : Calm rs { s with fus := v } { t with fus := v } := ⟨congrArg (fun y : State => { y with fus := v }) h.1, h.2⟩
theorem Calm.set_ctl {rs : List Nat} {s t : State} (h : Calm rs s t) (v) : Calm rs { s with ctl := v } { t with ctl := v } := ⟨congrArg (fun y : State => { y with ctl := v }) h.1, h.2⟩
theorem Calm.set_alc {rs : List Nat} {s t : State} (h : Calm rs s t) (v) : Calm rs { s with alc := v } { t with alc := v } := ⟨congrArg (fun y : State => { y with alc := v }) h.1, h.2⟩
theorem Calm.set_srv {rs : List Nat} {s t : State} (h : Calm rs s t) (v) : Calm rs { s with srv := v } { t with srv := v } := ⟨congrArg (fun y : State => { y with srv := v }) h.1, h.2⟩
theorem Calm.set_can0 {rs : List Nat} {s t : State} (h : Calm rs s t) (v) : Calm rs { s with can0 := v } { t with can0 := v } := ⟨congrArg (fun y : State => { y with can0 := v }) h.1, h.2⟩
theorem Calm.set_can1 {rs : List Nat} {s t : State} (h : Calm rs s t) (v) : Calm rs { s with can1 := v } { t with can1 := v } := ⟨congrArg (fun y : State => { y with can1 := v }) h.1, h.2⟩
theorem Calm.set_crc {rs : List Nat} {s t : State} (h : Calm rs s t) (v) : Calm rs { s with crc := v } { t with crc := v } := ⟨congrArg (fun y : State => { y with crc := v }) h.1, h.2⟩
theorem Calm.set_fld {rs : List Nat} {s t : State} (h : Calm rs s t) (v) : Calm rs { s with fld := v } { t with fld := v } := ⟨congrArg (fun y : State => { y with fld := v }) h.1, h.2⟩
theorem Calm.set_aio {rs : List Nat} {s t : State} (h : Calm rs s t) (v) : Calm rs { s with aio := v } { t with aio := v } := ⟨congrArg (fun y : State => { y with aio := v }) h.1, h.2⟩
theorem Calm.set_lgc {rs : List Nat} {s t : State} (h : Calm rs s t) (v) : Calm rs { s with lgc := v } { t with lgc := v } := ⟨congrArg (fun y : State => { y with lgc := v }) h.1, h.2⟩
theorem Calm.set_saf {rs : List Nat} {s t : State} (h : Calm rs s t) (v) : Calm rs { s with saf := v } { t with saf := v } := ⟨congrArg (fun y : State => { y with saf := v }) h.1, h.2⟩
theorem Calm.set_red {rs : List Nat} {s t : State} (h : Calm rs s t) (v) : Calm rs { s with red := v } { t with red := v } := ⟨congrArg (fun y : State => { y with red := v }) h.1, h.2⟩
theorem Calm.set_pk {rs : List Nat} {s t : State} (h : Calm rs s t) (v) : Calm rs { s with pk := v } { t with pk := v } := ⟨congrArg (fun y : State => { y with pk := v }) h.1, h.2⟩
theorem Calm.set_cnt {rs : List Nat} {s t : State} (h : Calm rs s t) (f : ChanCnt → ChanCnt) : Calm rs (s.cnt f) (t.cnt f) := ⟨by have e := congrArg (fun y : State => { y with chan := { y.chan with cnt := f s.chan.cnt } }) h.1; have k := h.cnt; simp only [State.cnt, k]; exact e, h.2⟩

theorem Served.refl (rs : List Nat) (s : State) : Served rs s s := ⟨by rw [Ser.withAlerts_self, Recorder.withEvents_self], fun _ _ _ => rfl⟩

theorem Served.setReg {rs : List Nat} {u s : State} (h : Served rs u s) {a : Nat} (v : Nat) (ha : a ∈ rs) : Served rs u (s.setReg a v) :=
  ⟨h.1, fun b h1 h2 => by
    have e : a ≠ b := fun e => h2 (e ▸ ha)
    rw [State.reg_setReg_other _ _ e, h.2 b h1 h2]⟩

theorem Served.mono {rs rs' : List Nat} {u s : State} (h : Served rs u s) (hs : ∀ a ∈ rs, a ∈ rs') : Served rs' u s := ⟨h.1, fun b h1 h2 => h.2 b h1 (fun k => h2 (hs b k))⟩
theorem Calm.mono {rs rs' : List Nat} {u s : State} (h : Calm rs u s) (hs : ∀ a ∈ rs, a ∈ rs') : Calm rs' u s := ⟨h.1, fun b h1 h2 => h.2 b h1 (fun k => h2 (hs b k))⟩

/-- Effects keep a request's frame where they write no registers but those of `rs` and of events. -/
theorem Served.apply {rs : List Nat} {u s : State} (h : Served rs u s) (t : Nat) (fx : List Fx) (hf : ∀ f ∈ fx, ∀ a ∈ fxRegs f, a ∈ eventRegs ∨ a ∈ rs) :
    Served rs u (s.apply t fx) := by
  obtain ⟨r, e, d, o, n, hs, -⟩ := s.apply_touches t fx
  refine ⟨?_, fun a h1 h2 => ?_⟩
  · rw [hs]; exact h.1
  · rw [State.apply_reg _ _ _ _ (fun f hm hc => (hf f hm a hc).elim h1 h2), h.2 a h1 h2]

/-- The final reply of the newest open request. -/
theorem State.answer_newest {s : State} {os : List Opn} {o : Opn} {src : Src} (ho : s.chan.opens = os ++ [o]) (hi : ∀ x ∈ os, x.id < o.id)
    (hs : o.srcs = [src]) (hr : s.chan.ready = true) (status : Nat) (data : List Byte) :
    ∃ n hosts, s.answer o.id status data =
      { s with out := s.out ++ (s.partsOf o status data).map (Out.udp (s.ownIp src.portB) 22480 src ipHdr),
               chan := { s.chan with txBytes := n, opens := os, hosts := hosts } } := by
  have hf : s.opn? o.id = some o := by rw [State.opn?, ho]; exact opens_find hi
  obtain ⟨n, hn⟩ := s.sendAll_one src (s.partsOf o status data) hr
  unfold State.answer
  rw [hf]
  dsimp only
  unfold State.answerOpn State.answerParts
  rw [hs, hn]
  dsimp only
  rw [ho, opens_answered hi]
  exact ⟨n, _, rfl⟩

theorem Calm.refl (rs : List Nat) (s : State) : Calm rs s s := ⟨by rw [Ser.withAlerts_self, Recorder.withEvents_self], fun _ _ _ => rfl⟩

/-- Effects keep the frame where they write no registers but those of `rs` and of events. -/
theorem Calm.apply {rs : List Nat} {u s : State} (h : Calm rs u s) (t : Nat) (fx : List Fx) (hf : ∀ f ∈ fx, ∀ a ∈ fxRegs f, a ∈ eventRegs ∨ a ∈ rs) :
    Calm rs u (s.apply t fx) := by
  obtain ⟨r, e, d, o, n, hs, -⟩ := s.apply_touches t fx
  refine ⟨?_, fun a h1 h2 => ?_⟩
  · rw [hs]; exact h.1
  · rw [State.apply_reg _ _ _ _ (fun f hm hc => (hf f hm a hc).elim h1 h2), h.2 a h1 h2]

theorem Calm.setReg {rs : List Nat} {u s : State} (h : Calm rs u s) {a : Nat} (v : Nat) (ha : a ∈ rs) : Calm rs u (s.setReg a v) :=
  ⟨h.1, fun b h1 h2 => by
    have e : a ≠ b := fun e => h2 (e ▸ ha)
    rw [State.reg_setReg_other _ _ e, h.2 b h1 h2]⟩

theorem Calm.finish {rs : List Nat} {u s : State} (h : Calm rs u s) (t : Nat) : Calm rs u (s.finish t u.pending) := by
  have hp : s.pending = u.pending := h.pending
  rw [← hp]
  obtain ⟨r, e, d, o, n, p, hs, -, hg⟩ := s.finish_shape t s.pending
  refine ⟨?_, fun a h1 h2 => ?_⟩
  · rw [hs, hg]; exact h.1
  · rw [State.finish_reg _ _ _ _ (fun hc => h1 (by rw [hc]; decide)), h.2 a h1 h2]

/-- A command with a frame answers a next state within it. -/
theorem Calm.runAt {rs : List Nat} {u s : State} {f : State → State} (t : Nat) (h : Calm rs u (f { s with out := [] })) (hp : u.pending = s.pending) :
    ∃ x, Sys2Proof.Machine.runAt t f s = .next x ∧ x = (f { s with out := [] }).finish t s.pending ∧ Calm rs u x :=
  ⟨_, rfl, rfl, hp ▸ h.finish t⟩

/-- The frame at the end of a command. -/
theorem Served.finish {rs : List Nat} {u s : State} (h : Served rs u s) (t : Nat) : Served rs u (s.finish t u.pending) := by
  have hp : s.pending = u.pending := h.pending
  rw [← hp]
  obtain ⟨r, e, d, o, n, p, hs, -, hg⟩ := s.finish_shape t s.pending
  refine ⟨?_, fun a h1 h2 => ?_⟩
  · rw [hs, hg]; exact h.1
  · rw [State.finish_reg _ _ _ _ (fun hc => h1 (by rw [hc]; decide)), h.2 a h1 h2]

theorem Served.step {rs : List Nat} {u s t : State} (h : Served rs u s)
    (e : ∃ o n os hs, t = { s with out := o, chan := { s.chan with txBytes := n, opens := os, hosts := hs } }) : Served rs u t := by
  obtain ⟨o, n, os, hs, rfl⟩ := e
  exact ⟨h.1, h.2⟩

/-- An admitted request's step: arrival, execution, end. -/
theorem State.serve_step {s : State} {op : Nat} {rq : Rq} {w : Ident} {h : HostRec} {au : Bool} (A : Admitted s op rq w h au)
    (H : Opn → State → State × Resp) : ∃ s3 : State, Arrived { s with out := [] } s3 w h ∧
      runAt rq.t (State.serve · op rq H) s =
        .next ((State.execute (requestOf s op rq w h au) rq.from_ H s3).finish rq.t s.pending) := by
  have A' : Admitted { s with out := [] } op rq w h au :=
    ⟨A.ready, A.source, A.host, A.fresh, A.known, A.pers, A.auth, A.tag, A.room, A.len, A.awake, A.role, A.ids⟩
  obtain ⟨s3, e, B⟩ := State.serve_admitted A' H
  exact ⟨s3, B, by simp only [runAt, e]; rfl⟩

/-- Arrival with the request open keeps the frame. -/
theorem Arrived.served {s s3 : State} {w : Ident} {h : HostRec} (B : Arrived { s with out := [] } s3 w h) (os : List Opn) (rs : List Nat) :
    Served rs s { s3 with chan := { s3.chan with opens := os } } := by
  obtain ⟨r, e, d, o, n, m, hs, h', rfl, -, hq, -, -⟩ := B
  refine ⟨by rw [Ser.withAlerts_self]; rfl, fun a h1 _ => ?_⟩
  simp only [State.reg]
  rw [hq a h1]

/-- An admitted request answered with its final reply alone: what is sent, and the frame. -/
theorem State.replied {s s3 u s6 : State} {op : Nat} {rq : Rq} {w : Ident} {h : HostRec} {au : Bool} {rs : List Nat} {status : Nat} {data : List Byte}
    {H : Opn → State → State × Resp} (A : Admitted s op rq w h au)
    (hH : H (requestOf s op rq w h au) { s3 with chan := { s3.chan with opens := s3.chan.opens ++ [requestOf s op rq w h au] } } = (s6, .reply status data))
    (hu : Served rs u s6) (ho : s6.chan.opens = s.chan.opens ++ [requestOf s op rq w h au]) (hr : u.chan.ready = true) (hp : u.pending = s.pending)
    (hc : u.cfg.active = s.cfg.active) (hd : u.red = s.red) :
    Replied s ((State.execute (requestOf s op rq w h au) rq.from_ H s3).finish rq.t s.pending) op rq au status data ∧
      Served rs u ((State.execute (requestOf s op rq w h au) rq.from_ H s3).finish rq.t s.pending) ∧
      ((State.execute (requestOf s op rq w h au) rq.from_ H s3).finish rq.t s.pending).evt = s6.evt ∧
      ((State.execute (requestOf s op rq w h au) rq.from_ H s3).finish rq.t s.pending).recd = s6.recd ∧
      ∀ x ∈ s6.out, x ∈ ((State.execute (requestOf s op rq w h au) rq.from_ H s3).finish rq.t s.pending).out := by
  have e : State.execute (requestOf s op rq w h au) rq.from_ H s3 = s6.answer (requestOf s op rq w h au).id status data := by
    unfold State.execute; rw [hH]
  have r6 : s6.chan.ready = true := hu.ready.trans hr
  have c6 : s6.cfg.active = s.cfg.active := (congrArg Cfg.active hu.cfg).trans hc
  have d6 : s6.red = s.red := hu.red.trans hd
  obtain ⟨n, hosts, hs⟩ := State.answer_newest (src := rq.from_) ho A.ids rfl r6 status data
  rw [e, ← hp]
  refine ⟨⟨fun p hp => State.finish_mem_out _ _ _ _ ?_, ?_⟩, (hu.step ⟨_, _, _, _, hs⟩).finish _, by rw [State.finish_evt, hs], by rw [State.finish_recd, hs], fun x hx => State.finish_mem_out _ _ _ _ (by
    rw [hs]; exact List.mem_append_left _ hx)⟩
  · rw [hs]
    refine List.mem_append_right _ (List.mem_map.2 ⟨p, ?_, ?_⟩)
    · simpa only [State.partsOf, requestOf, c6] using hp
    · simp only [State.ownIp, c6, d6]; rfl
  · rw [State.finish_chan_opens, hs]

/-- An admitted request answered ACCEPTED. -/
theorem State.interim {s s3 u s6 : State} {op : Nat} {rq : Rq} {w : Ident} {h : HostRec} {au : Bool} {rs : List Nat}
    {H : Opn → State → State × Resp}
    (hH : H (requestOf s op rq w h au) { s3 with chan := { s3.chan with opens := s3.chan.opens ++ [requestOf s op rq w h au] } } = (s6, .later))
    (hu : Served rs u s6) (ho : s6.chan.opens = s.chan.opens ++ [requestOf s op rq w h au]) (hr : u.chan.ready = true) (hp : u.pending = s.pending)
    (hc : u.cfg.active = s.cfg.active) (hd : u.red = s.red) :
    Interim s ((State.execute (requestOf s op rq w h au) rq.from_ H s3).finish rq.t s.pending) op rq w h au ∧
      Served rs u ((State.execute (requestOf s op rq w h au) rq.from_ H s3).finish rq.t s.pending) ∧
      ((State.execute (requestOf s op rq w h au) rq.from_ H s3).finish rq.t s.pending).evt = s6.evt ∧
      ((State.execute (requestOf s op rq w h au) rq.from_ H s3).finish rq.t s.pending).recd = s6.recd ∧
      ∀ x ∈ s6.out, x ∈ ((State.execute (requestOf s op rq w h au) rq.from_ H s3).finish rq.t s.pending).out := by
  have r6 : s6.chan.ready = true := hu.ready.trans hr
  have c6 : s6.cfg.active = s.cfg.active := (congrArg Cfg.active hu.cfg).trans hc
  have d6 : s6.red = s.red := hu.red.trans hd
  obtain ⟨n, hs⟩ := s6.sendAll_one rq.from_ (s6.partsOf (requestOf s op rq w h au) st.accepted []) r6
  have e : State.execute (requestOf s op rq w h au) rq.from_ H s3 = s6.sendAll [rq.from_] (s6.partsOf (requestOf s op rq w h au) st.accepted []) := by
    unfold State.execute; rw [hH]
  rw [e, ← hp]
  refine ⟨⟨fun p hp => State.finish_mem_out _ _ _ _ ?_, ?_⟩, (hu.step ⟨_, n, s6.chan.opens, s6.chan.hosts, hs⟩).finish _, by rw [State.finish_evt, hs], by rw [State.finish_recd, hs], fun x hx => State.finish_mem_out _ _ _ _ (by
    rw [hs]; exact List.mem_append_left _ hx)⟩
  · rw [hs]
    refine List.mem_append_right _ (List.mem_map.2 ⟨p, ?_, ?_⟩)
    · simpa only [State.partsOf, requestOf, c6] using hp
    · simp only [State.ownIp, c6, d6]; rfl
  · rw [State.finish_chan_opens, hs]; exact ho

/-! The answers of commands. -/

/-- The state in which a request is executed: `s` after its arrival, with the request open. -/
def Opened (s x : State) (op : Nat) (rq : Rq) (w : Ident) (h : HostRec) (au : Bool) : Prop :=
  ∃ s3, Arrived { s with out := [] } s3 w h ∧ x = { s3 with chan := { s3.chan with opens := s3.chan.opens ++ [requestOf s op rq w h au] } }

theorem Arrived.opens {s s3 : State} {w : Ident} {h : HostRec} (B : Arrived s s3 w h) : s3.chan.opens = s.chan.opens := by
  obtain ⟨_, _, _, _, _, _, _, _, rfl, _⟩ := B; rfl

theorem Opened.served {s x : State} {op : Nat} {rq : Rq} {w : Ident} {h : HostRec} {au : Bool} (O : Opened s x op rq w h au) (rs : List Nat) : Served rs s x := by
  obtain ⟨s3, B, rfl⟩ := O
  exact B.served _ rs

theorem Opened.opens {s x : State} {op : Nat} {rq : Rq} {w : Ident} {h : HostRec} {au : Bool} (O : Opened s x op rq w h au) :
    x.chan.opens = s.chan.opens ++ [requestOf s op rq w h au] := by
  obtain ⟨s3, B, rfl⟩ := O
  exact congrArg (· ++ [_]) B.opens

/-- A request whose execution gives a final reply. -/
theorem Replies.of {c : Instr} {op : Nat} {rq : Rq} {s : State} {status : Nat} {data : List Byte} {u : Opn → State} {rs : List Nat}
    {H : Opn → State → State × Resp} (hc : exec c s = runAt rq.t (State.serve · op rq H) s)
    (hH : ∀ w h au x, Admitted s op rq w h au → Opened s x op rq w h au → ∃ y, H (requestOf s op rq w h au) x = (y, .reply status data) ∧
      Served rs (u (requestOf s op rq w h au)) y ∧ y.chan.opens = x.chan.opens)
    (hu : ∀ o, (u o).chan.ready = s.chan.ready ∧ (u o).pending = s.pending ∧ (u o).cfg.active = s.cfg.active ∧ (u o).red = s.red) :
    Replies c op rq s status data u rs := by
  intro w h au A
  obtain ⟨s3, B, e⟩ := State.serve_step A H
  obtain ⟨y, h1, h2, h3⟩ := hH w h au _ A ⟨s3, B, rfl⟩
  obtain ⟨k1, k2, k3, k4⟩ := hu (requestOf s op rq w h au)
  have r := State.replied A h1 h2 (h3.trans (congrArg (· ++ [_]) B.opens)) (k1.trans A.ready) k2 k3 k4
  exact ⟨_, hc.trans e, r.1, r.2.1⟩

/-- A read: its execution leaves the state. -/
theorem Replies.read {c : Instr} {op : Nat} {rq : Rq} {s : State} {status : Nat} {data : List Byte}
    {H : Opn → State → State × Resp} (hc : exec c s = runAt rq.t (State.serve · op rq H) s)
    (hH : ∀ w h au x, Admitted s op rq w h au → Opened s x op rq w h au → H (requestOf s op rq w h au) x = (x, .reply status data)) :
    Replies c op rq s status data (fun _ => s) [] :=
  Replies.of hc (fun w h au x A O => ⟨x, hH w h au x A O, O.served _, rfl⟩) (fun _ => ⟨rfl, rfl, rfl, rfl⟩)

/-- A request that is ACCEPTED. -/
theorem Accepts.of {c : Instr} {op : Nat} {rq : Rq} {s : State} {u : Opn → State} {rs : List Nat}
    {H : Opn → State → State × Resp} (hc : exec c s = runAt rq.t (State.serve · op rq H) s)
    (hH : ∀ w h au x, Admitted s op rq w h au → Opened s x op rq w h au → ∃ y, H (requestOf s op rq w h au) x = (y, .later) ∧
      Served rs (u (requestOf s op rq w h au)) y ∧ y.chan.opens = x.chan.opens)
    (hu : ∀ o, (u o).chan.ready = s.chan.ready ∧ (u o).pending = s.pending ∧ (u o).cfg.active = s.cfg.active ∧ (u o).red = s.red) :
    Accepts c op rq s u rs := by
  intro w h au A
  obtain ⟨s3, B, e⟩ := State.serve_step A H
  obtain ⟨y, h1, h2, h3⟩ := hH w h au _ A ⟨s3, B, rfl⟩
  obtain ⟨k1, k2, k3, k4⟩ := hu (requestOf s op rq w h au)
  have r := State.interim h1 h2 (h3.trans (congrArg (· ++ [_]) B.opens)) (k1.trans A.ready) k2 k3 k4
  exact ⟨_, hc.trans e, r.1, r.2.1⟩

/-- A request that joins the host actions of the next tick. -/
theorem Waits.of {c : Instr} {op : Nat} {rq : Rq} {s : State} {base : Nat} {staged : Mem}
    {H : Opn → State → State × Resp} (hc : exec c s = runAt rq.t (State.serve · op rq H) s)
    (hH : ∀ w h au x, Admitted s op rq w h au → Opened s x op rq w h au →
      H (requestOf s op rq w h au) x = (x.queueBnd (requestOf s op rq w h au) rq base staged, .later)) :
    Waits c op rq s base staged := by
  refine Accepts.of hc (fun w h au x A O => ⟨_, hH w h au x A O, ?_, rfl⟩) (fun _ => ⟨rfl, rfl, rfl, rfl⟩)
  obtain ⟨h1, h2⟩ := O.served []
  refine ⟨?_, h2⟩
  have hcyc : x.cyc = s.cyc := (O.served []).cyc
  have e := congrArg (fun y : State => { y with cyc := (s.queueBnd (requestOf s op rq w h au) rq base staged).cyc }) h1
  simp only [State.queueBnd, hcyc] at e ⊢
  exact e

/-- A request refused at check 13. -/
theorem Refuses.of {c : Instr} {op : Nat} {rq : Rq} {s : State} {status : Nat}
    {H : Opn → State → State × Resp} (hc : exec c s = runAt rq.t (State.serve · op rq H) s)
    (hH : ∀ w h au x, Admitted s op rq w h au → Opened s x op rq w h au → H (requestOf s op rq w h au) x = (x, .refuse status)) :
    Refuses c op rq s status := by
  intro w h au A
  obtain ⟨s3, B, e⟩ := State.serve_step A H
  have O : Opened s _ op rq w h au := ⟨s3, B, rfl⟩
  have e2 := hH w h au _ A O
  let H' : Opn → State → State × Resp := fun _ x => (x.cnt (fun c => { c with refused := satInc c.refused }), .reply status [])
  have e3 : State.execute (requestOf s op rq w h au) rq.from_ H s3 = State.execute (requestOf s op rq w h au) rq.from_ H' s3 := by
    unfold State.execute; rw [e2]
  have hS : Served [] (s.cnt (fun n => { n with refused := satInc n.refused }))
      (State.cnt { s3 with chan := { s3.chan with opens := s3.chan.opens ++ [requestOf s op rq w h au] } } (fun c => { c with refused := satInc c.refused })) := by
    obtain ⟨h1, h2⟩ := O.served []
    refine ⟨?_, h2⟩
    have hcnt := (O.served []).cnt
    have e := congrArg (fun y : State => y.cnt (fun c => { c with refused := satInc c.refused })) h1
    simp only [State.cnt] at e hcnt ⊢
    exact e
  have r := State.replied (H := H') (s3 := s3) (s := s) (rq := rq) A rfl hS (congrArg (· ++ [_]) B.opens) A.ready rfl rfl rfl
  rw [e3] at e
  exact ⟨_, hc.trans e, r.1, r.2.1⟩

/-- An admitted request answered with a final reply: its step, with what it leaves of events and recorder. -/
theorem State.reply_step {s : State} {op : Nat} {rq : Rq} {w : Ident} {h : HostRec} {au : Bool} (A : Admitted s op rq w h au) (H : Opn → State → State × Resp) :
    ∃ x, Opened s x op rq w h au ∧ ∀ (y u : State) (rs : List Nat) (status : Nat) (data : List Byte), H (requestOf s op rq w h au) x = (y, .reply status data) →
      Served rs u y → y.chan.opens = x.chan.opens → u.chan.ready = s.chan.ready → u.pending = s.pending → u.cfg.active = s.cfg.active → u.red = s.red →
      ∃ t, runAt rq.t (State.serve · op rq H) s = .next t ∧ Replied s t op rq au status data ∧ Served rs u t ∧ t.evt = y.evt ∧ t.recd = y.recd ∧
        ∀ m ∈ y.out, m ∈ t.out := by
  obtain ⟨s3, B, e⟩ := State.serve_step A H
  refine ⟨_, ⟨s3, B, rfl⟩, fun y u rs status data h1 h2 h3 k1 k2 k3 k4 => ?_⟩
  exact ⟨_, e, State.replied A h1 h2 (h3.trans (congrArg (· ++ [_]) B.opens)) (k1.trans A.ready) k2 k3 k4⟩

/-- An admitted request that is ACCEPTED: its step, with what it leaves of events and recorder. -/
theorem State.accept_step {s : State} {op : Nat} {rq : Rq} {w : Ident} {h : HostRec} {au : Bool} (A : Admitted s op rq w h au) (H : Opn → State → State × Resp) :
    ∃ x, Opened s x op rq w h au ∧ ∀ (y u : State) (rs : List Nat), H (requestOf s op rq w h au) x = (y, .later) →
      Served rs u y → y.chan.opens = x.chan.opens → u.chan.ready = s.chan.ready → u.pending = s.pending → u.cfg.active = s.cfg.active → u.red = s.red →
      ∃ t, runAt rq.t (State.serve · op rq H) s = .next t ∧ Interim s t op rq w h au ∧ Served rs u t ∧ t.evt = y.evt ∧ t.recd = y.recd ∧
        ∀ m ∈ y.out, m ∈ t.out := by
  obtain ⟨s3, B, e⟩ := State.serve_step A H
  refine ⟨_, ⟨s3, B, rfl⟩, fun y u rs h1 h2 h3 k1 k2 k3 k4 => ?_⟩
  exact ⟨_, e, State.interim h1 h2 (h3.trans (congrArg (· ++ [_]) B.opens)) (k1.trans A.ready) k2 k3 k4⟩

theorem Opened.grows {s x : State} {op : Nat} {rq : Rq} {w : Ident} {h : HostRec} {au : Bool} (O : Opened s x op rq w h au) : Grows s.evt.dests x.evt.dests := by
  obtain ⟨s3, ⟨_, _, _, _, _, _, _, _, rfl, _, _, g, _⟩, rfl⟩ := O
  exact g

end Sys2Proof.Machine
end

