-- ==== Sys2Proof/Laws/Steps.lean ====
section
/-! SUPPORT. A command whose effect is a change of some units followed by a list of effects: its step, frame, latches and conditions. -/

namespace Sys2Proof.Machine

/-- Effects write no registers but those of events and `rs`. -/
def fxWithin (rs : List Nat) (fx : List Fx) : Bool := fx.all (fun f => (fxRegs f).all (fun a => eventRegs.contains a || rs.contains a))

theorem fxWithin_append (rs : List Nat) (f g : List Fx) : fxWithin rs (f ++ g) = (fxWithin rs f && fxWithin rs g) := by simp [fxWithin]

theorem fxWithin_flatMap {α : Type} (rs : List Nat) (xs : List α) (f : α → List Fx) : fxWithin rs (xs.flatMap f) = xs.all (fun x => fxWithin rs (f x)) := by
  simp [fxWithin]

theorem fxWithin_mem {rs : List Nat} {fx : List Fx} (h : fxWithin rs fx = true) : ∀ f ∈ fx, ∀ a ∈ fxRegs f, a ∈ eventRegs ∨ a ∈ rs := by
  intro f hf a ha
  have := List.all_eq_true.1 (List.all_eq_true.1 h f hf) a ha
  simpa using this

theorem fxWithin_of {rs : List Nat} {fx : List Fx} (h : ∀ f ∈ fx, ∀ a ∈ fxRegs f, a ∈ eventRegs ∨ a ∈ rs) : fxWithin rs fx = true := by
  refine List.all_eq_true.2 (fun f hf => List.all_eq_true.2 (fun a ha => ?_))
  simpa using h f hf a ha

theorem Calm.within {rs : List Nat} {u s : State} (h : Calm rs u s) (t : Nat) {fx : List Fx} (hf : fxWithin rs fx = true) : Calm rs u (s.apply t fx) :=
  h.apply t fx (fxWithin_mem hf)

theorem Served.within {rs : List Nat} {u s : State} (h : Served rs u s) (t : Nat) {fx : List Fx} (hf : fxWithin rs fx = true) : Served rs u (s.apply t fx) :=
  h.apply t fx (fxWithin_mem hf)

/-- A command that changes units and then has effects. -/
theorem effect_step {rs : List Nat} {u s : State} {f : State → State} (t : Nat) (fx : List Fx) (h : f { s with out := [] } = State.apply { u with out := [] } t fx)
    (hw : fxWithin rs fx = true) (hp : u.pending = s.pending) :
    ∃ x, runAt t f s = .next x ∧ Calm rs u x ∧
      (∀ ev, ev < 128 → fx.all fxKeepsLatch = true → fx.any (fxIs ev) = true → Latched x ev) ∧
      x.evt.conds = fx.foldl fxConds u.evt.conds ∧ (∀ a, a ≠ cnt450 7 → x.reg a = (State.apply { u with out := [] } t fx).reg a) ∧
      Grows u.evt.dests x.evt.dests ∧ x.recd = (State.apply { u with out := [] } t fx).recd := by
  have C0 : Calm rs u { u with out := [] } := ⟨by rw [Ser.withAlerts_self]; rfl, fun _ _ _ => rfl⟩
  have C := C0.within t hw
  refine ⟨_, rfl, ?_, ?_, ?_, ?_, ?_, ?_⟩
  · rw [h, ← hp]; exact C.finish t
  · intro ev he hk ha
    rw [h]
    exact State.finish_latched he (State.apply_latched _ he t fx (List.all_eq_true.1 hk) ha) _ _
  · rw [h, State.finish_evt, State.apply_conds]
  · intro a ha; rw [h, State.finish_reg _ _ _ _ ha]
  · rw [h, State.finish_evt]; exact State.apply_grows { u with out := [] } t fx
  · rw [h, State.finish_recd]

/-- A command that changes units alone. -/
theorem plain_step {u s : State} {f : State → State} (t : Nat) (h : f { s with out := [] } = { u with out := [] }) (hp : u.pending = s.pending) :
    ∃ x, runAt t f s = .next x ∧ Calm [] u x := by
  obtain ⟨x, h1, h2, -⟩ := effect_step (rs := []) t [] h rfl hp
  exact ⟨x, h1, h2⟩

/-- A command that finds nothing to do. -/
theorem idle_step {s : State} {f : State → State} (t : Nat) (h : f { s with out := [] } = { s with out := [] }) : ∃ x, runAt t f s = .next x ∧ Calm [] s x :=
  plain_step t h rfl

/-- Effects that write no registers but those of events leave the others. -/
theorem State.apply_within_reg (s : State) (t : Nat) {fx : List Fx} {a : Nat} (ha : a ∉ eventRegs) (h : fxWithin [] fx = true) : (s.apply t fx).reg a = s.reg a :=
  State.apply_reg _ _ _ _ (fun f hf hc => (fxWithin_mem h f hf a hc).elim ha (by simp))

theorem Cycling.inCycle {s : State} (h : Cycling s) : s.inCycle = true := by simp [State.inCycle, h.1, h.2]

end Sys2Proof.Machine
end

