-- ==== Sys2Proof/Tests/Scene.lean ====
section
/-! SUPPORT. The states and requests in which the hypotheses of the statements are met. -/

namespace Sys2Proof.Tests

set_option Elab.async false

open Sys2Proof.Machine

/-- A host and its record. -/
def w0 : Ident := .addr 7 5000

def h0 : HostRec :=
  { idx := 0, ident := w0, high := none, seen := [], held := [], tickReplies := [], lastPkt := 0, lastA := none, lastB := none, since := 0, lastResult := [] }

/-- A request of that host at 1 ms. -/
def rq (p : List Byte) : Rq := ⟨1000000, false, 0xAA, 7, 5000, 0, 1, false, none, p, 0⟩

/-- A byte list from numbers. -/
def bs (xs : List Nat) : List Byte := xs.map byteOf

/-- Bytes of a configuration: (item, offset, bytes). -/
def cfgOf (xs : List (Nat × Nat × List Nat)) : Mem := cfgApply [] (xs.foldl (fun m x => stageBytes m (cfgKey x.1 x.2.1) (bs x.2.2)) [])

/-- A lone native module that runs, with one host, after its first tick, at a configuration. -/
def upWith (xs : List (Nat × Nat × List Nat)) : State :=
  { State.reset with
    cfg := { active := cfgOf xs, hash := 5, hashEpoch := 0, txns := [], origin := cfgOf xs }
    chan := { ready := true, hosts := [h0] }
    clk := { phase := .running, firstTick := true, domains := List.replicate 6 { src := 2 } } }

def up : State := upWith []

/-- Whether a request of the host is admitted. -/
def admits (s : State) (op : Nat) (r : Rq) : Bool :=
  s.chan.ready && decide ((identOf s.cfg.active r.from_).map Prod.fst = some w0) && decide (s.host? w0 = some h0) && decide (seqKind h0 r.seq = 0) && opDefined op &&
    !(s.pers == .pk20 && !opInPk op s.profile) && decide (authCheck s.cfg.active op r = some false) &&
    !(s.chan.opens.any (fun x => x.ident == w0 && x.tag == r.tag % 64)) && decide (s.chan.opens.length < 64) && lenOk op r.payload && !(s.asleep && !opAsleep op) &&
    !(opActive op && !s.active) && s.chan.opens.all (fun o => decide (o.id < s.chan.nextId))

theorem admitted {s : State} {op : Nat} {r : Rq} (h : admits s op r = true) : Admitted s op r w0 h0 false := by
  simp only [admits, Bool.and_eq_true, decide_eq_true_eq, Bool.not_eq_true', List.all_eq_true] at h
  obtain ⟨⟨⟨⟨⟨⟨⟨⟨⟨⟨⟨⟨a, b⟩, c⟩, d⟩, e⟩, f⟩, g⟩, i⟩, j⟩, k⟩, l⟩, m⟩, n⟩ := h
  exact ⟨a, b, c, d, e, f, g, i, j, k, l, m, n⟩

/-- A request that is admitted and meets more. -/
theorem meets {s : State} {op : Nat} {r : Rq} {P : Prop} (h : admits s op r = true ∧ P) : Admitted s op r w0 h0 false ∧ P := ⟨admitted h.1, h.2⟩

end Sys2Proof.Tests
end

