-- ==== Sys2Proof/WellFormed.lean ====
section
/-! DEFINITION. Well-formed commands: operands within the ranges of their fields, and action bytes that are those of the row. -/

namespace Sys2Proof

open Sys2Proof.Machine

/-- Byte `k` of a request's payload, 0 beyond its end. -/
def payloadByte (rq : Rq) (k : Nat) : Nat := (rq.payload.getD k 0#8).toNat

/-- A request whose fields fit Tables 2.1 to 2.3 and R29. -/
def Machine.Rq.wf (rq : Rq) : Bool :=
  decide (rq.mac < 2 ^ 48) && decide (rq.ip < 2 ^ 32) && decide (rq.udp < 2 ^ 16) && decide (rq.tag < 64) && decide (rq.seq < 2 ^ 32) && decide (rq.rsv < 32) &&
    decide (rq.payload.length ≤ 1408) &&
    (match rq.trailer with
     | some m => decide (m.length = 16)
     | none => true)

/-- A request of a row that is one action of its opcode: byte `k` of the payload is the action's. -/
def Machine.Rq.act (rq : Rq) (k v : Nat) : Bool := rq.wf && decide (payloadByte rq k = v)

/-- What an access meets fits a register of 32 bits. -/
def Machine.Cross.wf (x : Cross) : Bool :=
  decide (x.setBits < 2 ^ 32) && decide (x.hwMask < 2 ^ 32) && decide (x.hwVal < 2 ^ 32) && decide (x.inc < 2 ^ 32) && decide (x.done < 2 ^ 32)

/-- A datagram no longer than IPv4 allows, with addresses of their widths. -/
def Machine.RawDatagram.wf (d : RawDatagram) : Bool :=
  decide (d.mac < 2 ^ 48) && decide (d.ip < 2 ^ 32) && decide (d.udp < 2 ^ 16) && decide (d.bytes.length ≤ 65507)

/-- A serial port of R295. -/
def portWf (p : Nat) : Bool := decide (1 ≤ p) && decide (p ≤ 8)

/-- A frame on a serial port or from a UDP source; at most 200 data bytes (R467). -/
def Machine.PkFrame.wf (f : PkFrame) : Bool :=
  decide (f.data.length ≤ 200) &&
    (match f.src with
     | .serial p => portWf p
     | .udp _ => true)

/-- A CAN frame: identifier and length of its kind; a classical frame has at most 8 bytes (R308, R310). -/
def Machine.CanFrame.wf (f : CanFrame) : Bool :=
  decide (f.id < (if f.ide then 2 ^ 29 else 2 ^ 11)) && decide (f.data.length ≤ (if f.fdf then 64 else 8))

/-- Levels and trips of the 24 digital outputs (R365). -/
def Machine.MsMeas.wf (m : MsMeas) : Bool := decide (m.doLevel < 2 ^ 24) && decide (m.doTrip < 2 ^ 24)

/-- The lanes of the output deadline are the scenario lanes 1 to 3. -/
def laneWf (l : Nat) : Bool := decide (1 ≤ l) && decide (l ≤ 3)

/-- A member's number on the redundancy link (R413). -/
def memberWf (m : Nat) : Bool := decide (1 ≤ m) && decide (m ≤ 3)

/-- The slots that fail their CRC are among the recorder's 4,096 (R447, R449). -/
def Machine.PowerOn.wf (p : PowerOn) : Bool := p.lost.all (fun k => decide (k < 4096))

/-- Whether a command is well formed. -/
def Instr.wf : Instr → Bool
  | .nop rq | .getIdentity rq | .getStatus rq | .setEventMask rq | .ackEvent rq | .enterStandby rq | .wake rq | .selectPersonality rq => rq.wf
  | .resetCold rq => rq.act 0 0
  | .resetWarm rq => rq.act 0 1
  | .resetStart _ | .personalityRestart _ => true
  | .regRead rq x | .regWrite rq x | .mbxRead rq x => rq.wf && x.wf
  | .regReadBlock rq xs => rq.wf && xs.all Cross.wf
  | .registerWrite _ a v x => decide (a < 2 ^ 32) && decide (v < 2 ^ 32) && x.wf
  | .regCrossTimeout rq op xs _ => rq.wf && decide (op < 256) && xs.all Cross.wf
  | .mbxSelWrite _ v x => decide (v < 2 ^ 32) && x.wf
  | .mbxSnapshotComplete t d => decide (t ≤ d)
  | .mbxData7Read _ x => x.wf
  | .cfgOpen rq | .cfgWrite rq | .cfgRead rq | .cfgCommit rq | .cfgAbort rq | .cfgGetHash rq => rq.wf
  | .cfgTxnExpired _ | .eventRetxRound _ | .evtDestLost _ | .hostPathLost _ => true
  | .arpRequest _ _ m i g => decide (m < 2 ^ 48) && decide (i < 2 ^ 32) && decide (g < 2 ^ 32)
  | .icmpEcho _ _ m i d => decide (m < 2 ^ 48) && decide (i < 2 ^ 32) && decide (d.length ≤ 1472)
  | .ipDiscard _ _ _ => true
  | .cycleTick _ | .fusionPhaseDone _ | .controlLaw _ | .oscillationTimeout _ | .ctlJoyTimeout _ | .ctlTraverseDone _ | .windHoldExpiry _ | .sl0Start _ | .sl0Complete _ => true
  | .sl0Deadline _ n => decide (n < 2 ^ 16)
  | .scenarioComplete _ l => laneWf l
  | .alcConsequence _ | .consequenceClear _ => true
  | .outputDeadline _ ps => ps.all (fun p => laneWf p.lane)
  | .epochSeal _ | .sealFault _ | .mirrorComplete _ | .collectorDrainPass _ => true
  | .millisecondTick _ m => m.wf
  | .busSectionReturn _ | .srvValidation _ | .srvPhaseOverrun _ => true
  | .chainCopyReturn _ c => decide (c.bytes.length ≤ 9018)
  | .chainCycleComplete _ => true
  | .chainForward _ _ m f => decide (m < 2 ^ 48) && decide (f.length ≤ 9000)
  | .fldForeign _ _ m => decide (m < 2 ^ 48)
  | .chainScanSend _ => true
  | .chainScanComplete _ a b => (a.getD []).all (fun e => decide (e.addr < 65536)) && (b.getD []).all (fun e => decide (e.addr < 65536))
  | .fldPortLink _ _ _ => true
  | .fusGetSolution rq | .fusGetStream rq => rq.wf
  | .fusSetStreamStateDeselect rq => rq.act 2 0
  | .fusSetStreamStateSelect rq => rq.act 2 1
  | .fusSetStreamStateReadmit rq => rq.act 2 2
  | .fusCalControlStart rq => rq.act 2 0
  | .fusCalControlFreeze rq => rq.act 2 1
  | .fusCalControlResume rq => rq.act 2 2
  | .fusCalControlAccept rq => rq.act 2 3
  | .fusCalControlDiscard rq => rq.act 2 4
  | .fusInject rq | .dpSetMode rq | .dpSetTarget rq | .dpTraverse rq | .dpJoystick rq | .dpGetState rq => rq.wf
  | .dpTakeCommandTake rq => rq.act 0 0
  | .dpTakeCommandRelease rq => rq.act 0 1
  | .alcGetResult rq => rq.wf
  | .alcSetThrusterStateDisable rq => rq.act 1 0
  | .alcSetThrusterStateEnable rq => rq.act 1 1
  | .alcGetConsequence rq | .alcSetPowerLimits rq | .srvGetState rq | .srvTableLoad rq => rq.wf
  | .lgcLoadImageBegin rq => rq.act 0 0
  | .lgcLoadImageData rq => rq.act 0 1
  | .lgcLoadImageInstall rq => rq.act 0 2
  | .lgcStart rq | .lgcStop rq | .lgcSetValue rq | .lgcGetValue rq | .lgcGetStatus rq => rq.wf
  | .logicCycle _ | .logicCycleComplete _ => true
  | .recSetCursor rq | .recRead rq | .recClear rq | .recWriteUser rq => rq.wf
  | .recRecordWrite _ _ _ | .recCoalesceEnd _ => true
  | .recCursorWrite _ v => decide (v < 2 ^ 32)
  | .recWindowLoaded _ => true
  | .timGet rq => rq.wf
  | .timSetPpsEpoch rq => rq.act 0 0
  | .timSetHostTime rq => rq.act 0 1
  | .timAcceptJump rq => rq.wf
  | .vesselMeasurement _ | .timeReferenceLost _ | .timSourceSwitch _ | .timHoldoverLimit _ | .ppsInEdge _ | .ppsInLost _ | .ppsOutputEdge _ => true
  | .ptpMessage _ m => decide (m.kind < 16) && decide (m.domain < 256) && decide (m.seq < 65536) && decide (m.sender < 2 ^ 80)
  | .ptpSyncTx _ r => r == 10 || r == 100 || r == 1000
  | .gnssMeasurementEpoch _ _ => true
  | .gbSampleHandover _ late => late.all (fun n => decide (n < 256))
  | .acquisitionDetect _ i cells => decide (i < 2) && cells.all (fun c => decide (c.bin < 49) && decide (c.code < 4096))
  | .channelLockLoss _ i _ _ => decide (i < 2)
  | .gnsSignal _ i _ => decide (i < 2)
  | .antennaSupplyCheck _ _ _ | .antennaRetry _ _ _ => true
  | .rtcmFrame _ f => decide (f.length ≤ 1029)
  | .correctionExpiry _ | .gnssStoreWrite _ _ => true
  | .gnsGetFix rq | .gnsGetChannels rq | .gnsSetCorrections rq | .gnsColdStart rq => rq.wf
  | .serialSentence _ p => portWf p
  | .serialByte _ p _ _ => portWf p
  | .lnkSerSilent _ => true
  | .serialTxComplete _ p => portWf p
  | .alertAlfRepeat _ | .alertAlcList _ => true
  | .iec450Datagram _ _ g p src d => decide (g < 2 ^ 32) && decide (p < 65536) && decide (src < 2 ^ 32) && decide (d.length ≤ 65507)
  | .canFrameRx _ c f => decide (c < 2) && f.wf
  | .canTxComplete _ c o _ => decide (c < 2) && decide (o < 128)
  | .canBusIntegration _ c => decide (c < 2)
  | .canCtrlRestart _ c x => decide (c < 2) && x.wf
  | .canFifoPop _ c f x => decide (c < 2) && decide (f < 2) && x.wf
  | .crcDmaComplete _ u => decide (u < 4)
  | .crcInit _ u x | .crcStart _ u x => decide (u < 4) && x.wf
  | .crcDataWrite _ u v x | .crcValueWrite _ u v x => decide (u < 4) && decide (v < 2 ^ 32) && x.wf
  | .lnkGetCounters rq | .lnkCanTx rq | .lnkSerTx rq | .fldGetStation rq | .fldScan rq => rq.wf
  | .aioFilterOutput _ c _ => decide (c < 40)
  | .diSample _ l => decide (l < 2 ^ 32)
  | .doTripRetry _ o => decide (o < 24)
  | .aioFilterSetStop rq => rq.act 1 0
  | .aioFilterSetLoad rq => rq.act 1 1
  | .aioFilterSetStart rq => rq.act 1 2
  | .aioCalPoint1 rq => rq.act 2 0
  | .aioCalPoint2 rq => rq.act 2 1
  | .aioCalCommit rq => rq.act 2 2
  | .aioCalFactory rq => rq.act 2 3
  | .safInputSample _ l p => decide (l < 2 ^ 16) && decide (p < 2 ^ 16)
  | .safCycle _ m => decide (m.rb < 2 ^ 8)
  | .safTelegram _ => true
  | .safTelegramRx _ c _ => decide (c < 4)
  | .safOutputTest _ o _ _ => decide (o < 4)
  | .safClockCheck _ _ | .safMemoryTest _ _ | .safSessionTimeout _ | .safLockoutEnd _ => true
  | .safLoginLogin rq => rq.act 1 0
  | .safLoginLogout rq => rq.act 1 1
  | .safLoginChangePassword rq => rq.act 1 2
  | .safCfgWrite rq | .safCfgCommit rq | .safGetLog rq | .safResetFunction rq | .redGetState rq | .redRequestHandover rq | .redSetRolePref rq => rq.wf
  | .recordMessage _ m => memberWf m.from_
  | .recordTimeout _ => true
  | .compareMessage _ m => memberWf m.from_ && decide (m.thrust.length = 24) && decide (m.az.length = 24)
  | .verdictMessage _ m => memberWf m.from_ && decide (m.agree < 8)
  | .sealMessage _ m => memberWf m.from_
  | .repairMessage _ m => memberWf m.from_
  | .controlMessage _ m => memberWf m.from_
  | .heartbeatMessage _ m => memberWf m.from_ && decide (m.flags < 256)
  | .heartbeatLoss _ | .tokenWatchdog _ | .loopIdleWait _ _ | .tokenConfirm _ _ | .demandRelease _ | .tokenRelease _ | .redTakeover _ | .outputStageCheck _ _
  | .formationTimeout _ | .arbitrationReplayDone _ _ _ | .redTest _ => true
  | .knownAnswerTest _ n => decide (n ≤ 64)
  | .powerOn p => p.wf
  | .commandChannelReady _ | .dpReady _ | .warmRestart _ | .feedSample _ _ _ _ _ | .rideThroughExpiry _ | .storeReserveReached _ | .saveComplete _ _ => true
  | .coreRestart p => p.wf
  | .auxSupplySample _ _ _ | .envLimit _ _ | .clkReference _ _ | .extReferenceReturn _ | .rcTrim _ _ | .clkOscWarm _ _ | .oppointStep _ | .thermalStepdown _ _ | .thermalRecovery _ _ => true
  | .clkLock _ d _ => decide (d < 6)
  | .pllRelock _ d _ _ => decide (d < 6)
  | .fwUpdateBegin rq | .fwUpdateData rq => rq.wf
  | .fwUpdateEndVerify rq => rq.act 0 0
  | .fwUpdateEndVerifyStart rq => rq.act 0 1
  | .fwUpdateEndAbandon rq => rq.act 0 2
  | .fwUpdateTimeout _ | .trialWatchdog _ => true
  | .service rq xs => rq.wf && xs.all Cross.wf
  | .lioshHelp _ | .lioshId _ | .lioshService _ | .lioshView _ => true
  | .lioshStatus _ xs | .lioshEvents _ xs | .lioshTime _ xs | .lioshLinks _ xs => xs.all Cross.wf
  | .lioshReg _ a n xs => decide (a < 2 ^ 32) && decide (n < 2 ^ 32) && xs.all Cross.wf
  | .lioshMbx _ i x => decide (i < 2 ^ 32) && x.wf
  | .lioshRec _ f n => decide (f < 2 ^ 32) && decide (n < 2 ^ 32)
  | .lioshRegw _ a v x => decide (a < 2 ^ 32) && decide (v < 2 ^ 32) && x.wf
  | .lioshKat _ n => decide (n ≤ 64)
  | .lioshFwSelect _ _ | .lioshResetCold _ | .lioshResetWarm _ => true
  | .pk20OutputWrite _ => true
  | .pk20FrameGap _ p => portWf p
  | .readStatus f | .readPosition f | .readHeading f | .readThruster f | .readCommands f | .readAlarms f | .ackAlarm f | .setMode f | .setPosition f | .setHeading f
  | .joystick f | .thrusterEnable f | .readRefs f | .selectRef f | .readTime f | .readConsequence f => f.wf
  | .undefinedOpcodeRequest d => d.wf
  | .canBusError _ c _ => decide (c < 2)
  | .pullInLock _ i _ _ _ => decide (i < 2)
  | .navDataDecoded _ i _ _ => decide (i < 2)
  | .ptpDelayReqTx _ r => r == 10 || r == 100 || r == 1000
  | .operatingTimeSave _ | .energyStoreCharged _ | .aonBackupCharged _ => true
  | .lioshCharacter _ _ xs => xs.all Cross.wf
  | .pk20UnknownFunction f _ _ => f.wf

end Sys2Proof
end

