-- ==== Sys2Proof/Tests/Slice0.lean ====
section
/-! SUPPORT. Tests: ill-formed commands, one for each check; values and replies that the spec works out. -/

namespace Sys2Proof.Tests

set_option Elab.async false

open Sys2Proof.Machine

/-! Ill-formed commands. -/

/-- A request at 0 with a payload. -/
def rq0 (p : List Byte) : Rq := ⟨0, false, 0, 0, 0, 0, 0, false, none, p, 0⟩

def x0 : Cross := .plain

/-- A PK-20 frame on a port. -/
def pk0 (port : Nat) (d : List Byte) : PkFrame := ⟨0, .serial port, 0x31#8, d, true⟩

/-- Requests outside Tables 2.1 to 2.3 and R29: addresses, port, tag, sequence, payload, trailer. -/
theorem test_wf_request : let r := rq0 []
    ([{ r with mac := 2 ^ 48 }, { r with ip := 2 ^ 32 }, { r with udp := 2 ^ 16 }, { r with tag := 64 }, { r with seq := 2 ^ 32 }, { r with trailer := some [] },
    { r with rsv := 32 }, rq0 (List.replicate 1409 0)] : List Rq).all (fun rq => !(Instr.nop rq).wf) = true := by decide +kernel

/-- Every row that is one action of its opcode refuses another action's byte. -/
theorem test_wf_action :
    let p := rq0 [9, 9, 9, 9]
    [Instr.resetCold p, .resetWarm p, .fusSetStreamStateDeselect p, .fusSetStreamStateSelect p, .fusSetStreamStateReadmit p, .fusCalControlStart p,
      .fusCalControlFreeze p, .fusCalControlResume p, .fusCalControlAccept p, .fusCalControlDiscard p, .dpTakeCommandTake p, .dpTakeCommandRelease p,
      .alcSetThrusterStateDisable p, .alcSetThrusterStateEnable p, .lgcLoadImageBegin p, .lgcLoadImageData p, .lgcLoadImageInstall p, .timSetPpsEpoch p,
      .timSetHostTime p, .aioFilterSetStop p, .aioFilterSetLoad p, .aioFilterSetStart p, .aioCalPoint1 p, .aioCalPoint2 p, .aioCalCommit p, .aioCalFactory p,
      .safLoginLogin p, .safLoginLogout p, .safLoginChangePassword p, .fwUpdateEndVerify p, .fwUpdateEndVerifyStart p, .fwUpdateEndAbandon p].all (fun c => !c.wf)
      = true := by decide +kernel

/-- What an access meets, wider than a register. -/
theorem test_wf_cross : ([{ x0 with setBits := 2 ^ 32 }, { x0 with hwMask := 2 ^ 32 }, { x0 with hwVal := 2 ^ 32 }, { x0 with inc := 2 ^ 32 },
    { x0 with done := 2 ^ 32 }] : List Cross).all (fun x =>
      [Instr.regRead (rq0 []) x, .regWrite (rq0 []) x, .mbxRead (rq0 []) x, .regReadBlock (rq0 []) [x], .regCrossTimeout (rq0 []) 0x12 [x] false, .mbxSelWrite 0 0 x,
       .mbxData7Read 0 x, .registerWrite 0 0 0 x, .canCtrlRestart 0 0 x, .canFifoPop 0 0 0 x, .crcInit 0 0 x, .crcStart 0 0 x, .crcDataWrite 0 0 0 x, .crcValueWrite 0 0 0 x,
       .service (rq0 []) [x], .lioshStatus 0 [x], .lioshEvents 0 [x], .lioshTime 0 [x], .lioshLinks 0 [x], .lioshReg 0 0 1 [x], .lioshMbx 0 0 x, .lioshRegw 0 0 0 x,
       .lioshCharacter 0 0 [x]].all (fun c => !c.wf)) = true := by decide +kernel

/-- Addresses, values, numbers and lengths beyond their fields. -/
theorem test_wf_fields :
    [Instr.registerWrite 0 (2 ^ 32) 0 x0, .registerWrite 0 0 (2 ^ 32) x0, .regCrossTimeout (rq0 []) 256 [] false, .mbxSelWrite 0 (2 ^ 32) x0, .mbxSnapshotComplete 1 0, .arpRequest 0 false (2 ^ 48) 0 0,
      .arpRequest 0 false 0 (2 ^ 32) 0, .arpRequest 0 false 0 0 (2 ^ 32), .icmpEcho 0 false (2 ^ 48) 0 [], .icmpEcho 0 false 0 (2 ^ 32) [],
      .icmpEcho 0 false 0 0 (List.replicate 1473 0), .sl0Deadline 0 (2 ^ 16), .scenarioComplete 0 0, .scenarioComplete 0 4, .outputDeadline 0 [⟨0, 0, false, 0⟩],
      .millisecondTick 0 ⟨[], 2 ^ 24, 0, 0, 0⟩, .millisecondTick 0 ⟨[], 0, 2 ^ 24, 0, 0⟩, .chainForward 0 false 0 (List.replicate 9001 0), .chainForward 0 false (2 ^ 48) [],
      .chainCopyReturn 0 ⟨false, false, true, 0, 0, List.replicate 9019 0⟩, .fldForeign 0 false (2 ^ 48),
      .chainScanComplete 0 (some [⟨65536, 0, 0, 0, 0, 0, 0, 0, 0, 0⟩]) none, .chainScanComplete 0 none (some [⟨65536, 0, 0, 0, 0, 0, 0, 0, 0, 0⟩]),
      .recCursorWrite 0 (2 ^ 32), .ptpSyncTx 0 1, .ptpDelayReqTx 0 1, .gbSampleHandover 0 [256], .acquisitionDetect 0 2 [], .acquisitionDetect 0 0 [⟨49, 0, []⟩],
      .acquisitionDetect 0 0 [⟨0, 4096, []⟩], .channelLockLoss 0 2 0 .pullIn, .gnsSignal 0 2 [], .rtcmFrame 0 (List.replicate 1030 0)].all
      (fun c => !c.wf) = true := by decide +kernel

/-- As before, for links, inputs and outputs, safety, redundancy, clocks, the monitor and PK-20 frames. -/
theorem test_wf_units :
    [Instr.serialSentence 0 0, .serialByte 0 9 0 false, .serialTxComplete 0 0, .iec450Datagram 0 false (2 ^ 32) 0 0 [], .iec450Datagram 0 false 0 65536 0 [],
      .iec450Datagram 0 false 0 0 (2 ^ 32) [], .canFrameRx 0 2 ⟨0, false, false, false, false, []⟩, .canFrameRx 0 0 ⟨2 ^ 11, false, false, false, false, []⟩,
      .canFrameRx 0 0 ⟨2 ^ 29, true, false, false, false, []⟩, .canFrameRx 0 0 ⟨0, false, false, false, false, List.replicate 9 0⟩,
      .canFrameRx 0 0 ⟨0, false, true, false, false, List.replicate 65 0⟩, .canTxComplete 0 2 0 .sent, .canTxComplete 0 0 128 .sent, .canBusIntegration 0 2,
      .canCtrlRestart 0 2 x0, .canFifoPop 0 2 0 x0, .canFifoPop 0 0 2 x0, .canBusError 0 2 .tx, .crcInit 0 4 x0, .crcStart 0 4 x0, .crcDmaComplete 0 4,
      .crcDataWrite 0 4 0 x0, .crcDataWrite 0 0 (2 ^ 32) x0, .crcValueWrite 0 4 0 x0, .crcValueWrite 0 0 (2 ^ 32) x0, .aioFilterOutput 0 40 ⟨0, 0, false⟩, .diSample 0 (2 ^ 32), .doTripRetry 0 24,
      .safInputSample 0 (2 ^ 16) 0, .safInputSample 0 0 (2 ^ 16), .safCycle 0 ⟨2 ^ 8, 0, true⟩, .safTelegramRx 0 4 true, .safOutputTest 0 4 true true,
      .controlMessage 0 ⟨0, .join, true⟩, .controlMessage 0 ⟨4, .join, true⟩, .verdictMessage 0 ⟨1, 0, 8, [], true⟩, .knownAnswerTest 0 65,
      .powerOn ⟨none, false, false, false, false, false, true, [4096]⟩, .coreRestart ⟨none, false, false, false, false, false, true, [4096]⟩, .clkLock 0 6 false,
      .pllRelock 0 6 false true, .lioshReg 0 (2 ^ 32) 1 [], .lioshReg 0 0 (2 ^ 32) [], .lioshMbx 0 (2 ^ 32) x0, .lioshRec 0 (2 ^ 32) 1, .lioshRec 0 0 (2 ^ 32),
      .lioshRegw 0 (2 ^ 32) 0 x0, .lioshRegw 0 0 (2 ^ 32) x0, .lioshKat 0 65, .pk20FrameGap 0 0, .readStatus (pk0 9 []), .readStatus (pk0 1 (List.replicate 201 0)),
      .pullInLock 0 2 0 0 0, .navDataDecoded 0 2 0 ⟨false, 0, none, false⟩].all (fun c => !c.wf) = true := by decide +kernel

/-- A message of the redundancy link from no member, PTP fields, an update's datagram. -/
theorem test_wf_messages :
    let d : PtpMaster := ⟨0, 0, 0, 0, 0, 0, 0, 0, 0, false⟩
    let g : PtpMsg := ⟨false, 100, true, 0, 0, 0, 0, false, 0, 0, 0, d⟩
    let b : RlBeat := ⟨1, 0, .none, false, false, false, 0, 0, false, 0, 0, .native, .strict, (3, 0, 0), true⟩
    ([{ g with kind := 16 }, { g with domain := 256 }, { g with seq := 65536 }, { g with sender := 2 ^ 80 }] : List PtpMsg).all (fun m => !(Instr.ptpMessage 0 m).wf) &&
    ([{ b with from_ := 0 }, { b with from_ := 4 }, { b with flags := 256 }] : List RlBeat).all (fun m => !(Instr.heartbeatMessage 0 m).wf) &&
    [(⟨0, false, 2 ^ 48, 0, 0, []⟩ : RawDatagram), ⟨0, false, 0, 2 ^ 32, 0, []⟩, ⟨0, false, 0, 0, 2 ^ 16, []⟩].all (fun y => !(Instr.undefinedOpcodeRequest y).wf) &&
    !(Instr.recordMessage 0 ⟨0, 0, 0, 0, 0, .native, 10, {}, {}, [], 0, true, false⟩).wf && !(Instr.repairMessage 0 ⟨0, 0, [], none, none, none, true, true⟩).wf &&
    !(Instr.sealMessage 0 ⟨0, 0, 0, 0, {}, {}, false, [], true, false, true⟩).wf &&
    !(Instr.compareMessage 0 ⟨0, 0, {}, List.replicate 24 0, List.replicate 24 0, {}, false, false, [], true⟩).wf &&
    !(Instr.compareMessage 0 ⟨1, 0, {}, [], List.replicate 24 0, {}, false, false, [], true⟩).wf &&
    !(Instr.compareMessage 0 ⟨1, 0, {}, List.replicate 24 0, [], {}, false, false, [], true⟩).wf = true := by decide +kernel

/-- Commands that are well formed, at the limits of their fields. -/
theorem test_wf_accepts :
    [Instr.nop (rq0 (List.replicate 1408 0)), .resetWarm (rq0 [1]), .scenarioComplete 0 1, .scenarioComplete 0 3, .serialByte 0 8 0 false,
      .canFrameRx 0 1 ⟨2 ^ 29 - 1, true, true, false, false, List.replicate 64 0⟩, .aioFilterOutput 0 39 ⟨0, 0, false⟩, .safOutputTest 0 3 true true,
      .controlMessage 0 ⟨3, .join, true⟩, .pllRelock 0 5 false true, .readStatus (pk0 8 (List.replicate 200 0)), .ptpSyncTx 0 1000].all Instr.wf = true := by
  decide +kernel

/-- Datagrams longer than IPv4 allows. -/
theorem test_wf_datagram (n : Nat) (h : 65507 < n) :
    (Instr.iec450Datagram 0 false 0 0 0 (List.replicate n 0)).wf = false ∧ (Instr.undefinedOpcodeRequest ⟨0, false, 0, 0, 0, List.replicate n 0⟩).wf = false := by
  constructor <;> simp [Instr.wf, RawDatagram.wf, h]

/-! Values the spec works out. -/

/-- The check values of Table 12.10 over "123456789". -/
theorem test_crc_checks :
    let s := ascii ['1', '2', '3', '4', '5', '6', '7', '8', '9']
    (List.range 5).map (fun k => crcResult k (crcFeed k (crcInit k) s)) = [0xE3069283, 0xCBF43926, 0x29B1, 0xBB3D, 0xF4] ∧ crc32c s = 0xE3069283 := by
  decide +kernel

/-- The iteration budget of P = 10 ms with the default deadline (the example of chapter 01). -/
theorem test_sl0_budget : sl0Budget [] 10 = 1666 := by decide +kernel

/-- The heading frames of the example of chapter 19. -/
theorem test_pk20_frames :
    pkFrame 0x31 (ascii ['0', '3', '0', '8', '9', '.', '9', '8']) = [0x02, 0x31, 0x30, 0x33, 0x30, 0x38, 0x39, 0x2E, 0x39, 0x38, 0x03, 0x2F] ∧
    pkFrame 0x31 (ascii ['0', '3', '0', '9', '0', '.', '0', '0']) = [0x02, 0x31, 0x30, 0x33, 0x30, 0x39, 0x30, 0x2E, 0x30, 0x30, 0x03, 0x26] := by decide +kernel

end Sys2Proof.Tests
end

