-- ==== Sys2Proof/Tests/WitnessChannel.lean ====
section
/-! SUPPORT. Witnesses for the statements about the command channel, registers and the mailbox: each shows states and operands that meet the hypotheses of
a clause, in the order of the clauses. -/

namespace Sys2Proof.Tests

set_option Elab.async false

open Sys2Proof.Machine

/-! Requests that are admitted with the payloads of the clauses. -/

theorem witness_ChannelReads : Admitted up 0x00 (rq []) w0 h0 false ∧ Admitted up 0x01 (rq []) w0 h0 false ∧
    (Admitted up 0x02 (rq (bs [0, 0, 0, 0])) w0 h0 false ∧ getU8 (bs [0, 0, 0, 0]) 0 = 0) ∧
    (Admitted up 0x02 (rq (bs [1, 0, 0, 0])) w0 h0 false ∧ getU8 (bs [1, 0, 0, 0]) 0 = 1) ∧ Admitted up 0x25 (rq []) w0 h0 false :=
  ⟨admitted (by decide), admitted (by decide), meets (by decide), meets (by decide), admitted (by decide)⟩

theorem witness_StatusSelectorRefused : Admitted up 0x02 (rq (bs [2, 0, 0, 0])) w0 h0 false ∧ 1 < getU8 (bs [2, 0, 0, 0]) 0 := meets (by decide)

/-- A record of event 7 that is held since step 0. -/
def r7 : EvRec := ⟨7, 1, 3, 0, 0, [], 0, 0, 1, [], 0, 0⟩

/-- A destination of identity `w` with held records. -/
def dest (w : Ident) (recs : List EvRec) (rounds : Nat) (next : Option Nat) : Dest := ⟨w, 0, 2 ^ 128 - 1, 0, [(rq []).from_], recs, 1, rounds, next⟩

def held7 : State := { up with evt := { up.evt with dests := [dest w0 [r7] 0 (some 1000), dest (.addr 9 9) [] 0 none] } }

theorem witness_EventRequests : Admitted held7 0x04 (rq (zeros 16)) w0 h0 false ∧
    (held7.evt.dests[1]? = some (dest (.addr 9 9) [] 0 none) ∧ (dest (.addr 9 9) [] 0 none).ident ≠ w0) ∧
    Admitted held7 0x05 (rq (bs [7, 0, 0, 0, 3, 0, 0, 0])) w0 h0 false ∧
    (held7.evt.dests.findIdx? (fun d => d.ident == w0) = some 0 ∧ held7.evt.dests[0]? = some (dest w0 [r7] 0 (some 1000)) ∧
      (dest w0 [r7] 0 (some 1000)).recs.find? (fun x => x.ev == getU8 (bs [7, 0, 0, 0, 3, 0, 0, 0]) 0) = some r7 ∧
      r7.seq ≤ getU32 (bs [7, 0, 0, 0, 3, 0, 0, 0]) 4 ∧ r7.born ≠ (rq []).t / 1000) :=
  ⟨admitted (by decide), by decide, admitted (by decide), by decide⟩

/-- A host bound to both ports, heard on one of them alone. -/
def bound (a b : Option Nat) : HostRec := { h0 with ident := .entry 1 2 3, lastA := a, lastB := b }

/-- A module whose destination gives up in this step. -/
def lost7 : State := { held7 with evt := { held7.evt with dests := [dest w0 [r7] 10 (some 1000)] } }

/-- A module with a bound host. -/
def withHost (a b : Option Nat) : State := { up with chan := { up.chan with hosts := [bound a b] } }

theorem witness_EventRounds :
    (held7.chan.ready = true ∧ held7.evt.dests[0]? = some (dest w0 [r7] 0 (some 1000)) ∧ (dest w0 [r7] 0 (some 1000)).recs ≠ [] ∧
      (dest w0 [r7] 0 (some 1000)).recs.length ≤ 29 ∧ (dest w0 [r7] 0 (some 1000)).rounds < 10 ∧ (1000 : Nat) ≤ 1000000) ∧
    (dest w0 [r7] 10 (some 1000) ∈ lost7.evt.dests ∧ 10 ≤ (dest w0 [r7] 10 (some 1000)).rounds ∧ (dest w0 [r7] 10 (some 1000)).recs ≠ [] ∧ (dest w0 [r7] 10 (some 1000)).nextRound = some 1000) ∧
    (∀ d ∈ held7.evt.dests, d.rounds < 10 ∨ d.recs = [] ∨ ∀ n, d.nextRound = some n → 999 < n) ∧
    (bound none (some 2000000000) ∈ (withHost none (some 2000000000)).chan.hosts ∧ boundBoth (bound none (some 2000000000)).ident = true ∧ (bound none (some 2000000000)).lastA.getD (bound none (some 2000000000)).since + 2000000000 ≤ 2000000000 ∧
      (2000000000 : Nat) < 2000000000 + 2000000000) ∧
    (bound (some 1) none ∈ (withHost (some 1) none).chan.hosts ∧ boundBoth (bound (some 1) none).ident = true ∧ (bound (some 1) none).lastB.getD (bound (some 1) none).since + 2000000000 ≤ 2000000000 ∧
      (2000000000 : Nat) < 1 + 2000000000) := by
  refine ⟨by decide, by decide, fun d h => ?_, by decide⟩
  rcases List.mem_cons.1 h with rfl | h
  · exact .inl (by decide)
  · exact .inr (.inl (by rw [List.mem_singleton.1 h]; rfl))

theorem witness_NetworkFrames : up.chan.ready = true ∧ (0 : Nat) ≠ up.ownIp false := by decide

/-- A whole datagram of opcode 0xFE with its CRC. -/
def dgFE : RawDatagram :=
  let body := bs [0x56, 0x4C, 1, 0xFE, 0, 0, 0, 0, 1, 0, 0, 0, 0, 0, 0, 0]
  ⟨1000000, false, 0xAA, 7, 5000, body ++ u32 (crc32c body)⟩

theorem witness_UndefinedOpcode : dgCheck dgFE.bytes = 0 ∧ opDefined (getU8 dgFE.bytes 3) = false ∧ up.chan.ready = true ∧
    (identOf up.cfg.active (dgRequest dgFE).from_).map Prod.fst = some w0 ∧ up.host? w0 = some h0 ∧ seqKind h0 (dgRequest dgFE).seq = 0 ∧
    ∀ o ∈ up.chan.opens, o.id < up.chan.nextId := by decide +kernel

/-! Registers. -/

theorem witness_RegisterReads :
    (Admitted up 0x10 (rq (u32 Reg.sysStatus)) w0 h0 false ∧ (regFind Reg.sysStatus).isSome = true ∧ up.blockDown (blockOf Reg.sysStatus) = false ∧
      Cross.plain.lost = none ∧ Reg.sysStatus ≠ Reg.mbxData + 28) ∧
    (Admitted up 0x10 (rq (u32 (Reg.mbxData + 28))) w0 h0 false ∧ (regFind (Reg.mbxData + 28)).isSome = true ∧ up.blockDown (blockOf (Reg.mbxData + 28)) = false) ∧
    (Admitted up 0x10 (rq (u32 1)) w0 h0 false ∧ (regFind 1).isSome = false) ∧
    (Admitted up 0x12 (rq (u32 Reg.sysStatus ++ u16 2 ++ u16 0)) w0 h0 false ∧ up.blockDown (blockOf Reg.sysStatus) = false ∧
      (∀ x ∈ [Cross.plain], x.lost = none) ∧ ∀ i < 2, (regFind (Reg.sysStatus + 4 * i)).isSome = true ∧ Reg.sysStatus + 4 * i ≠ Reg.mbxData + 28) ∧
    (Admitted up 0x12 (rq (u32 0 ++ u16 0 ++ u16 0)) w0 h0 false ∧ getU16 (rq (u32 0 ++ u16 0 ++ u16 0)).payload 4 = 0) ∧
    (Admitted up 0x12 (rq (u32 0 ++ u16 257 ++ u16 0)) w0 h0 false ∧ 256 < getU16 (rq (u32 0 ++ u16 257 ++ u16 0)).payload 4) :=
  ⟨meets (by decide), meets (by decide), meets (by decide), meets (by decide), meets (by decide), meets (by decide)⟩

/-- A module whose domains are powered down. -/
def downUp : State := { up with clk := { up.clk with domains := List.replicate 6 { src := 0 } } }

theorem witness_RegisterWrites :
    (∃ g, Admitted up 0x11 (rq (u32 Reg.sysScratch ++ u32 5)) w0 h0 false ∧ Cross.plain.lost = none ∧ regFind Reg.sysScratch = some g ∧
      blockOf Reg.sysScratch ∉ [3, 6, 7, 17, 19, 20] ∧ up.blockDown (blockOf Reg.sysScratch) = false ∧ Reg.sysScratch ∉ eventRegs ∧
      Reg.sysScratch ∉ [Reg.sysStatus, Reg.sysXstall, Reg.sysWlostCount]) ∧
    (Admitted up 0x11 (rq (u32 Reg.safStatus ++ u32 5)) w0 h0 false ∧ blockOf Reg.safStatus = 17) ∧
    (Admitted up 0x11 (rq (u32 1 ++ u32 5)) w0 h0 false ∧ blockOf 1 ≠ 17 ∧ regFind 1 = none) ∧
    (Admitted downUp 0x11 (rq (u32 (cnt450 7) ++ u32 5)) w0 h0 false ∧ blockOf (cnt450 7) ≠ 17 ∧ (regFind (cnt450 7)).isSome = true ∧
      downUp.blockDown (blockOf (cnt450 7)) = true) ∧
    (∃ g, regFind Reg.evtLatch = some g ∧ up.blockDown (blockOf Reg.evtLatch) = false ∧ blockOf Reg.evtLatch ∉ [3, 6, 7, 19, 20] ∧
      Reg.evtLatch ∉ [Reg.sysStatus, Reg.sysXstall, Reg.sysWlostCount] ∧ Reg.evtLatch ≠ cnt450 7) :=
  ⟨⟨_, meets ⟨by decide, rfl, rfl, by decide⟩⟩, meets (by decide), meets (by decide), meets (by decide), ⟨_, rfl, by decide⟩⟩

theorem witness_CrossingTimeout : (regFind Reg.sysScratch).isSome = true ∧ up.blockDown (blockOf Reg.sysScratch) = false ∧ blockOf Reg.sysScratch ≠ 17 ∧
    Admitted up 0x10 (rq (u32 Reg.sysScratch)) w0 h0 false ∧ Admitted up 0x11 (rq (u32 Reg.sysScratch ++ u32 5)) w0 h0 false ∧
    (∃ g, regFind Reg.sysScratch = some g ∧ blockOf Reg.sysScratch ∉ [3, 6, 7, 17, 19, 20] ∧ Reg.sysScratch ∉ eventRegs ∧ Reg.sysScratch ≠ Reg.sysStatus) ∧
    (Admitted up 0x12 (rq (u32 Reg.sysStatus ++ u16 2 ++ u16 0)) w0 h0 false ∧ [Cross.plain].length < 2 ∧ (∀ x ∈ [Cross.plain], x.lost = none) ∧
      ∀ i ≤ 1, (regFind (Reg.sysStatus + 4 * i)).isSome = true ∧ Reg.sysStatus + 4 * i ≠ Reg.mbxData + 28) ∧
    (Admitted up 0x13 (rq (u16 1 ++ u16 0)) w0 h0 false ∧ getU16 (rq (u16 1 ++ u16 0)).payload 0 ∈ mbxIds ∧ up.blockDown (1 / 256) = false) :=
  ⟨by decide, by decide, by decide, admitted (by decide), admitted (by decide), ⟨_, rfl, by decide⟩, meets (by decide), meets (by decide)⟩

/-! The mailbox, CRC units and transactions. -/

/-- A snapshot of the epoch's words is under way, the one before it still valid. -/
def snap1 : State := { up with mbx := { up.mbx with pend := some 1, valid := true } }

theorem witness_Mailbox : (Cross.plain.lost = none ∧ 1 % 65536 ∈ mbxIds ∧ snap1.blockDown 3 = false ∧ (snap1.mbx.at_ 1000000).valid = true) ∧ 0 % 65536 ∉ mbxIds ∧
    ((snap1.mbx.at_ 1000000).pend = some 1 ∧ (snap1.mbx.at_ 1000000).back = none ∧ (State.mbxWords { snap1 with out := [] } 1000000 1).isSome = true) ∧
    (Admitted up 0x13 (rq (u16 1 ++ u16 0)) w0 h0 false ∧ getU16 (rq (u16 1 ++ u16 0)).payload 0 ∈ mbxIds ∧ up.blockDown (1 / 256) = false) ∧
    (Admitted up 0x13 (rq (u16 0 ++ u16 0)) w0 h0 false ∧ getU16 (rq (u16 0 ++ u16 0)).payload 0 ∉ mbxIds) :=
  ⟨by decide, by decide, by decide +kernel, meets (by decide), meets (by decide)⟩

theorem witness_CrcUnits : (up.crc[3]? = some ({} : CrcUnit) ∧ Cross.plain.lost = none ∧ up.blockDown 20 = false ∧ ({} : CrcUnit).busy = false ∧ bits (up.reg (crcAt Reg.crcCtrl 3)) 5 2 ≤ 2) ∧
    (({ busy := true } : CrcUnit).busy = true ∧ ({ busy := true } : CrcUnit).again = false ∧
      ({ up with crc := List.replicate 4 ({ busy := true } : CrcUnit) } : State).crc[3]? = some ({ busy := true } : CrcUnit)) := by decide

/-- A state with transactions. -/
def txns (xs : List Txn) : State := { up with cfg := { up.cfg with txns := xs } }

/-- Transaction 1 of the active hash, committed or not. -/
def t1 (c : Bool) : Txn := ⟨1, 5, [], 0, c⟩

theorem witness_Transactions :
    (Admitted (txns [t1 false]) 0x20 (rq []) w0 h0 false ∧ (txns [t1 false]).cfg.txns.length < 4 ∧ (∀ x ∈ (txns [t1 false]).cfg.txns, x.handle ≠ 2) ∧
      ∃ x ∈ (txns [t1 false]).cfg.txns, x.handle = 1) ∧
    (Admitted (txns (List.replicate 4 (t1 false))) 0x20 (rq []) w0 h0 false ∧ 4 ≤ (txns (List.replicate 4 (t1 false))).cfg.txns.length) ∧
    (Admitted (txns [t1 false]) 0x21 (rq (u16 1 ++ u16 2 ++ u32 0 ++ u16 2 ++ u16 0 ++ u16 400)) w0 h0 false ∧ (txns [t1 false]).txn? 1 = some (t1 false) ∧
      (t1 false).committed = false ∧ itemSize 2 = some 2 ∧ itemClosed 2 = false ∧ (stageBytes (t1 false).staged (cfgKey 2 0) (u16 400)).length ≤ 262144) ∧
    (Admitted (txns [t1 true]) 0x22 (rq (u16 1 ++ u16 2 ++ u32 0 ++ u16 2 ++ u16 0)) w0 h0 false ∧ (txns [t1 true]).txn? 1 = some (t1 true)) ∧
    (Admitted up 0x22 (rq (u16 0xFFFF ++ u16 2 ++ u32 0 ++ u16 2 ++ u16 0)) w0 h0 false ∧ up.txn? 0xFFFF = none) ∧
    (Admitted up 0x22 (rq (u16 0xFFFF ++ u16 0x21 ++ u32 0 ++ u16 2 ++ u16 0)) w0 h0 false ∧ (itemSize 0x21).any (fun n => decide (0 + 2 ≤ n)) = true) ∧
    Admitted (txns [t1 false]) 0x24 (rq (u16 1 ++ u16 0)) w0 h0 false ∧
    (Admitted (txns [t1 true]) 0x24 (rq (u16 1 ++ u16 0)) w0 h0 false ∧ (txns [t1 true]).txn? 1 = some (t1 true) ∧ (t1 true).committed = true) ∧
    Admitted (txns [t1 true]) 0x21 (rq (u16 1 ++ u16 2 ++ u32 0 ++ u16 2 ++ u16 0 ++ u16 400)) w0 h0 false ∧
    Admitted (txns [t1 true]) 0x23 (rq (u16 1 ++ u16 0)) w0 h0 false ∧
    (Admitted (txns [t1 false]) 0x23 (rq (u16 1 ++ u16 0)) w0 h0 false ∧ (txns [t1 false]).commitCheck 5 [] = none) ∧
    (t1 false ∈ (txns [t1 false]).cfg.txns ∧ (t1 false).committed = false ∧ (t1 false).lastUse + 600000000000 ≤ 600000000000) :=
  ⟨meets (by decide), meets (by decide), meets (by decide), meets (by decide), meets (by decide), meets (by decide), admitted (by decide), meets (by decide),
    admitted (by decide), admitted (by decide), meets (by decide), by decide⟩

end Sys2Proof.Tests
end

