-- ==== Sys2Proof/Tests/WitnessCycle.lean ====
section
/-! SUPPORT. Witnesses for the statements about the cycle, control, allocation, consequences and the servo loops, in the order of their clauses. -/

namespace Sys2Proof.Tests

set_option Elab.async false

open Sys2Proof.Machine

/-- The module in a cycle engine of another state. -/
def inCyc (c : Cyc) : State := { up with cyc := { c with halt := false } }

theorem witness_CycleOpens :
    ((inCyc {}).clk.phase = .running ∧ (inCyc {}).cyc.halt = false ∧ (inCyc {}).red.size = 0 ∧
      (inCyc {}).msDue 9990000 = true ∧ roundMs ((inCyc {}).vessel 9990000) % cyclePms (inCyc {}).cfg.active (inCyc {}).pers = 0 ∧ (inCyc {}).cyc.tick + (inCyc {}).cyc.pms * 999000 ≤ 9990000 ∧
      ∀ b ∈ (inCyc {}).cyc.bnds, 9990000 < b.at_ + 1000000) ∧ (inCyc {}).tickDue 5000000 = false := by decide +kernel

/-- Three points of a cycle. -/
def cBegan : State := inCyc { ph := { began := true } }

def cFused : State := inCyc { ph := { began := true, fu := true } }

theorem witness_FusionAndLaw : Cycling cBegan ∧ (cBegan.cyc.ph.began = true ∧ cBegan.cyc.ph.fu = false ∧ cBegan.phaseAt 20 < 2000001) ∧
    (Cycling cFused ∧ cFused.cyc.ph.fu = true ∧ cFused.cyc.ph.law = false ∧ cFused.phaseAt 20 ≤ 2000000 ∧ cFused.cyc.law = [] ∧ cFused.solves = true ∧ cFused.strict = false) ∧
    (Cycling { cFused with pers := .pk20, cyc := { cFused.cyc with tickV := 10000000 } } ∧
      State.solves { cFused with pers := .pk20, cyc := { cFused.cyc with tickV := 10000000 } } = false) :=
  ⟨⟨rfl, rfl⟩, by decide, ⟨⟨rfl, rfl⟩, by decide⟩, ⟨⟨rfl, rfl⟩, by decide⟩⟩

/-- A Traverse profile whose time is up. -/
def tr0 : Trav := ⟨0, 0, 0, 0, 0, 0, 0, 0, 1, 0, 0, 4, false⟩

/-- The control law in another state at a tick of 100 s. -/
def inCtl (c : Ctl) : State := { inCyc { tick := 100000000000 } with ctl := c }

theorem witness_LawTimers : Cycling (inCtl {}) ∧
    ((inCtl { manualSince := some 95000000000 }).ctl.manualSince = some 95000000000 ∧ (inCtl { manualSince := some 95000000000 }).ctl.ramp = none ∧
      ctlJoyTimeoutMs up.cfg.active * 1000000 ≤ 100000000000 - Nat.max ((inCtl { manualSince := some 95000000000 }).ctl.joyAt.getD 95000000000) 95000000000) ∧
    ((inCtl { mode := 4, trav := [tr0] }).ctl.trav ≠ [] ∧ ∀ p ∈ (inCtl { mode := 4, trav := [tr0] }).ctl.trav, travT p ≤ p.el) ∧
    ((inCtl { windLost := true, windAt := some 90000000000 }).ctl.windAt = some 90000000000 ∧ 100000000000 - 90000000000 ≤ 10000000000) ∧
    ((inCtl { windLost := true, windAt := some 80000000000 }).ctl.windAt = some 80000000000 ∧ 20000000000 ≤ 100000000000 - 80000000000) ∧
    ((inCtl { windLost := true, windAt := some 80000000001 }).ctl.windAt = some 80000000001 ∧ 10000000000 < 100000000000 - 80000000001 ∧
      100000000000 - 80000000001 < 20000000000) ∧
    (let s := { inCtl { osc := [{ active := true, lastDown := some 1 }] } with cyc := { (inCtl {}).cyc with tick := 400000000000 } };
      s.strict = false ∧ s.ctl.osc[0]? = some { active := true, lastDown := some 1 } ∧
        cfgU32 s.cfg.active 0x0905 20 * 1000000000 < (s.cyc.tick - 1) * 65536) := ⟨⟨rfl, rfl⟩, by decide⟩

/-- Inputs of the law: a released set, no dead reckoning. -/
def lawIn0 : LawIn := ⟨0, 10, 0, 0, 0, 0, 0, 0, true, false, false, {}, true, none, none⟩

theorem witness_ControlBounds : axisKind ({ mode := 3 } : Ctl).mode 2 = .auto ∧ axisKind ({ mode := 2 } : Ctl).mode 2 = .auto ∧
    (ctlFrozen lawIn0 0 = false ∧ bits ({ mode := 3 } : Ctl).newAuto 0 1 = 0) ∧ ({} : Ctl).mode = 0 ∧ ∀ p ∈ ({ trav := [tr0] } : Ctl).trav, travT p ≤ p.el := by decide

/-- The problem of a cycle without thrusters. -/
def prob0 : AlcProb := ⟨[], 0, [], {}, 10, 1666, 5555⟩

def cLaw (mode : Nat) : State := { inCyc { ph := { began := true, fu := true, law := true } } with ctl := { mode := mode } }

def cAlloc (mode : Nat) (p : Option AlcProb) : State :=
  { inCyc { ph := { began := true, fu := true, law := true, alloc := true } } with ctl := { mode := mode }, alc := { prob := p } }

theorem witness_AllocationLane :
    (Cycling (cLaw 0) ∧ (cLaw 0).cyc.ph.law = true ∧ (cLaw 0).cyc.ph.alloc = false ∧ (cLaw 0).cyc.ph.deadline = false ∧ (cLaw 0).phaseAt 30 ≤ 3000000) ∧
    ((cLaw 3).ctl.mode ≠ 0 ∧ (cLaw 3).solves = true) ∧
    (Cycling (cAlloc 0 none) ∧ (cAlloc 0 none).cyc.ph.alloc = true ∧ (cAlloc 0 none).cyc.ph.solved = false ∧ (cAlloc 0 none).cyc.ph.deadline = false ∧
      (cAlloc 0 none).pers = .native ∧ (cAlloc 0 none).grouped = false ∧ (cAlloc 0 none).alc.prob = none) ∧
    ((cAlloc 0 none).sl0Ends 8000000 none = true ∧ (cAlloc 0 none).sl0Ends 8000000 (some 5) = true) ∧
    ((cAlloc 3 (some prob0)).alc.prob = some prob0 ∧ 1665 < prob0.budget ∧ (cAlloc 3 (some prob0)).sl0Ends 7000000 (some 1665) = true) ∧
    ((cAlloc 0 none).outDeadline = 8000000 ∧ lgcReady (cAlloc 0 none).lgc (cAlloc 0 none).logicDeadline = true) := ⟨⟨⟨rfl, rfl⟩, by decide⟩, by decide, ⟨⟨rfl, rfl⟩, by decide⟩, by decide, by decide, by decide⟩

/-- Group 0 enabled, its persistence its reset value of 10 s. -/
def cGroup : State :=
  { upWith [(0x0A10, 0, [1, 0, 0, 0, 0xFF, 1, 100, 0])] with
    cyc := { ph := { began := true, fu := true, law := true, alloc := true }, halt := false }
    alc := { prob := some prob0, groups := { done := false } :: List.replicate 15 {} } }

theorem witness_Consequences :
    (Cycling cGroup ∧ cGroup.cyc.ph.alloc = true ∧ cGroup.cyc.ph.deadline = false ∧ cGroup.alc.prob = some prob0 ∧ cGroup.laneOpen 1 = [0] ∧ 0 < cGroup.alc.groups.length) ∧
    (let y : Group := { state := 3, pers := 10001 };
      y.done = true ∧ 2 ≤ y.state ∧ y.alarm = false ∧ grpPersistMs cGroup.cfg.active 0 < y.pers) ∧
    (let y : Group := { state := 2, alarm := true, margin := 16384, clear := 3000 };
      y.done = true ∧ 2 ≤ y.state ∧ y.alarm = true ∧ 16384 ≤ y.margin ∧ cqClearMs cGroup.cfg.active ≤ y.clear) ∧
    ({ up with red := { up.red with role := .standby } } : State).follows = true ∧
    (let y : Section := { inService := false, clear := secReturnTime up.cfg.active };
      let s : State := { up with cyc := { tick := 5000000 }, alc := { secs := [y] } };
      s.follows = false ∧ s.cyc.tick = 5000000 ∧ s.alc.secs[0]? = some y ∧ y.inService = false ∧ y.lostDi = false ∧ y.lostChain = false ∧
        secReturnTime s.cfg.active + 1 ≤ y.clear + s.msAhead 5000000) := ⟨⟨⟨rfl, rfl⟩, by decide⟩, by decide, by decide, by decide, by decide⟩

def cSolved (o : Option OutSet) (rel : Bool) : State :=
  inCyc { ph := { began := true, fu := true, law := true, alloc := true, solved := true }, pendingSet := o, released := rel }

theorem witness_OutputDeadline : Cycling (cSolved none false) ∧ ((cSolved none false).pers = .native ∧ (cSolved none false).grouped = false ∧
      (cSolved none false).cyc.ph.began = true ∧ (cSolved none false).cyc.ph.deadline = false ∧ (cSolved none false).outDeadline ≤ 8000000 ∧
      (cSolved none false).cyc.pendingSet = none ∧ (cSolved none false).cyc.released = false) ∧
    (cSolved (some {}) false).cyc.pendingSet = some {} ∧ (cSolved none true).cyc.released = true := ⟨⟨rfl, rfl⟩, by decide⟩

/-- A host action and its open request. -/
def bnd0 : Bnd := ⟨7, 0, 0x42, [], w0, 0, 1, 0, false, false, 0, [], none, none⟩

def opn0 : Opn := ⟨7, 0, w0, 1, 0, 0x42, [(rq []).from_], false, 0, false⟩

def cOut : State :=
  { inCyc { ph := { began := true, fu := true, law := true, alloc := true, solved := true, deadline := true }, answers := [⟨bnd0, 0, []⟩] } with
    chan := { up.chan with opens := [opn0], nextId := 8 } }

/-- The Active of a group whose sealed epoch waits for its mirror. -/
def cMirror : State :=
  { cOut with
    cyc := { cOut.cyc with ph := { cOut.cyc.ph with sealed := true }, toSend := [⟨7, []⟩] }
    red := { cOut.red with size := 2, role := .active } }

theorem witness_Seals :
    (Cycling cOut ∧ cOut.cyc.ph.deadline = true ∧ cOut.cyc.ph.sealed = false ∧ cOut.cyc.unsealed = false ∧ cOut.phaseAt 85 ≤ 8500000 ∧ 8500000 ≤ cOut.phaseAt 85 + 500000 ∧ cOut.red.size = 0 ∧
      cOut.clk.enterDue = false ∧ cOut.cyc.answers = [⟨bnd0, 0, []⟩] ∧ cOut.cyc.toSend = [] ∧ bnd0.pk = none ∧ cOut.opn? bnd0.id = some opn0 ∧ opn0.op ≠ 0x08 ∧
      cOut.chan.ready = true) ∧
    (cOut.cyc.ph.began = true ∧ cOut.cyc.ph.sealed = false ∧ cOut.phaseAt 85 + 500000 ≤ 9000000) ∧
    (Cycling cMirror ∧ cMirror.red.size ≠ 0 ∧ cMirror.red.role = .active ∧ cMirror.cyc.ph.sealed = true ∧ cMirror.cyc.ph.mirrored = false ∧ cMirror.cyc.toSend = [⟨7, []⟩] ∧
      cMirror.opn? 7 = some opn0 ∧ opn0.op ≠ 0x08 ∧ cMirror.chan.ready = true) := ⟨⟨⟨rfl, rfl⟩, by decide⟩, by decide, ⟨⟨rfl, rfl⟩, by decide⟩⟩

/-! The servo loops. -/

/-- Loop 0 closed, its limits at 1. -/
def servoUp (y : Loop) : State := { upWith [(0x0B00, 0, [2, 0, 0, 1, 0, 0, 0, 1, 0, 0, 1, 0])] with srv := { loops := [y] } }

theorem witness_ServoTick :
    (up.clk.phase = .running ∧ up.msDue 1000000 = true ∧ up.srvRuns = true ∧ up.cyc.relAt ≠ 1000000 ∧ srvMode up.cfg.active 0 = 0) ∧
    ((inCyc { relAt := 1000000 }).cyc.relAt = 1000000 ∧ (inCyc { relAt := 1000000 }).msDue 1000000 = true) ∧
    (let y : Loop := { state := 2, cRange := 1 };
      (servoUp y).srvRuns = true ∧ (servoUp y).srv.loops[0]? = some y ∧ srvMode (servoUp y).cfg.active 0 ≠ 0 ∧ y.state ≠ 3 ∧ y.hold = false ∧
        srvFailed (servoUp y).cfg.active 0 y ≠ 0) ∧
    (let s : State := { up with srv := { since := 1, tick := 1000000 } };
      s.srvRuns = true ∧ s.srv.since ≠ 0 ∧ s.srv.tick + 500000 ≤ 1500000) := by decide

theorem witness_ServoCommands :
    let cfg := (servoUp {}).cfg.active
    let x : Loop := { state := 2, cmd := 32767 }
    let y : Loop := { x with state := 3 }
    (srvTick cfg 5 0 true 0 0 ⟨none, false⟩ x).1.state ≠ 2 ∧ (-32768 ≤ x.cmd ∧ x.cmd ≤ 32767) ∧
    (srvMode cfg 0 ≠ 0 ∧ (⟨none, false⟩ : FbIn).fb = none ∧ x.stopAt ≠ some 5 ∧ x.state = 2) ∧ (y.state = 3 ∧ y.back ≠ some 5) := by decide +kernel

end Sys2Proof.Tests
end

