-- ==== Sys2Proof/Tests/WitnessGroup.lean ====
section
/-! SUPPORT. Witnesses for the statements about the redundancy group, in the order of their clauses. -/

namespace Sys2Proof.Tests

set_option Elab.async false

open Sys2Proof.Machine

/-- Member 1 of a group in a state of its manager and cycle engine. -/
def grp (r : Red) (c : Cyc) : State := { up with
    red := { r with modNum := 1, size := 2 }
    cyc := { c with halt := false }
    clk := { up.clk with domains := List.replicate 6 { src := 2, khz := 1000000 } } }

/-- An Active peer that is heard. -/
def mate (x : Role) : Peer := { role := x, present := true, ready := true, lastBeat := 1 }

/-- A Standby of two with an Active module 2; the same as Active with a Standby. -/
def stby : Red := { role := .standby, peers := [{}, mate .active, {}] }

def actv : Red := { role := .active, token := true, driver := true, peers := [{}, mate .standby, {}] }

/-- A sealed epoch. -/
def ep0 : Sealed := up.sealOf 0 []

def recM (h : Nat) : RlRecord := ⟨2, 9, 10000000, 10000000, h, .native, 10, {}, {}, [], 0, true, false⟩

def cmp0 (n : Nat) (x : Int) : RlCompare := ⟨2, n, ⟨x, 0, 0⟩, List.replicate 24 0, List.replicate 24 0, {}, true, false, [0, 0, 0, 0], true⟩

def verd0 : RlVerdict := ⟨2, 5, 4, [], true⟩

def seal0 (n : Nat) : RlSeal := ⟨2, n, 0, 0, {}, {}, true, [], true, false, true⟩

def rep0 : RlRepair := ⟨2, 0, [], some ep0, none, none, true, true⟩

def ctl0 (w : RlControl) : RlCtl := ⟨2, w, true⟩

def beat0 (from_ group : Nat) : RlBeat := ⟨from_, group, .active, true, false, false, 0, 0, true, 0, 0, .native, .strict, (3, 0, 0), true⟩

theorem witness_RedundancyLink_crc :
    ({ recM 5 with crcOk := false } : RlRecord).crcOk = false ∧ ({ cmp0 0 0 with crcOk := false } : RlCompare).crcOk = false ∧
    ({ verd0 with crcOk := false } : RlVerdict).crcOk = false ∧ ({ seal0 0 with crcOk := false } : RlSeal).crcOk = false ∧
    ({ rep0 with crcOk := false } : RlRepair).crcOk = false ∧ ({ ctl0 .join with crcOk := false } : RlCtl).crcOk = false ∧
    ((grp stby {}).red.size ≠ 0 ∧ (grp stby {}).red.modNum ≠ 0 ∧ ({ beat0 2 0 with crcOk := false } : RlBeat).crcOk = false) := by decide

theorem witness_RedundancyLink_record :
    let s := grp stby { tick := 10000000 }
    s.follows = true ∧ (recM 5).from_ = s.activeMate ∧ s.inCycle = true ∧ s.cyc.ph.began = false ∧ 11000000 ≤ s.cyc.tick + (recM 5).pms * 100000 ∧ s.pers = .native ∧
      (recM 5).cfgHash = s.cfg.hash ∧ (recM 5).acts = [] ∧ (recM 6).cfgHash ≠ s.cfg.hash ∧ s.cyc.tick + s.cyc.pms * 100000 ≤ 11000000 ∧ s.cyc.unsealed = false := by decide

theorem witness_RedundancyLink_compare : (cmp0 5 0).crcOk = true ∧ (grp stby {}).red.own.find? (fun c => c.epoch == 5) = none ∧
    (let s := grp { stby with own := [cmp0 5 0], agreeRun := 99, counted := 4 } {}
     s.red.own.find? (fun c => c.epoch == (cmp0 5 0).epoch) = some (cmp0 5 0) ∧ s.mates = [(cmp0 5 0).from_] ∧ s.red.peers.length = 3 ∧ (s.peer 2).judged < 5 ∧
       s.red.counted < 5 ∧ s.red.repEpoch ≠ 5 ∧ firstDiff s.cfg.active false (cmp0 5 0) (cmp0 5 0) = none ∧ 100 ≤ s.red.agreeRun + 1 ∧
       firstDiff s.cfg.active false (cmp0 5 0) (cmp0 5 (2 ^ 31)) = some 0 ∧ (s.peer 2).run < 2) := by decide +kernel

theorem witness_RedundancyLink_verdict :
    let s := grp { stby with peers := [{}, mate .active, mate .backup] } {}
    verd0.crcOk = true ∧ s.mates.filter (fun j => j != verd0.from_) = [3] ∧ s.red.othersAt < verd0.epoch ∧ bits verd0.agree (3 - 1) 1 = 1 ∧
      bits ({ verd0 with agree := 0 } : RlVerdict).agree (3 - 1) 1 ≠ 1 := by decide

theorem witness_RedundancyLink_seal :
    ((seal0 0).crcOk = true ∧ (grp actv {}).follows = false) ∧
    (let s := grp stby { last := some ep0 }
     s.follows = true ∧ (seal0 0).gap = false ∧ s.cyc.last = some ep0 ∧ ep0.number = (seal0 0).epoch ∧ (seal0 0).differ = [] ∧ (seal0 0).sealOk = true ∧ s.red.base = none ∧
       ep0.number ≠ (seal0 1).epoch) ∧
    (let s := grp { stby with base := some ep0, held := 7 } { last := some ep0 }
     s.red.base.isSome = true ∧ (seal0 0).epoch ≠ s.red.held + 1) ∧
    (rep0.crcOk = true ∧ rep0.cfg = none ∧ rep0.buf = none ∧ ({ rep0 with ok := false } : RlRepair).ok = false ∧ rep0.sealed = some ep0 ∧
      ({ rep0 with cfg := some ([], 7) } : RlRepair).cfg = some ([], 7) ∧ ({ rep0 with buf := some ([], none) } : RlRepair).buf = some ([], none)) :=
  ⟨by decide, ⟨by decide, rfl, rfl, rfl, rfl, rfl, rfl, by decide⟩, ⟨rfl, by decide⟩, ⟨rfl, rfl, rfl, rfl, rfl, rfl, rfl⟩⟩

theorem witness_RedundancyLink :
    ((ctl0 .join).crcOk = true ∧ (ctl0 .join).what = .join ∧ (ctl0 .join).from_ ≤ 3) ∧
    ((ctl0 (.handover 2 1 5)).what = .handover 2 1 5 ∧ (grp actv {}).red.role = .active ∧ (grp actv {}).red.handover = none) ∧
    (ctl0 (.handoverEnd 2 0 0)).what = .handoverEnd 2 0 0 ∧
    (let s := grp stby {}
     (beat0 2 9).group ≠ cfgU16 s.cfg.active 0x0D00 2 ∧ (beat0 1 0).group = cfgU16 s.cfg.active 0x0D00 2 ∧ (beat0 1 0).from_ = s.red.modNum ∧ s.red.conflict = false ∧
       (beat0 2 0).from_ ≠ s.red.modNum ∧ s.red.peers.length = 3) ∧
    (let p : Peer := { mate .active with present := false }
     p.present = false ∧ p.lastBeat ≠ 0) ∧
    ((beat0 2 0).token = true ∧ (grp stby {}).stored ≠ (({ beat0 2 0 with pers := .pk20 } : RlBeat).pers, (beat0 2 0).profile)) ∧
    (let s := grp stby {}
     s.red.handover = none ∧ 2 ≠ s.red.modNum ∧ s.red.peers[2 - 1]? = some (mate .active) ∧ (mate .active).present = true ∧
       (mate .active).lastBeat + cfgU8 s.cfg.active 0x0D00 1 * 1000000 ≤ 1000000000) := by decide +kernel

/-- A handover from module 1 to a target, with command on its way back or not. -/
def hand0 (target : Nat) (armed back : Bool) : Handover := ⟨target, true, 0, 3 - target, none, back, none, armed⟩

theorem witness_RedundancyRoles_token :
    (({ actv with lastToggle := 5 } : Red).driver = true ∧ ({ actv with lastToggle := 5 } : Red).lastToggle + 20000000 ≤ 20000005) ∧ up.red.size = 0 ∧ (grp actv {}).red.size ≠ 0 ∧
    4 < (5 : Nat) + 20000000 ∧ (({ actv with demandSince := some 0 } : Red).demandSince = some 0 ∧ 0 + 5000000 ≤ 5000000) ∧
    (({ actv with releaseAt := some 5 } : Red).releaseAt = some 5 ∧ actv.token = true ∧ actv.handover = none) ∧
    (let r := (grp { actv with releaseAt := some 5, handover := some (hand0 2 true false) } {}).red
     r.handover = some (hand0 2 true false) ∧ (hand0 2 true false).origin = r.modNum ∧ (hand0 2 true false).armed = true ∧ r.cause = 0) ∧
    (let s := grp { stby with fit := true } {}
     s.mayTake 5000000 = true ∧ s.red.elect = false ∧ s.red.handover = none ∧ s.red.role = .standby) ∧ (grp { stby with role := .backup, fit := true } {}).mayTake 5000000 = true ∧
    (grp stby {}).mayTake 5000000 = false ∧ (({ stby with onAt := some 5 } : Red).onAt = some 5 ∧ stby.token = false ∧ stby.handover = none) := by decide +kernel

theorem witness_RedundancyRoles_takeover :
    (let s := grp { stby with token := true, confirmed := some 5 } {}
     s.red.token = true ∧ s.red.size ≠ 0 ∧ s.red.role ≠ .active ∧ s.red.confirmed = some 5 ∧ s.red.handover = none ∧ s.red.elect = false ∧ s.red.base = none) ∧
    (({ stby with elect := true } : Red).elect = true ∧ (grp stby {}).clk.start ≠ .warm) ∧
    (let s := grp { actv with check := some 5 } {}
     s.red.check = some 5 ∧ s.stageFault true = 0 ∧ s.red.handover = none ∧ s.stageFault false ≠ 0) ∧
    (let s := grp { actv with check := some 5, handover := some (hand0 1 true true) } {}
     s.red.handover = some (hand0 1 true true) ∧ (hand0 1 true true).target = s.red.modNum ∧ (hand0 1 true true).result = none ∧ (hand0 1 true true).back = true) := by
  decide +kernel

theorem witness_RedundancyRoles_epoch : (grp { stby with token := true, confirmed := some 5, base := some ep0 } {}).red.base = some ep0 := rfl

theorem witness_RedundancyRoles :
    (let s := grp { formUntil := some 5 } {}
     s.red.formUntil = some 5 ∧ s.mayJoin = true ∧ s.activeMate = 0 ∧ s.red.loop < 60 ∧ flagsFit (s.flagsNow 5) = true ∧ s.rivals = []) ∧
    (let s := grp { formUntil := some 5, peers := [{}, { present := true, saved := 9 }, {}] } {}
     (9, 0, 2) ∈ s.rivals ∧ s.mayJoin = true ∧ s.activeMate = 0 ∧ ranksBefore s.rank (9, 0, 2) = false) ∧
    (let s := grp { stby with arb := some 5 } {}
     s.red.arb = some 5 ∧ s.mates = [2] ∧ s.flagsNow 5 &&& s.red.flags0 = s.flagsNow 5 ∧ (s.peer 2).flags &&& (s.peer 2).flags0 = (s.peer 2).flags ∧ s.red.theirArb = none ∧
       s.red.unres = false) ∧ ({ stby with theirArb := some (false, false) } : Red).theirArb = some (false, false) ∧ stby.arb = none ∧
    ((grp stby {}).red.testDue = false ∧ (grp stby {}).red.lastTest = none) ∧
    (let s := grp { stby with lastTest := some 0 } {}
     s.red.lastTest = some 0 ∧ s.vessel 5000 < 0 + cfgU16 s.cfg.active 0x0D00 6 * 86400000000000 ∧ 0 ≤ s.vessel 5000 ∧
       cfgU16 s.cfg.active 0x0D00 6 * 86400000000000 + 0 ≤ s.vessel (86400000000000 * 65536)) := by decide +kernel

theorem witness_RedundancyRequests : Admitted up 0xA0 (rq []) w0 h0 false ∧ Admitted up 0xA2 (rq (bs [3, 0, 0, 0])) w0 h0 false ∧
    Admitted up 0xA2 (rq (bs [4, 0, 0, 0])) w0 h0 false ∧ (Admitted up 0xA1 (rq (zeros 4)) w0 h0 false ∧ up.red.size = 0) ∧
    (let s := grp { actv with fit := true } {}
     Admitted s 0xA1 (rq (zeros 4)) w0 h0 false ∧ s.red.size ≠ 0 ∧ s.red.role = .active ∧ s.targetOk 1000000 (s.handoverTarget 0) = true ∧ s.redBusy = false ∧
       s.red.unres = false ∧ ∀ m ∈ s.mates, (s.peer m).run = 0) :=
  ⟨admitted (by decide), admitted (by decide), admitted (by decide), meets (by decide), meets (by decide +kernel)⟩

end Sys2Proof.Tests
end

