-- ==== Sys2Proof/Tests/WitnessLinks.lean ====
section
/-! SUPPORT. Witnesses for the statements about the GNSS baseband and the sensor links, in the order of their clauses. -/

namespace Sys2Proof.Tests

set_option Elab.async false

open Sys2Proof.Machine

/-! The GNSS baseband. -/

/-- The baseband in another state at a configuration. -/
def gnsUp (xs : List (Nat × Nat × List Nat)) (g : Gns) : State := { upWith xs with gns := g }

/-- Channel 0 of antenna 1 in a state. -/
def chan0 (c : GnsChan) : State := gnsUp [] { chans := [c :: List.replicate 23 {}, List.replicate 24 {}] }

/-- Antenna 2 searches PRN 5; nothing is found where no cell is listed. -/
def seeking : State := gnsUp [] { inputs := [{}, { search := [(5, 100)] }] }

/-- Magnitudes of one cell that stands out. -/
def cell0 : AcqCell := ⟨24, 7, [1000]⟩

theorem witness_GnssChannels : up.blockDown 11 = false ∧
    (seeking.gns.asleep = false ∧ gnsNext seeking.gns 1 = some (5, 100) ∧ (gnsChans seeking.gns 1).findIdx? (fun c => c.state == 0) = some 0 ∧
      acqDetects seeking.cfg.active [cell0] = some cell0) ∧
    (seeking.gns.inputs[1]? = some ({ search := [(5, 100)] } : GnsInput) ∧ acqDetects seeking.cfg.active [] = none) ∧
    (let c : GnsChan := { prn := 3, state := 1 }
     (gnsChans (chan0 c).gns 0)[0]? = some c ∧ c.state = 1 ∧ 100000000 ≤ 100000000 - c.since ∧ c.since + 2000000000 ≤ 2000000000 ∧
       (chan0 c).gns.inputs[0]? = some ({} : GnsInput)) ∧
    (let c : GnsChan := { prn := 3, state := 2 }
     let n : NavData := ⟨true, 2, some 1000, false⟩
     (gnsChans (chan0 c).gns 0)[0]? = some c ∧ c.state = 2 ∧ n.sync = true ∧ 2 ≤ n.subframes ∧ n.eph = some 1000 ∧ (chan0 c).tim.gnssNow 5 = none ∧
       (⟨true, 1, none, true⟩ : NavData).subframes < 2) ∧
    ((0 : Nat) < gnsCn0Min up.cfg.active * 256 ∧ 16384 < ((20000 : Int) - 0).natAbs) ∧
    (let c : GnsChan := { prn := 3, state := 3 }
     let s := chan0 c
     gnsFell s.gns 0 [(0, 12000, 9000)] = true ∧ (31, 0) ∉ s.evt.conds ∧ gnsFell s.gns 0 [(0, 12000, 11000)] = false ∧
       (31, 0) ∈ ({ s with evt := { s.evt with conds := [(31, 0)] } } : State).evt.conds) ∧
    (let s := gnsUp [] { inputs := [{ supply := 2 }, {}] }
     s.gns.inputs = [{ supply := 2 }, {}] ∧ gnsSupplyOn s.cfg.active 0 = true) ∧
    (({ atLimit := some 0 } : GnsInput).tripped = false ∧ ({ atLimit := some 0 } : GnsInput).atLimit = some 0 ∧ 10000000 ≤ 10000000 - 0) ∧
    (({ tripped := true } : GnsInput).tripped = true ∧ 10000000000 ≤ 10000000000 - ({ tripped := true } : GnsInput).tripAt) := by decide +kernel

/-- A whole RTCM frame of a message. -/
def rtcm (m : List Byte) : List Byte :=
  let b := bs [0xD3, 0, m.length] ++ m
  b ++ beBytes 3 (crc24q b)

/-- Message 1005 of station 7, and 1002 of station 7 with satellite 5. -/
def m1005 : List Byte := beBytes 8 (1005 * 2 ^ 52 + 7 * 2 ^ 40)

def m1002 : List Byte := beBytes 18 (1002 * 2 ^ 132 + 7 * 2 ^ 120 + 2 ^ 84 + 5 * 2 ^ 74)

/-- A solution with a sum of residuals. -/
def sol0 (sum : Nat) : LsSol := ⟨0, 0, 0, 0, 0, 0, 0, 0, 0, sum⟩

/-- Corrections taken from port 1. -/
def corrCfg : List (Nat × Nat × List Nat) := [(0x0700, 3, [1]), (0x0400, 0, [2])]

/-- A baseline measurement without candidates. -/
def base0 : BaseMeas := ⟨[], [], [], 0, 0, 0, [], 0, 0⟩

theorem witness_GnssSolutions : up.blockDown 11 = false ∧ (gnsDue 100000000 none up.gns = true ∧ gnsDue 0 none up.gns = false) ∧
    ((sol0 0).sum ≤ gnsChi 5 ∧ gnsChi 6 < (sol0 30000).sum ∧ (⟨sol0 30000, [(3, sol0 0)]⟩ : LsTry).removals = [(3, sol0 0)]) ∧ gnsCommon up.cfg.active {} < 5 ∧
    (({ base := 2 } : Gns).base = 2 ∧ (gnsFixed up.cfg.active base0 { base := 2 }).1 < 4) ∧
    ((gnsUp [] { hand := [(5, 0x50, [])] }).gns.hand = [(5, 0x50, [])] ∧ (gnsUp [] { hand := [(5, 0x50, [])] }).blockDown 12 = false ∧ (5 : Nat) < 6 ∧
      0x50 ∈ [0x50]) ∧
    rtcmPort up.cfg.active ≠ gnsCorrSrc up.cfg.active ∧
    (let s := gnsUp corrCfg { station := 6 }
     rtcmPort s.cfg.active = gnsCorrSrc s.cfg.active ∧ s.blockDown 11 = false ∧ rtcmMessage [] = none ∧ rtcmMessage (rtcm m1005) = some m1005 ∧
       rtcmBits m1005 0 12 = 1005 ∧ rtcmBits m1005 12 12 ≠ s.gns.station) ∧
    (let s := gnsUp corrCfg { station := 7, data := { eph := [(5, 9)] } }
     rtcmMessage (rtcm m1002) = some m1002 ∧ rtcmBits m1002 0 12 = 1002 ∧ rtcmBits m1002 12 12 = s.gns.station ∧
       ∃ q ∈ rtcm1002Sats m1002, gnsEphValid s.gns.data (s.tim.gnssNow 5) q.1 = true) ∧
    (up.gns.store = none ∧ (({ store := some ⟨{}, 0, true⟩ } : Gns).store = some ⟨{}, 0, true⟩ ∧ (0 : Nat) + 60000000000 ≤ 60000000000 ∧ (5 : Nat) < 0 + 60000000000) ∧
      ({ hadCorr := true } : Gns).hadCorr = true) := by decide +kernel

/-- A search that Baseline passes is possible: FLOAT, nine passing epochs before. -/
theorem witness_GnssSolutions_fixed :
    let chans := (List.range 5).map (fun k => ({ prn := k + 1, state := 3, elev := 45 } : GnsChan))
    let q : Gns := { base := 1, pass := 9, ints := (List.range 5).map (fun k => (k + 1, 0)), chans := [chans, chans], inputs := [{ supply := 2 }, { supply := 2 }] }
    let cfg := cfgOf [(0x0701, 0, [0, 0, 10, 0])]
    let b : BaseMeas := { base0 with prns := [2, 3, 4, 5], cands := [⟨[0, 0, 0], 10 * 65536, [0], 1⟩, ⟨[1, 0, 0], 10 * 65536, [0], 100⟩] }
    q.base = 1 ∧ (gnsBaseline cfg b q).1.base = 2 := by decide +kernel

theorem witness_GnssRequests :
    (Admitted up 0xB1 (rq (bs [2, 0, 0, 0])) w0 h0 false ∧ getU8 (rq (bs [2, 0, 0, 0])).payload 0 = 2) ∧ Admitted up 0xB1 (rq (bs [0, 0, 0, 0])) w0 h0 false ∧
    Admitted up 0xB1 (rq (bs [3, 0, 0, 0])) w0 h0 false ∧
    (Admitted (gnsUp corrCfg {}) 0xB2 (rq (bs [1, 0, 0, 0, 0])) w0 h0 false ∧ gnsCorrSrc (gnsUp corrCfg {}).cfg.active ≠ 0) ∧
    (let bad := (rtcm m1005).dropLast ++ [0]
     Admitted up 0xB2 (rq (u16 bad.length ++ zeros 2 ++ bad)) w0 h0 false ∧ gnsCorrSrc up.cfg.active = 0 ∧ up.blockDown 11 = false ∧ rtcmSplit (4 + bad.length) bad = ([bad], 0) ∧
       rtcmMessage bad = none) ∧
    (let f := rtcm m1005
     Admitted (gnsUp [] { station := 7 }) 0xB2 (rq (u16 f.length ++ zeros 2 ++ f)) w0 h0 false ∧ rtcmSplit (4 + f.length) f = ([f], 0) ∧
       rtcmMessage f = some m1005 ∧ rtcmBits m1005 12 12 = (gnsUp [] { station := 7 }).gns.station) ∧
    (Admitted up 0xB2 (rq (bs [1, 0, 0, 0, 0])) w0 h0 false ∧ (rtcmSplit 5 (bs [0])).1 = []) ∧ Admitted up 0xB3 (rq (bs [0, 0, 0, 0])) w0 h0 false :=
  ⟨meets (by decide), admitted (by decide), admitted (by decide), meets (by decide), meets (by decide +kernel), meets (by decide +kernel), meets (by decide),
    admitted (by decide)⟩

/-! Serial ports. -/

/-- Port 8 in a state, in MODE 1 with ALERT_OUT. -/
def portUp (q : SerPort) : State :=
  { upWith [(0x0400, 112, [1, 0]), (0x0400, 118, [1, 0])] with ser := { ports := List.replicate 7 {} ++ [q] } }

/-- A heading sentence whose sum is right, as it stands in a port's buffer. -/
def hdtBody : List Byte := ascii ['H', 'E', 'H', 'D', 'T', ',', '9', '0', '.', '0', ',', 'T']

def hdt : List Byte := [36#8] ++ hdtBody ++ [42#8] ++ hex2 (xorAll hdtBody) ++ [13#8, 10#8]

/-- An acknowledgement sentence on a port with ALERT_OUT. -/
def acnBody : List Byte := ascii ['D', 'P', 'A', 'C', 'N', ',', '1', '2', '0', '0', '0', '0', '.', '0', '0', ',', 'W', 'S', 'V', ',', '1', '0', '0', '6', '0', ',', '1', ',', 'A', ',', 'C']

def acn : List Byte := [36#8] ++ acnBody ++ [42#8] ++ hex2 (xorAll acnBody) ++ [13#8, 10#8]

/-- What the sentence in the buffer of port 8 gives. -/
def sentOf (q : SerPort) : SentOut :=
  let s := portUp q
  sentence s.cfg.active 8 0 (serUere s.cfg.active 8) (serAlertOut s.cfg.active 8) (s.vesselKnown 0) ((q.buf.drop 1).take (q.buf.length - 3))
    { q with buf := [], inSentence := false, framing := false }

/-- A sentence in progress. -/
def part (n : Nat) : SerPort := { buf := List.replicate n 65#8, inSentence := true }

theorem witness_SerialLinks :
    ((portUp {}).ser.ports[7]? = some ({} : SerPort) ∧ (portUp {}).blockDown 8 = false ∧ serMode (portUp {}).cfg.active 8 = 1) ∧
    (¬ (({} : SerPort).inSentence = true) ∧ (65#8 : Byte) ≠ 36#8) ∧
    ((part 81).inSentence = true ∧ (part 81).dropping = false ∧ (part 81).buf.getLast? ≠ some 10#8 ∧ (part 81).buf.length < 82) ∧
    ((part 82).inSentence = true ∧ (part 82).dropping = false ∧ (part 82).buf.getLast? ≠ some 10#8 ∧ 82 ≤ (part 82).buf.length) ∧
    (({ buf := hdt, framing := true } : SerPort).buf.getLast? = some 10#8 ∧ ({ buf := hdt, framing := true } : SerPort).framing = true) ∧
    (let q : SerPort := { buf := hdt.set 3 66#8 }
     q.buf.getLast? = some 10#8 ∧ q.framing = false ∧ q.buf.getD (q.buf.length - 2) 0 = 13#8 ∧ (sentOf q).check ≠ 0) ∧
    (let q : SerPort := { buf := hdt, silent := true }
     (sentOf q).check = 0 ∧ (portUp q).blockDown 12 = false ∧ q.silent = true) ∧
    (let q : SerPort := { buf := acn }
     (sentOf q).check = 0 ∧ ((sentOf q).acn).isSome = true ∧ (portUp q).active = true) ∧
    (let s : State := upWith [(0x0400, 112, [1, 0]), (0x0800, 1, [8]), (0x0800, 9, [1])]
     serMode s.cfg.active 8 = 1 ∧ linkStreams s.cfg.active 8 ≠ [] ∧ s.ser.ports[7]? = some ({} : SerPort) ∧ ({} : SerPort).lastPass + serSilentMs s.cfg.active 8 * 1000000 ≤ 5000000000) ∧
    (({ txq := [hdt] } : SerPort).txq = hdt :: [] ∧ (portUp {}).active = true ∧ (portUp {}).chan.ready = true) := by decide +kernel

theorem witness_SerialLinks_alerts :
    (let a : Alert := ⟨60, .v, 1, 0, 0⟩
     let s : State := { portUp {} with ser := { (portUp {}).ser with alerts := [a] } }
     s.ser.alerts = [a] ∧ a.lastAlf + 60000000000 ≤ 60000000000 ∧ s.active = true ∧ s.asleep = false ∧ s.chan.ready = true ∧ serAlerts s.cfg.active 8 = true ∧
       (alfText s.cfg.active a).length ≤ txFree {}) ∧
    ((portUp {}).ser.alerts = [] ∧ (portUp {}).ser.lastAlc + 30000000000 ≤ 30000000000 ∧ ∀ u ∈ alcText (portUp {}).ser, u.length ≤ txFree {}) ∧
    s450In up.cfg.active = 0 ∧
    (let s : State := upWith [(0x0402, 0, [239, 192, 0, 1, 0, 0, 1]), (0x0402, 8, [239, 192, 0, 2])]
     s450In s.cfg.active ≠ 0 ∧ s450Out s.cfg.active ≠ 0 ∧ bits (s450Ports s.cfg.active) (b2n false) 1 = 1 ∧ ([] : List Byte).take 6 ≠ hdr450 ∧
       (let d := hdt.drop 1 |>.take (hdt.length - 3)
        (sentence s.cfg.active 0x50 0 (serUere s.cfg.active 0) false (s.vesselKnown 0) d s.ser.p450).check = 0 ∧ d.length ≤ 79 ∧ 10#8 ∉ d ∧ s.blockDown 12 = false)) := by
  decide +kernel

/-! CAN and the links' requests. -/

/-- CAN 0 on, object 0 a send object of identifier 5 (one-shot or not), object 1 a receive object of identifier 6, filter 0 to FIFO 0. -/
def canCfg (shot : Bool) (n2k : Bool) : List (Nat × Nat × List Nat) :=
  [(0x0300, 0, [1, if n2k then 2 else 0]), (0x0301, 0, [5, 0, 0, 0x40, if shot then 3 else 1]), (0x0301, 8, [6, 0, 0, 0, 1]),
   (0x0302, 0, [7, 0, 0, 0, 255, 255, 255, 255, 1]), (0x0302, 12, [8, 0, 0, 0, 255, 255, 255, 255, 2])]

def canUp (shot n2k : Bool) (k : Can) : State := { upWith (canCfg shot n2k) with can0 := k }

/-- A classical frame. -/
def frame (id : Nat) : CanFrame := ⟨id, false, false, false, false, []⟩

/-- Object 0 loaded and pending. -/
def loaded : Can := { state := .active, objs := { stored := some ⟨frame 5, 0⟩, pend := true } :: List.replicate 127 {} }

theorem witness_LinkRequests :
    (Admitted up 0xD0 (rq (bs [8, 0, 0, 0])) w0 h0 false ∧ getU8 (rq (bs [8, 0, 0, 0])).payload 0 = 8) ∧ Admitted up 0xD0 (rq (bs [0x11, 0, 0, 0])) w0 h0 false ∧
    Admitted up 0xD0 (rq (bs [0x50, 0, 0, 0])) w0 h0 false ∧ Admitted up 0xD0 (rq (bs [0, 0, 0, 0])) w0 h0 false ∧ Admitted up 0xD0 (rq (bs [9, 0, 0, 0])) w0 h0 false ∧
    (Admitted (canUp false false {}) 0xD1 (rq (bs [0, 0, 8, 0] ++ zeros 8)) w0 h0 false ∧
      canLoadCheck (canUp false false {}).cfg.active 0 0 8 ((canUp false false {}).can 0) = 0) ∧
    (Admitted (canUp false false {}) 0xD1 (rq (bs [2, 0, 0, 0])) w0 h0 false ∧ 1 < getU8 (rq (bs [2, 0, 0, 0])).payload 0) ∧
    (Admitted (canUp false false {}) 0xD1 (rq (bs [0, 1, 0, 0])) w0 h0 false ∧ objSend (canUp false false {}).cfg.active 0 1 = false) ∧
    (Admitted (canUp false false loaded) 0xD1 (rq (bs [0, 0, 0, 0])) w0 h0 false ∧
      canLoadCheck (canUp false false loaded).cfg.active 0 0 0 ((canUp false false loaded).can 0) = 2) ∧
    (Admitted (portUp {}) 0xD2 (rq (bs [8, 0, 1, 0, 65])) w0 h0 false ∧ serMode (portUp {}).cfg.active 8 = 1 ∧ (portUp {}).ser.ports[7]? = some ({} : SerPort) ∧
      getU16 (rq (bs [8, 0, 1, 0, 65])).payload 2 ≤ txFree {}) ∧
    (let q : SerPort := { txq := [zeros 2048] }
     Admitted (portUp q) 0xD2 (rq (bs [8, 0, 1, 0, 65])) w0 h0 false ∧ txFree q < 1) ∧
    (Admitted (portUp {}) 0xD2 (rq (bs [7, 0, 1, 0, 65])) w0 h0 false ∧ serMode (upWith [(0x0400, 96, [0])]).cfg.active 7 ≠ 1) ∧
    Admitted (portUp {}) 0xD2 (rq (bs [9, 0, 1, 0, 65])) w0 h0 false :=
  ⟨meets (by decide), admitted (by decide), admitted (by decide), admitted (by decide), admitted (by decide), meets (by decide), meets (by decide), meets (by decide),
    meets (by decide), meets (by decide), meets (by decide +kernel), meets (by decide), admitted (by decide)⟩

theorem witness_CanControllers :
    let cfg := (canUp false false {}).cfg.active
    let k : Can := { state := .active }
    canOnBus {} = false ∧ (canOnBus k = true ∧ k.rxErr = 0 ∧ k.txErr < 128 ∧ k.state = .active) ∧ ({ frame 6 with remote := true } : CanFrame).remote = true ∧
    (canN2k cfg 0 = false ∧ objPick cfg 0 (frame 6) = some 1 ∧ linkStreams cfg 0x10 = []) ∧
    (objPick cfg 0 (frame 7) = none ∧ filterPick cfg 0 (frame 7) = 1 ∧ k.fifo0.length < 64) ∧ (filterPick cfg 0 (frame 8) = 2 ∧ k.fifo1.length < 64) ∧
    64 ≤ ({ k with fifo0 := List.replicate 64 ⟨frame 7, 0⟩ } : Can).fifo0.length ∧
    (canMode cfg 0 = 1 ∧ canOffer cfg 0 loaded = some (0, frame 5) ∧ loaded.txErr < 128 ∧ loaded.rxErr < 128 ∧ loaded.state = .active ∧ (canUp false false loaded).active = true ∧ (canUp false false loaded).chan.ready = true ∧
      (canUp false false loaded).blockDown (blockOf (canReg 0 0)) = false ∧ bits (objFlags cfg 0 0) 1 1 = 0) ∧
    bits (objFlags (canUp true false {}).cfg.active 0 0) 1 1 = 1 ∧ (119 < ({ k with txErr := 120 } : Can).txErr ∧ 247 < ({ k with txErr := 248 } : Can).txErr) ∧
    (({ state := .busOff, recovering := true } : Can).state = .busOff ∧ ({ state := .busOff, recovering := true } : Can).recovering = true) ∧
    (let j : Can := { state := .active, integ := true }
     j.state ≠ .busOff ∧ j.integ = true) ∧
    (let j : Can := { state := .active, integ := true, claimed := true, addr := 5 }
     canN2k (canUp false true j).cfg.active 0 = true ∧ canMode (canUp false true j).cfg.active 0 = 1 ∧ j.cannotClaim = false ∧ j.claimed = true ∧ j.addr ≠ 254) := by
  decide +kernel

end Sys2Proof.Tests
end

