-- ==== Sys2Proof/Tests/WitnessModule.lean ====
section
/-! SUPPORT. Witnesses for the statements about the analogue core, the Logic Engine and the safety functions, in the order of their clauses. -/

namespace Sys2Proof.Tests

set_option Elab.async false

open Sys2Proof.Machine

/-! The analogue core. -/

/-- Input 1 in a range with calibration gain 1 and group 0 running; the filters started or not. -/
def aioUp (a : Aio) : State :=
  { upWith [(0x0600, 0, [2, 1]), (0x0601, 0, [1]), (0x0601, 32, [1]), (0x0605, 0, [0, 0, 0, 0x40])] with aio := { a with running := true } }

/-- Both points of input 1 recorded, a full scale apart. -/
def points1 : List CalPoint := [⟨0, 0, false, -4194304, -4194304⟩, ⟨0, 0, true, 4194304, 4194304⟩]

theorem witness_AnalogueIo :
    up.blockDown 10 = false ∧ aioActive up.cfg.active up.aio 0 = false ∧
    (let s := aioUp {}
     aioActive s.cfg.active s.aio 0 = true ∧ aioWindowAt s.cfg.active (aioGroupOf 0) (3125 * aioN s.cfg.active 0) = true ∧ s.aio.chans[0]? = some ({} : AioChan) ∧ s.aio.runs = [] ∧ linkStreams s.cfg.active 0x40 = [] ∧
       aioFull ≤ calApply (calOf s.cfg.active 0 0) 8388607 ∧ calApply (calOf s.cfg.active 0 0) (-8388607) ≤ -aioFull ∧
       (aiRange s.cfg.active 0 = 2 ∧ aiLoop s.cfg.active 0 = true ∧ loopFault (clampI (-aioFull) aioFull (calApply (calOf s.cfg.active 0 0) (-5872026))) = true)) ∧
    (({ new := { ovr := true, sig := true } } : AioChan).new.ovr = true ∧ ({ new := { ovr := true, sig := true } } : AioChan).new.sig = true ∧
      calApply (calOf (aioUp {}).cfg.active 0 0) 0 < aioFull ∧ -aioFull < calApply (calOf (aioUp {}).cfg.active 0 0) 0 ∧ loopFault 0 = false) ∧
    up.aio.din[31]? = some ({} : DiSt) ∧ up.aio.dout[23]? = some ({} : DoSt) ∧ (Admitted up 0xC0 (rq (zeros 24)) w0 h0 false ∧ getU8 (rq (zeros 24)).payload 1 ≠ 1) ∧
    (let r := rq (bs [0, 1] ++ zeros 22)
     Admitted (aioUp {}) 0xC0 r w0 h0 false ∧ getU8 r.payload 1 = 1 ∧ (aioUp {}).groupRuns (getU8 r.payload 0) = true) ∧
    (Admitted up 0xC1 (rq (bs [2, 16, 3, 0, 0, 0, 0, 0])) w0 h0 false ∧ calExists 2 16 = true) ∧ (calSolve { points := points1 } 0 0).isSome = true ∧
    (Admitted up 0xC1 (rq (bs [0, 1, 2, 0, 0, 0, 0, 0])) w0 h0 false ∧ (calSolve up.aio 0 0).isNone = true) ∧
    (Admitted (aioUp {}) 0xC1 (rq (bs [0, 1, 1, 0, 0, 0, 0, 0])) w0 h0 false ∧ aioActive (aioUp {}).cfg.active (aioUp {}).aio (1 - 1) = true) ∧
    (let s := { aioUp {} with red := { (aioUp {}).red with token := true } }
     Admitted s 0xC1 (rq (bs [2, 1, 0, 0, 0, 0, 0, 0])) w0 h0 false ∧ s.ctl.mode = 0 ∧ s.red.token = true) ∧
    (Admitted (aioUp {}) 0xC1 (rq (bs [1, 8, 0, 0, 0, 0, 0, 0])) w0 h0 false ∧ aioActive (aioUp {}).cfg.active (aioUp {}).aio (32 + (8 - 1)) = true) ∧
    (Admitted up 0xC1 (rq (bs [0, 1, 0, 0, 0, 0, 0, 0])) w0 h0 false ∧ aioActive up.cfg.active up.aio (1 - 1) = false) ∧
    (Admitted up 0xC1 (rq (bs [0, 33, 0, 0, 0, 0, 0, 0])) w0 h0 false ∧ calExists 0 33 = false) :=
  ⟨by decide, by decide, by decide +kernel, by decide +kernel, by decide, by decide, meets (by decide), meets (by decide +kernel), meets (by decide), by decide, meets (by decide),
    meets (by decide +kernel), meets (by decide +kernel), meets (by decide +kernel), meets (by decide), meets (by decide)⟩

/-! The Logic Engine. -/

/-- The header of an image of one CRC block with its four inputs unbound, up to its CRC. -/
def imgBody (len : Nat) : List Byte :=
  bs [0x57, 0x4C, 0x47, 0x43, 1, 0, 1, 0] ++ u32 len ++ u32 7 ++ u32 1 ++ u32 4 ++ u32 0 ++ u32 0 ++ u32 8 ++ u32 64 ++ u32 80 ++ u32 96 ++ u32 96 ++ u32 96 ++ zeros 8 ++
    (u16 29 ++ u16 4 ++ u32 1 ++ u32 0 ++ u32 0) ++ List.replicate 16 0xFF#8 ++ zeros 8

def logicImg : List Byte := imgBody 108 ++ u32 (crc32c (imgBody 108))

/-- The module with that image, stopped or running. -/
def lgcUp (run : Nat) (g : Lgc) : State :=
  let img := ((imgBody 108).zipIdx.map (fun x => (cfgKey 0x0C00 x.2, x.1))).filter (fun x => x.2 != 0)
  { up with
    cfg := { up.cfg with active := img ++ [(cfgKey 0x0C01 0, byteOf run)] }
    lgc := g }

/-- The same at a logic tick. -/
def lgcTick (g : Lgc) : State := { lgcUp 1 g with cyc := { (lgcUp 1 g).cyc with tick := 10000000, tickV := 10000000, img := { ({} : ProcImg) with lgcStart := some 0 } } }

/-- A logic cycle of some length. -/
def cur0 (tc : Nat) (done : Bool) : LgcCur := ⟨{}, 10100000, tc, 1000, done, false⟩

/-- The buffer of a loaded image. -/
def lgcBuf : Lgc := { buf := logicImg.zipIdx.map (fun x => (x.2, x.1)), bufSize := some 108, bufCrc := crc32c (imgBody 108) }

theorem witness_LogicEngine_cycle :
    (let s := lgcTick {}
     Cycling s ∧ s.cyc.img.lgcStart.isSome = true ∧ s.lgc.lastTick ≠ s.cyc.img.lgcStart ∧ s.phaseAt 0 + 100000 ≤ 10100000 ∧ lgcState s.cfg.active = 2 ∧
       isLogicTick s.cfg.active s.cyc.pms (roundMs s.cyc.tickV) = true ∧ s.lgc.nextStart ≤ s.agreedTick ∧ s.lgc.cur = none) ∧
    (let s := lgcTick { data := [(0, 1), (2, 0xFFFFFFFF)] }
     (lgcCycle s.cfg.active 10100000 s.agreedTick (roundMs s.cyc.tickV) s.cyc.pms s.cyc.number false (fun _ => []) (fun _ => []) s.lgc).1.cur.any
       (fun c => decide (s.agreedTick + lgcPeriod s.cfg.active * s.cyc.pms * 1000000 < c.tc + s.cyc.pms * 200000)) = true) ∧
    lgcState up.cfg.active ≠ 2 ∧ ({ cur0 10101000 false with guard := true } : LgcCur).guard = true ∧
    (let s := lgcTick { cur := some (cur0 10101000 false) }
     s.lgc.cur = some (cur0 10101000 false) ∧ (cur0 10101000 false).complete = false ∧ s.cyc.ph.deadline = false ∧ s.grouped = false ∧ 10101000 ≤ s.outDeadline ∧
       s.lgc.zeroDue = false ∧ (cur0 10101000 false).tc ≤ s.logicDeadline ∧ s.cyc.pendingSet = none) ∧
    (({ first := false, lastTick := some 5 } : Lgc).first = false ∧ ({ first := false, lastTick := some 5 } : Lgc).lastTick = some 5) := by
  refine ⟨⟨⟨rfl, rfl⟩, by decide +kernel⟩, by decide +kernel, by decide, rfl, by decide +kernel, by decide⟩

theorem witness_LogicEngine_requests :
    Admitted up 0x60 (rq (zeros 12)) w0 h0 false ∧ 
    Admitted up 0x60 (rq (bs [1, 0, 4, 0, 0, 0, 0, 0, 0, 0, 0, 0, 9, 9, 9, 9])) w0 h0 false ∧
    (Admitted (lgcUp 0 lgcBuf) 0x60 (rq (bs [2] ++ zeros 11)) w0 h0 false ∧ lgcInstallCheck (lgcState (lgcUp 0 lgcBuf).cfg.active) (lgcUp 0 lgcBuf).lgc = none) ∧
    (Admitted up 0x60 (rq (bs [2] ++ zeros 11)) w0 h0 false ∧ lgcInstallCheck (lgcState up.cfg.active) up.lgc = some 1) ∧
    Admitted up 0x60 (rq (bs [3] ++ zeros 11)) w0 h0 false ∧
    (Admitted (lgcUp 0 {}) 0x61 (rq (zeros 4)) w0 h0 false ∧ lgcState (lgcUp 0 {}).cfg.active = 1) ∧
    (Admitted (lgcUp 1 {}) 0x62 (rq (zeros 4)) w0 h0 false ∧ lgcState (lgcUp 1 {}).cfg.active = 2) ∧ lgcState up.cfg.active = 0 ∧
    (let r := rq (bs [1] ++ zeros 7 ++ u32 4 ++ zeros 4)
     Admitted (lgcUp 1 {}) 0x63 r w0 h0 false ∧ (lgcTarget (lgcUp 1 {}).cfg.active 1 0 0 4).isSome = true) ∧
    (let r := rq (bs [1] ++ zeros 7 ++ u32 5 ++ zeros 4)
     Admitted (lgcUp 1 {}) 0x63 r w0 h0 false ∧ (lgcTarget (lgcUp 1 {}).cfg.active 1 0 0 5).isNone = true) ∧
    (let r := rq (bs [4] ++ zeros 3 ++ u32 0x24 ++ u16 4 ++ zeros 2)
     Admitted (lgcUp 1 {}) 0x64 r w0 h0 false ∧ 0x24 + 4 ≤ lgcRegionSize (lgcUp 1 {}).cfg.active 4) ∧
    (let r := rq (bs [4] ++ zeros 3 ++ u32 0x28 ++ u16 4 ++ zeros 2)
     Admitted (lgcUp 1 {}) 0x64 r w0 h0 false ∧ lgcRegionSize (lgcUp 1 {}).cfg.active 4 < 0x28 + 4) ∧
    (Admitted (lgcUp 1 {}) 0x65 (rq []) w0 h0 false ∧ lgcInstalled (lgcUp 1 {}).cfg.active = true) ∧ (Admitted up 0x65 (rq []) w0 h0 false ∧ lgcInstalled up.cfg.active = false) :=
  ⟨admitted (by decide), admitted (by decide), meets (by decide +kernel), meets (by decide), admitted (by decide), meets (by decide +kernel), meets (by decide +kernel),
    by decide, meets (by decide +kernel), meets (by decide +kernel), meets (by decide +kernel), meets (by decide +kernel), meets (by decide +kernel), meets (by decide)⟩

/-! The safety functions. -/

/-- A safety configuration of bytes at offsets. -/
def safCfg (xs : List (Nat × Nat)) : List Byte := xs.foldl (fun c x => c.set x.1 (byteOf x.2)) (zeros 512)

/-- Inputs 1 to 4 dual channel (4 in mode 2), 5 in mode 3; function 0 an emergency stop of inputs 1, 1 two-hand of 2 and 3, 2 of input 4 reset by function 1. -/
def saf0 : List Byte := safCfg [(0, 1), (16, 1), (18, 10), (24, 1), (26, 10), (32, 1), (34, 10), (40, 2), (42, 10), (48, 3), (50, 10),
  (80, 1), (81, 1), (83, 1), (88, 1), (92, 1), (96, 1), (100, 1),
  (128, 3), (129, 2), (130, 3), (136, 2),
  (176, 1), (177, 4), (179, 2), (180, 1), (184, 4)]

/-- The module with that safety configuration in another state of the evaluator. -/
def safUp (a : Saf) : State := { up with saf := { a with cfg := saf0, staging := saf0 } }

/-- A clear input. -/
def siOk : SiSt := { a := true, b := true, ea := true, eb := true, shown := false, demand := false, known := true }

/-- Readbacks that match outputs that are off. -/
def meas0 : SafMeas := ⟨0, 1100000, true⟩

/-- A property of a command's next state. -/
def after (o : Host.Outcome State Fault Refusal) (p : State → Bool) : Bool := match o with
  | .next x => p x
  | _ => false

theorem witness_SafetyEvaluator :
    ((safUp {}).saf.si[7]? = some ({} : SiSt) ∧ siMode saf0 8 = 0 ∧ siMode saf0 1 = 1 ∧ siMode saf0 4 = 2 ∧ siMode saf0 5 = 3 ∧ bits 0 0 2 = 0) ∧
    ({ siOk with a := false, lowA := some 0 } : SiSt).lowA = some 0 ∧
    (({ siOk with tp := 1 } : SiSt).short = 0 ∧ bits ({ siOk with tp := 1 } : SiSt).tp 0 1 = 1 ∧ bits ({ siOk with tp := 1 } : SiSt).sawLow 0 1 = 0 ∧
      after (exec (.safInputSample 1000000 0xFFFF 0) (safUp { si := { siOk with tp := 1 } :: List.replicate 7 siOk }))
        (fun x => decide ((x.saf.si.getD 0 {}).short ≠ 0)) = true) ∧
    after (exec (.safInputSample 1000000 0xFFFF 0) (safUp { si := { siOk with disc := true, disSince := some 0 } :: List.replicate 7 siOk }))
      (fun x => !(x.saf.si.getD 0 {}).disc) = true ∧
    (let a := (safUp { si := List.replicate 8 siOk }).saf
     a.pend = none ∧ a.intFlt = false ∧ a.fns.length = 8 ∧ ({ valid := true } : Aux).valid = true ∧ (∀ j, j < 8 → bits meas0.rb j 1 = bits a.so (j / 2) 1) ∧
       meas0.cfgOk = true ∧ meas0.dur ≤ 1100000 ∧ isTwoHand a.cfg 0 = false ∧ isTwoHand a.cfg 1 = true ∧ fnReset a.cfg 0 ≤ 2 ∧ fnType a.cfg 7 = 0 ∧
       ∀ k, k < 3 → ∀ i ∈ fnInputs a.cfg k, siFault (safSi a i) = false ∧ (safSi a i).demand = false) ∧
    (siFault { siOk with disc := true } = true ∧ ({} : SiSt).demand = true) ∧
    (let a : Saf := { si := List.replicate 8 siOk, fns := [{}, { armed := true }, { state := 1 }] ++ List.replicate 5 {} }
     let s : State := { safUp a with sup := { (safUp a).sup with auxS := { valid := true } } }
     fnReset s.saf.cfg 2 = 2 ∧ isTwoHand s.saf.cfg (fnResetFn s.saf.cfg 2) = true ∧ (s.saf.fns.getD 1 {}).state ≠ 2 ∧ (s.saf.fns.getD 2 {}).state = 1 ∧
       after (exec (.safCycle 1000000 meas0) s) (fun x => (x.saf.fns.getD 1 {}).state == 2 && (x.saf.fns.getD 2 {}).state == 2) = true) ∧
    (safUp { intFlt := true }).saf.intFlt = true ∧ ((⟨0, 1100001, false⟩ : SafMeas).cfgOk = false ∧ 1100000 < (⟨0, 1100001, false⟩ : SafMeas).dur) ∧
    (bits (⟨1, 0, true⟩ : SafMeas).rb 0 1 ≠ bits (safUp {}).saf.so (0 / 2) 1 ∧ bits (safUp {}).saf.soFlt (0 / 2) 1 = 0) ∧
    (safUp { pend := some ⟨saf0, 1, 3⟩ }).saf.pend = some ⟨saf0, 1, 3⟩ ∧ (safUp {}).saf.cons[3]? = some ({} : SafCons) ∧
    (({ failed := true, good := 1, bad := 1 } : SafCons).good < 2 ∧ ({ failed := true, good := 2, bad := 2 } : SafCons).failed = true ∧
      ({ bad := 2 } : SafCons).failed = false) ∧
    (bits (safUp { so := 8 }).saf.so 3 1 = 1 ∧ bits (safUp { so := 8 }).saf.soFlt 3 1 = 0) ∧
    ((⟨w0, 1, 0⟩ : SafSession).last + 600000000000 ≤ 600000000000 ∧ (safUp { lockUntil := some 5 }).saf.lockUntil = some 5) := by decide +kernel

/-- A user slot whose password is "1234". -/
def slot1 : SafPw := ⟨zeros 16, Config.passwordHash (zeros 16) (ascii ['1', '2', '3', '4'])⟩

/-- The evaluator with an open session of slot 1 of the host. -/
def logged (a : Saf) : State := safUp { a with sessions := [⟨w0, 1, 0⟩] }

def login (act slot target : Nat) : Rq := rq (bs [slot, act, target, 0] ++ ascii ['1', '2', '3', '4', '5', '6', '7', '8'] ++ ascii ['1', '2', '3', '4'] ++ zeros 4)

theorem witness_SafetyRequests_login :
    (Admitted (safUp { lockUntil := some 2000000 }) 0x90 (login 0 1 0) w0 h0 false ∧ safLocked 1000000 (safUp { lockUntil := some 2000000 }).saf = true) ∧
    (Admitted (safUp {}) 0x90 (login 0 1 0) w0 h0 false ∧ safLocked 1000000 (safUp {}).saf = false ∧
      safPwOk (safUp {}).saf 1 (pwText (slice (login 0 1 0).payload 4 8)) = false) ∧
    Admitted (safUp {}) 0x90 (login 1 1 0) w0 h0 false ∧
    (Admitted (logged {}) 0x90 (login 2 1 1) w0 h0 false ∧ safSession (logged {}).saf w0 = some ⟨w0, 1, 0⟩ ∧ pwValid (slice (login 2 1 1).payload 12 8) = true) ∧
    ((identOf (safUp {}).cfg.active (login 2 1 1).from_).map Prod.fst = some w0 ∧ safSession (safUp {}).saf w0 = none) ∧
    Admitted (logged {}) 0x90 (login 2 1 2) w0 h0 false ∧ Admitted (safUp {}) 0x90 (login 3 1 0) w0 h0 false :=
  ⟨meets (by decide), meets (by decide), admitted (by decide), meets (by decide), by decide, admitted (by decide), admitted (by decide)⟩

theorem witness_SafetyRequests_password :
    safPwOk (safUp { pws := [none, some slot1, none, none] }).saf 1 (pwText (ascii ['1', '2', '3', '4'] ++ zeros 4)) = true := by
  have h : pwText (ascii ['1', '2', '3', '4'] ++ zeros 4) = ascii ['1', '2', '3', '4'] := by decide
  simp [h, safPwOk, safUp, slot1]

theorem witness_SafetyRequests :
    (Admitted (logged {}) 0x91 (rq (u16 508 ++ u16 4 ++ zeros 4)) w0 h0 false ∧ (safSession (logged {}).saf w0).isSome = true ∧ 508 + 4 ≤ 512) ∧
    (Admitted (safUp {}) 0x91 (rq (u16 0 ++ u16 4 ++ zeros 4)) w0 h0 false ∧ (safUp {}).saf.sessions = []) ∧
    (Admitted (safUp {}) 0x92 (rq (zeros 4)) w0 h0 false ∧ (safUp {}).saf.sessions = []) ∧
    (Admitted (logged {}) 0x91 (rq (u16 509 ++ u16 4 ++ zeros 4)) w0 h0 false ∧ (safSession (logged {}).saf w0).isSome = true) ∧
    (let s := { logged {} with saf := { (logged {}).saf with staging := zeros 16 } }
     Admitted s 0x92 (rq (zeros 4)) w0 h0 false ∧ getU32 (rq (zeros 4)).payload 0 ≠ crc32c s.saf.staging) ∧
    (let s := { logged {} with saf := { (logged {}).saf with staging := zeros 16 } }
     Admitted s 0x92 (rq (u32 (crc32c (zeros 16)))) w0 h0 false ∧ s.ctl.mode = 0 ∧ safCheck s.cfg.active s.saf.staging = some (1, 0xFF)) ∧
    (let c := saf0.take 16
     let s := { logged {} with saf := { (logged {}).saf with staging := c } }
     Admitted s 0x92 (rq (u32 (crc32c c))) w0 h0 false ∧ getU32 (rq (u32 (crc32c c))).payload 0 = crc32c s.saf.staging ∧ s.ctl.mode = 0 ∧
       safCheck s.cfg.active s.saf.staging = none ∧ s.saf.pend = none) ∧ safCheck up.cfg.active saf0 = none ∧
    (Admitted (logged { log := [zeros 22] }) 0x93 (rq (u16 0 ++ u16 1)) w0 h0 false ∧ 0 + 1 ≤ (logged { log := [zeros 22] }).saf.log.length) ∧
    (Admitted (logged {}) 0x94 (rq (zeros 4)) w0 h0 false ∧ fnReset saf0 0 = 1 ∧
      ((logged { fns := List.replicate 8 { state := 1 } }).saf.fns.getD 0 {}).state = 1) ∧
    Admitted (logged {}) 0x94 (rq (bs [8, 0, 0, 0])) w0 h0 false ∧ (Admitted (logged {}) 0x93 (rq (u16 0 ++ u16 1)) w0 h0 false ∧ (logged {}).saf.log.length < 0 + 1) :=
  ⟨meets (by decide), meets (by decide), meets (by decide), meets (by decide), meets (by decide +kernel), meets (by decide +kernel), meets (by decide +kernel), by decide +kernel,
    meets (by decide), meets (by decide +kernel), admitted (by decide), meets (by decide)⟩

end Sys2Proof.Tests
end

