-- ==== Sys2Proof/Tests/WitnessRequests.lean ====
section
/-! SUPPORT. Witnesses for the statements about the numbered results, requests and host actions of fusion, control, allocation and servo, in the order of their
clauses. -/

namespace Sys2Proof.Tests

set_option Elab.async false

open Sys2Proof.Machine

/-- A state with results of every kind. -/
def withResults (r : List (Nat × List Byte)) : State := { up with chan := { up.chan with results := ⟨r, r, r, r, r⟩ } }

theorem witness_NumberedReads :
    (([(0x40, up.chan.results.fus), (0x34, up.chan.results.dp), (0x50, up.chan.results.alc), (0x52, up.chan.results.cq), (0xB0, up.chan.results.fix)].all
      (fun x => admits up x.1 (rq (u64 0)) && x.2 == [])) = true) ∧
    (Admitted (withResults [(9, []), (8, [])]) 0x40 (rq (u64 10)) w0 h0 false ∧ 9 < getU64 (rq (u64 10)).payload 0) ∧
    (Admitted (withResults [(9, []), (8, [])]) 0x40 (rq (u64 8)) w0 h0 false ∧ getU64 (rq (u64 8)).payload 0 ≤ 9 ∧
      [(9, ([] : List Byte)), (8, [])].find? (fun r => r.1 == 8) = some (8, [])) ∧
    (Admitted (withResults [(9, []), (8, [])]) 0x40 (rq (u64 7)) w0 h0 false ∧ [(9, ([] : List Byte)), (8, [])].find? (fun r => r.1 == 7) = none) :=
  ⟨by decide, meets (by decide), meets (by decide), meets (by decide)⟩

/-- Stream 0 enabled for injection, of type PREF. -/
def injCfg : State := upWith [(0x0800, 0, [1, 0x60, 0, 0, 0, 0, 0, 0, 0, 1, 10])]

theorem witness_FusionRequests :
    (Admitted up 0x41 (rq (u16 255 ++ u16 0)) w0 h0 false ∧ getU16 (rq (u16 255 ++ u16 0)).payload 0 ≤ 255) ∧
    (Admitted up 0x41 (rq (u16 256 ++ u16 0)) w0 h0 false ∧ 255 < getU16 (rq (u16 256 ++ u16 0)).payload 0) ∧
    (Admitted injCfg 0x42 (rq (u16 0 ++ bs [0, 0])) w0 h0 false ∧ actApplies 0 (streamNow injCfg.cfg.active injCfg.fus 0) = true) ∧
    (Admitted injCfg 0x42 (rq (u16 256 ++ bs [0, 0])) w0 h0 false ∧ 255 < getU16 (rq (u16 256 ++ bs [0, 0])).payload 0) ∧
    (Admitted injCfg 0x42 (rq (u16 0 ++ bs [2, 0])) w0 h0 false ∧ actApplies 2 (streamNow injCfg.cfg.active injCfg.fus 0) = false) ∧
    (Admitted injCfg 0x43 (rq (u16 0 ++ bs [0, 0] ++ u16 0 ++ u16 0)) w0 h0 false ∧ calOk injCfg.cfg.active injCfg.fus 0 0 = true) ∧
    (Admitted injCfg 0x43 (rq (u16 0 ++ bs [1, 0] ++ u16 0 ++ u16 0)) w0 h0 false ∧ calOk injCfg.cfg.active injCfg.fus 0 1 = false) ∧
    (Admitted injCfg 0x43 (rq (u16 0 ++ bs [3, 0] ++ u16 1 ++ u16 0)) w0 h0 false ∧ injCfg.txn? 1 = none) ∧
    (Admitted injCfg 0x44 (rq (u16 0 ++ u16 0 ++ u64 0 ++ zeros 24)) w0 h0 false ∧ strLink injCfg.cfg.active 0 = 0x60 ∧ strEnable injCfg.cfg.active 0 = true ∧
      strTimesrc injCfg.cfg.active 0 ≠ 1) ∧
    (Admitted up 0x44 (rq (u16 0 ++ u16 0 ++ u64 0 ++ zeros 24)) w0 h0 false ∧ strLink up.cfg.active 0 ≠ 0x60) :=
  ⟨meets (by decide), meets (by decide), meets (by decide), meets (by decide), meets (by decide), meets (by decide), meets (by decide), meets (by decide),
    meets (by decide), meets (by decide)⟩

/-- The host holds command. -/
def commands : State := { up with ctl := { holder := some (0, w0) } }

/-- Thruster 1 a tunnel, loop 0 closed. -/
def thrCfg : State := { upWith [(0x0A00, 0, [1, 0]), (0x0B00, 0, [2])] with srv := { loops := List.replicate 48 { state := 1 } } }

theorem witness_ControlRequests :
    (Admitted commands 0x30 (rq (bs [0, 0, 0, 0])) w0 h0 false ∧ commands.ctl.holder.map Prod.snd = some w0) ∧
    Admitted commands 0x31 (rq (zeros 24)) w0 h0 false ∧ Admitted commands 0x32 (rq (zeros 24)) w0 h0 false ∧ Admitted commands 0x33 (rq (zeros 8)) w0 h0 false ∧
    (Admitted up 0x30 (rq (bs [0, 0, 0, 0])) w0 h0 false ∧ up.ctl.holder.map Prod.snd ≠ some w0) ∧ Admitted up 0x35 (rq (bs [1, 0, 0, 0])) w0 h0 false ∧
    Admitted up 0x53 (rq (zeros 36)) w0 h0 false ∧
    (Admitted thrCfg 0x51 (rq (bs [1, 0, 0, 0])) w0 h0 false ∧ thrConfigured thrCfg.cfg.active 1 = true) ∧ Admitted thrCfg 0x51 (rq (bs [0, 0, 0, 0])) w0 h0 false ∧
    (Admitted thrCfg 0x51 (rq (bs [24, 0, 0, 0])) w0 h0 false ∧ thrConfigured thrCfg.cfg.active 24 = false) ∧
    (Admitted up 0x58 (rq (bs [47, 1, 0, 0])) w0 h0 false ∧ 1 ≤ getU8 (bs [47, 1, 0, 0]) 1 ∧ getU8 (bs [47, 1, 0, 0]) 0 + getU8 (bs [47, 1, 0, 0]) 1 ≤ 48) ∧
    (Admitted up 0x58 (rq (bs [47, 2, 0, 0])) w0 h0 false ∧ 48 < getU8 (bs [47, 2, 0, 0]) 0 + getU8 (bs [47, 2, 0, 0]) 1) ∧
    Admitted up 0x58 (rq (bs [0, 0, 0, 0])) w0 h0 false ∧
    (Admitted thrCfg 0x59 (rq (bs [0, 0, 0, 0] ++ zeros 512)) w0 h0 false ∧ srvMode thrCfg.cfg.active 0 = 2 ∧ (thrCfg.srv.loops.getD 0 {}).state = 1) ∧
    (Admitted thrCfg 0x59 (rq (bs [47, 0, 0, 0] ++ zeros 512)) w0 h0 false ∧ srvMode thrCfg.cfg.active 47 ≠ 2) :=
  ⟨meets (by decide), admitted (by decide), admitted (by decide), admitted (by decide), meets (by decide), admitted (by decide), admitted (by decide), meets (by decide),
    admitted (by decide), meets (by decide), meets (by decide), meets (by decide), admitted (by decide), meets (by decide +kernel), meets (by decide +kernel)⟩

/-- A host action of opcode `op` with a payload. -/
def act (op : Nat) (p : List Byte) (force : Bool) : Bnd := ⟨7, 0, op, p, w0, 0, 1, 0, force, false, 0, [], none, none⟩

theorem witness_TickActions :
    actApplies 0 (streamNow injCfg.cfg.active injCfg.fus 255) = false ∧ actApplies 0 (streamNow injCfg.cfg.active injCfg.fus 0) = true ∧
    (injectOk injCfg.cfg.active 0 0 = true ∧ ∀ a ∈ injCfg.cyc.answers, a.act.op = 0x44 → a.status = 0 → getU16 a.act.payload 0 ≠ 0) ∧
    (let s : State := { injCfg with cyc := { injCfg.cyc with answers := [⟨act 0x44 (u16 0 ++ zeros 34) false, 0, []⟩] } }
     injectOk s.cfg.active 0 0 = true ∧ ∃ a ∈ s.cyc.answers, a.act.op = 0x44 ∧ a.status = 0 ∧ getU16 a.act.payload 0 = 0) ∧
    (1 ≤ getU8 (bs [1, 0, 0, 0]) 0 ∧ thrConfigured thrCfg.cfg.active (getU8 (bs [1, 0, 0, 0]) 0) = true) ∧ thrCfg.alc.secs[7]? = some ({} : Section) := by decide

/-- In a mode, with command of the host. -/
def inMode (m : Nat) : State := { up with ctl := { holder := some (0, w0), mode := m } }

/-- A two-hand function that permits command but is not on. -/
def twoHand : State := { up with saf := { up.saf with cfg := zeros 80 ++ bs [3, 0, 0, 0, 0, 1] ++ zeros 426 } }

theorem witness_LawActions : ((act 0x35 (bs [0, 0, 0, 0]) false).pk = none ∧ up.strict = false) ∧
    (up.twoHandOk up.cyc.img = true ∧ up.ctl.holder = none) ∧ twoHand.twoHandOk twoHand.cyc.img = false ∧ ((act 0x35 (bs [0, 0, 0, 0]) true).force = true) ∧
    ((Ident.addr 1 1 : Ident) ≠ w0 ∧ ({ up with ctl := { holder := some (1, .addr 1 1) } } : State).ctl.holder = some (1, .addr 1 1)) ∧
    (inMode 1).ctl.holder.map Prod.snd = some (act 0x33 [] false).ident ∧ (inMode 1).ctl.mode ≠ 0 ∧ (inMode 0).ctl.mode = 0 ∧
    ((inMode 1).ctl.mode ≠ 2 ∧ (inMode 1).ctl.mode ≠ 3) ∧
    (let p := zeros 20 ++ bs [1, 0, 0, 0]
     (inMode 3).ctl.mode = 3 ∧ bits (getU8 p 20) 1 1 = 0 ∧ bits (getU8 p 20) 0 1 = 1 ∧
       (getS64 p 0 - (inMode 3).ctl.n) * (getS64 p 0 - (inMode 3).ctl.n) + (getS64 p 8 - (inMode 3).ctl.e) * (getS64 p 8 - (inMode 3).ctl.e) ≤
         (((cfgU32 (inMode 3).cfg.active 0x0902 12 : Nat) : Int) * 65536) * (((cfgU32 (inMode 3).cfg.active 0x0902 12 : Nat) : Int) * 65536)) ∧
    (up.ctl.mode = 0 ∧ up.fw.update = none ∧ up.red.handover = none ∧ up.red.size = 0) ∧ (getU8 (bs [1, 1, 0, 0]) 0 = 1 ∧ getU8 (bs [1, 1, 0, 0]) 1 ≤ 1) := by decide

end Sys2Proof.Tests
end

