-- ==== Sys2Proof/Tests/WitnessStarts.lean ====
section
/-! SUPPORT. Witnesses for the statements about starts, clocks, supply, firmware, the service monitor and the PK-20 frames, in the order of their clauses. -/

namespace Sys2Proof.Tests

set_option Elab.async false

open Sys2Proof.Machine

/-- The module with other clocks and power. -/
def clkUp (c : Clk) : State := { up with clk := c }

/-- A reset that is due. -/
def due (warm : Bool) (cause : Nat) : State := clkUp { up.clk with resetDue := some ⟨warm, 5, cause⟩ }

/-- What a core finds at a return of supply after a gap. -/
def found (gap : Option Nat) : PowerOn := ⟨gap, false, false, true, true, true, true, []⟩

theorem witness_Starts_reset :
    ((due false 0).clk.resetDue = some ⟨false, 5, 0⟩ ∧ ((due false 0).fw.img (due false 0).fw.preferB).state = .valid ∧ (due false 0).cyc.good = none ∧ (5 : Nat) ≤ 5) ∧
    (let s := { due true 2 with cyc := { (due true 2).cyc with good := some (up.sealOf 0 []) } }
     s.clk.resetDue = some ⟨true, 5, 2⟩ ∧ s.cyc.good = some (up.sealOf 0 []) ∧ s.fw.onTrial = false ∧ (s.fw.img s.fw.preferB).state = .valid ∧ ((up.sealOf 0 []).pers, (up.sealOf 0 []).profile) = (s.stored.1, profIn s.stored)) ∧
    (due false 1).clk.resetDue = some ⟨false, 5, 1⟩ ∧ up.clk.resetDue = none := ⟨by decide, ⟨rfl, rfl, rfl, rfl, by decide⟩, rfl, rfl⟩

theorem witness_Starts_power :
    ((clkUp { phase := .off }).clk.phase = .off ∧ ((clkUp {}).fw.img (clkUp {}).fw.preferB).state = .valid ∧ (found none).imgOk = true ∧ (clkUp {}).warmFrom (found none) = none) ∧
    ((found (some 5)).gap = some 5 ∧ ({ rideEnded := true } : Clk).rideEnded = true ∧ ({ rideEnded := true } : Clk).saveOk = false) ∧
    (let s := { clkUp { saveOk := true } with saved := some (up.sealOf 0 []), cyc := { up.cyc with good := some (up.sealOf 0 []) } }
     (found (some 10000000000)).gap = some 10000000000 ∧ s.saved = some (up.sealOf 0 []) ∧ s.clk.saveOk = true ∧
       ((up.sealOf 0 []).pers, (up.sealOf 0 []).profile) = (s.stored.1, profIn s.stored) ∧ (up.sealOf 0 []).cfgHash = s.keptCfg.hash ∧ s.fw.onTrial = false) ∧ up.clk.phase ≠ .off :=
  ⟨⟨rfl, by decide, rfl, rfl⟩, ⟨rfl, rfl, rfl⟩, ⟨rfl, rfl, rfl, by decide, rfl, rfl⟩, by decide⟩

/-- A module in its start. -/
def starting (k : StartKind) (r : Red) : State := { clkUp { phase := .starting, start := k } with sup := { up.sup with storeCharged := true }, red := r }

theorem witness_Starts :
    ((starting .cold up.red).clk.phase = .starting ∧ (starting .cold up.red).sup.storeCharged = true ∧ (starting .cold up.red).clk.start ≠ .warm ∧
      (starting .cold up.red).fw.rollback = none) ∧
    (let s := starting .warm { up.red with size := 2, modNum := 1 }
     s.red.size ≠ 0 ∧ s.red.modNum ≠ 0 ∧ s.fw.rollback = none) ∧ (up.clk.phase ≠ .starting ∧ (clkUp { phase := .starting }).sup.storeCharged = false) ∧
    (let s := starting .warm up.red
     s.clk.start = .warm ∧ s.red.size = 0 ∧ roundMs (s.vessel 10000000) % cyclePms s.cfg.active s.pers = 0 ∧ s.fw.rollback = none) ∧
    (let s := { clkUp { up.clk with op := 2, domains := List.replicate 6 { src := 2, lock := true } } with
       saf := { up.saf with evald := true }
       cyc := { up.cyc with tick := 5 } }
     s.clk.dpReady = false ∧ s.inCycle = true ∧ s.cyc.tick = 5 ∧ s.dpReadyOk = true ∧ s.clk.wakeReq = none) ∧
    (let s := { clkUp { up.clk with wakeReq := some 3 } with chan := { up.chan with opens := [{ id := 3, hostIdx := 0, ident := w0, seq := 1, tag := 1, op := 7, srcs := [], auth := false, t := 0, force := false }] } }
     s.clk.wakeReq = some 3 ∧ (s.opn? 3).isSome = true ∧ s.chan.ready = true) ∧ up.dpReadyOk = false := by decide +kernel

theorem witness_StartRequests :
    (let s := { up with
       red := { up.red with token := true }
       ctl := { up.ctl with mode := 3 } }
     Admitted s 0x03 (rq (zeros 4)) w0 h0 false ∧ s.red.token = true ∧ s.ctl.mode ≠ 0 ∧ (rq (zeros 4)).force = false) ∧
    (Admitted up 0x03 (rq (bs [1, 0, 0, 0])) w0 h0 false ∧ up.red.token = false) ∧ (Admitted up 0x06 (rq (zeros 4)) w0 h0 false ∧ up.standbyOk = true ∧ up.red.size = 0) ∧
    (let s := { up with red := { up.red with size := 2, role := .none } }
     Admitted s 0x06 (rq (zeros 4)) w0 h0 false ∧ s.standbyOk = true ∧ s.red.size ≠ 0 ∧ s.red.role = .none) ∧
    (let s := { up with ctl := { up.ctl with mode := 3 } }
     Admitted s 0x06 (rq (zeros 4)) w0 h0 false ∧ s.standbyOk = false) ∧
    (Admitted up 0x08 (rq (bs [1, 1, 0, 0])) w0 h0 false ∧ up.selectOk (bs [1, 1, 0, 0]) = true ∧ up.active = true) ∧
    (let s := { up with red := { up.red with size := 2, role := .standby } }
     Admitted s 0x08 (rq (bs [1, 1, 0, 0])) w0 h0 false ∧ s.selectOk (bs [1, 1, 0, 0]) = true ∧ s.active = false) ∧
    (Admitted up 0x08 (rq (bs [0, 1, 0, 0])) w0 h0 false ∧ up.selectOk (bs [0, 1, 0, 0]) = false) ∧ (Admitted up 0x07 (rq (zeros 4)) w0 h0 false ∧ up.clk.phase ≠ .standby) ∧
    (let s := clkUp { up.clk with phase := .standby }
     Admitted s 0x07 (rq (zeros 4)) w0 h0 false ∧ s.clk.phase = .standby ∧ s.clk.resetDue = none ∧ s.fw.trialNext = false) ∧
    (let s := { clkUp { up.clk with phase := .standby } with fw := { up.fw with imgA := { up.fw.imgA with state := .trial } } }
     Admitted s 0x07 (rq (zeros 4)) w0 h0 false ∧ s.clk.phase = .standby ∧ s.clk.resetDue = none ∧ s.fw.trialNext = true) :=
  ⟨meets (by decide), meets (by decide), meets (by decide), meets (by decide), meets (by decide), meets (by decide), meets (by decide), meets (by decide), meets (by decide),
    meets (by decide), meets (by decide)⟩

/-! Clocks and supply. -/

/-- A domain in which a PLL is locked or both are. -/
def dom0 (src : Nat) (a b : Bool) : Domain := { src := src, pllA := a, pllB := b }

def domUp (x : Domain) : State := clkUp { up.clk with domains := List.replicate 6 x }

/-- A feed that is valid. -/
def feed0 : Feed := { state := .valid, mv := 8499, prevMv := 8499, everValid := true }

theorem witness_ClocksAndSupply_clocks :
    up.clk.ref = .oven ∧ (({ ref := .ext } : Clk).ref ≠ .oven ∧ ({ ref := .ext } : Clk).ref = .ext) ∧ (({ extsel := true } : Clk).extsel = true ∧ ({ extsel := true } : Clk).ref ≠ .ext) ∧
    up.clk.extsel = false ∧ (({ ref := .rc } : Clk).ref = .rc ∧ 24999 ≤ 24999 ∧ 24999 ≤ 25001) ∧ up.clk.ref ≠ .rc ∧ 100 < (-101 : Int).natAbs ∧
    ((-100 : Int).natAbs ≤ 100 ∧ (5 : Nat) = up.clk.inBandSince.getD 5) ∧ up.clk.op = up.clk.opTarget ∧
    (let s := clkUp { up.clk with opTarget := 2 }
     s.clk.op ≠ s.clk.opTarget ∧ s.opMayBegin 9500000 = true ∧ s.clk.domains.length = 6 ∧ s.clk.opFrom = none ∧ s.opMayBegin 9499999 = false) ∧
    (26880 < (26881 : Int) ∧ up.clk.throttle = false) ∧
    ((24319 : Int) < 24320 ∧ ({ throttle := true } : Clk).throttle = true ∧ ({ throttle := true } : Clk).throttleAt + 60000000000 ≤ 60000000000) ∧
    ((domUp (dom0 2 true true)).dom 1 |>.locked false) = true ∧ (domUp (dom0 2 true true)).clk.domains.length = 6 ∧
    (((dom0 2 true true).src = (if false then 3 else 2)) ∧ ((dom0 2 true true).setLock false false).locked (!false) = true) ∧
    ((dom0 2 true false).setLock false false).locked (!false) = false ∧ (dom0 3 true true).src ≠ (if false then 3 else 2) ∧
    ((dom0 2 false false).locked false = false ∧ (dom0 2 false false).src ≠ 0) := by decide

theorem witness_ClocksAndSupply :
    (let u : Sup := { feedA := feed0, feedB := feed0 }
     up.clk.phase ≠ .off ∧ up.clk.rideMono = none ∧ (supSampled 5 24000 0 24000 0 u).powered = true ∧ u.powered = true ∧ (supSampled 5 0 0 0 0 u).powered = false ∧
       up.clk.phase = .running ∧ u.feedA.everValid = true ∧ feedValid u.feedA = true ∧ feedValid (supSampled 5 0 0 24000 0 u).feedA = false) ∧
    (({ rideMono := some 5 } : Clk).rideMono = some 5 ∧ ((50000005 : Nat) : Int) ≤ 5 + 50000000 ∧ (5 : Int) + 50000000 ≤ (50000005 : Nat)) ∧
    (let s := { up with cyc := { up.cyc with halt := false, ph := { began := true } } }
     s.inCycle = true ∧ s.cyc.halt = false ∧ s.cyc.ph.began = true ∧ s.cyc.ph.sealed = false ∧ s.cyc.unsealed = false) ∧
    (let s := { up with cyc := { up.cyc with halt := false, ph := { sealed := true } } }
     s.inCycle = true ∧ s.cyc.ph.sealed = true) ∧ (clkUp {}).inCycle = false ∧ up.clk.rideMono = none ∧ (clkUp { phase := .saving }).clk.phase = .saving ∧
    up.clk.phase ≠ .saving ∧ (({ valid := true } : Aux).valid = true ∧ ({} : Aux).valid = false) ∧
    (17920 < (17921 : Int) ∧ up.sup.hot = false ∧ ({ hot := true } : Sup).hot = true ∧ (-6401 : Int) < -6400 ∧ up.sup.coldBase = false ∧
      ({ coldBase := true } : Sup).coldBase = true) := by decide

/-! Firmware. -/

/-- The module with an update under way. -/
def fwUp (u : Option Update) : State := { up with fw := { up.fw with update := u } }

def upd0 : Update := ⟨true, 8, 4, 5⟩

theorem witness_FirmwareImages :
    (Admitted (fwUp none) 0xF1 (rq (zeros 8)) w0 h0 false ∧ (fwUp none).fw.update = none) ∧
    (Admitted (fwUp (some upd0)) 0xF1 (rq (zeros 8)) w0 h0 false ∧ (fwUp (some upd0)).fw.update.isSome = true) ∧
    (let r := rq (u32 4 ++ u16 4 ++ zeros 2 ++ bs [1, 2, 3, 4])
     Admitted (fwUp (some upd0)) 0xF2 r w0 h0 false ∧ (fwUp (some upd0)).fw.update = some upd0 ∧ ∀ y ∈ (fwUp (some upd0)).fw.written, 4 + 0 < y.1 ∨ y.2 ≤ 4 + 0) ∧
    (let r := rq (u32 4 ++ u16 4 ++ zeros 2 ++ bs [1, 2, 3, 4])
     Admitted (fwUp none) 0xF2 r w0 h0 false ∧ (fwUp none).fw.update = none) ∧
    (Admitted (fwUp none) 0xF3 (rq (zeros 4)) w0 h0 false ∧ (fwUp none).fw.update = none) ∧
    (Admitted (fwUp (some upd0)) 0xF3 (rq (bs [2, 0, 0, 0])) w0 h0 false ∧ getU8 (rq (bs [2, 0, 0, 0])).payload 0 = 2) ∧
    (Admitted (fwUp (some upd0)) 0xF3 (rq (bs [1, 0, 0, 0])) w0 h0 false ∧ (fwUp (some upd0)).ctl.mode = 0) ∧
    (upd0.last + 600000000000 ≤ 600000000005 ∧ 600000000004 < upd0.last + 600000000000) ∧
    (let f := { up.fw with
       trialDeadline := some 5
       imgB := { up.fw.imgA with state := .valid } }
     f.trialDeadline = some 5 ∧ (f.img (!f.runB)).state = .valid) ∧ ((up.fw.img (!up.fw.runB)).state = .empty ∧ ({ up.fw with trialDeadline := some 5 } : Fw).trialDeadline = some 5) ∧ up.fw.trialDeadline = none :=
  ⟨meets (by decide), meets (by decide), meets (by decide), meets (by decide), meets (by decide), meets (by decide), meets (by decide), by decide, by decide, by decide, rfl⟩

/-! The service monitor. -/

theorem witness_ServiceMonitor_access :
    ((∀ x ∈ [Cross.plain], x.lost = none) ∧ ∀ a ∈ statusWords ++ evtWords ++ [Reg.timStatus] ++ linkCounters, up.blockDown (blockOf a) = false) ∧
    (let s : State := clkUp { up.clk with domains := List.replicate 6 { src := 0 } }
     (∃ a ∈ linkCounters, s.blockDown (blockOf a) = true) ∧ s.chan.ready = true ∧ s.clk.phase = .running ∧ (regFind (cnt450 7)).isSome = true ∧
       s.blockDown (blockOf (cnt450 7)) = true ∧ blockOf (cnt450 7) ≠ 17) ∧
    ({ Cross.plain with lost := some false } : Cross).lost.isSome = true ∧ ((regFind 1) = none ∧ blockOf 1 ≠ 17) := by decide +kernel

theorem witness_ServiceMonitor : (up.chan.ready = true ∧ up.clk.phase = .running) ∧
    (up.blockDown (blockOf Reg.sysScratch) = false ∧ ∀ i < 1, (regFind (Reg.sysScratch + 4 * i)).isSome = true ∧ Reg.sysScratch + 4 * i ≠ Reg.mbxData + 28) ∧
    (0x0001 ∈ mbxIds ∧ up.blockDown (1 / 256) = false) ∧ 0 ∉ mbxIds ∧ (({ serviceEn := true } : Sup).serviceEn = true ∧ up.red.token = false) ∧ up.svc.service = false ∧
    ((regFind Reg.sysScratch).isSome = true ∧ blockOf Reg.sysScratch ∉ [3, 6, 7, 17, 19, 20] ∧ Reg.sysScratch ∉ eventRegs ∧
      Reg.sysScratch ∉ [Reg.sysStatus, Reg.sysXstall, Reg.sysWlostCount]) ∧ blockOf Reg.safStatus = 17 ∧ 63 % 64 ≠ 0 ∧ (up.fw.img false).state = .valid ∧
    (up.fw.img true).state ≠ .valid ∧ (({ mode := 3 } : Ctl).mode ≠ 0 ∧ ({ token := true } : Red).token = true) ∧
    ((65#8 : Byte) ≠ 8#8 ∧ (65#8 : Byte) ≠ 13#8 ∧ up.svc.line.length < 128) ∧ 128 ≤ ({ line := List.replicate 128 65#8 } : Svc).line.length ∧
    (readLine [65#8] = .bad ∧ lineWords [] [65#8] ≠ []) ∧ readLine (ascii ['h', 'e', 'l', 'p']) = .help ∧
    (let r := rq (u16 4 ++ zeros 2 ++ ascii ['h', 'e', 'l', 'p'])
     admits up 0xF0 r = true ∧ readLine (r.payload.drop 4) = .help) ∧
    (let r := rq (u16 4 ++ zeros 2 ++ ascii ['v', 'i', 'e', 'w'])
     admits up 0xF0 r = true ∧ readLine (r.payload.drop 4) = .view) ∧
    (let r := rq (u16 3 ++ zeros 2 ++ ascii ['k', 'a', 't'])
     admits up 0xF0 r = true ∧ readLine (r.payload.drop 4) = .kat) ∧
    (let r := rq (u16 1 ++ zeros 2 ++ ascii ['?'])
     admits up 0xF0 r = true ∧ readLine (r.payload.drop 4) = .bad) := by decide +kernel

/-! The PK-20 personality. -/

/-- The module in the PK-20 personality on serial port 1. -/
def pkUp (st : Bool) (k : Pk) : State :=
  { upWith [(0x0F00, 0, [0x31, 0, 1]), (0x0400, 0, [3])] with
    pers := .pk20
    profile := if st then .strict else .extended
    pk := k
    red := { up.red with token := true } }

/-- A frame of station "1" with data. -/
def frm (d : List Byte) : PkFrame := ⟨5, .serial 1, 0x31#8, d, true⟩

theorem witness_CompatibilityFrames_reads :
    let s := pkUp false { shown := some { psi := pkHeading 8998 }, inTick := some 5, wrote := some 4, reads := [(.serial 1, 3)] }
    (s.pkHears (frm []).src = true ∧ (frm []).data.length ≤ 200 ∧ (frm []).bccOk = true ∧ (frm []).station.toNat = cmpStation s.cfg.active) ∧
    (pkReadData 0x03 (frm []).data { psi := pkHeading 8998 }).isSome = true ∧ (s.pk.inTick = some 5 ∧ s.pk.wrote = some 4) ∧ ((frm []).src, 0x03) ∈ s.pk.reads ∧
    (frm []).src = .serial 1 ∧ cmpStation s.cfg.active = 0x31 ∧ pkReadData 0x03 [65#8] { psi := pkHeading 8998 } = none ∧ (s.profile == .strict) = false ∧
    ((pkUp true {}).profile == .strict) = true := by decide +kernel

theorem witness_CompatibilityFrames :
    (let s := pkUp true {}
     s.pkHears (.serial 1) = true ∧ pkSetAction true s.cfg.active 0x10 [51#8] = some (0x30, [byteOf 3, 0#8, 0#8, 0#8]) ∧ s.pk.waits = [] ∧
       pkSetAction true s.cfg.active 0x10 [52#8] = none) ∧
    (∃ w ∈ ({ waits := [⟨.serial 1, 0x10, 3⟩] } : Pk).waits, w.src = .serial 1 ∧ w.code = 0x10) ∧ (pkCodeOf 52#8 50#8 = some 0x42 ∧ 0x42 ∉ pkReadCodes ∧ 0x42 ∉ pkSetCodes) ∧
    pkCodeOf 71#8 50#8 = none ∧ up.pkHears (.serial 1) = false ∧ 200 < (frm (List.replicate 201 65#8)).data.length ∧ ({ frm [] with bccOk := false } : PkFrame).bccOk = false ∧
    ((pkUp true { inFrame := true }).pk.inFrame = true ∧ 0 + 100000000 < 100000001) ∧
    (let s := { pkUp true { held := some ({}, {}), inTick := some 5 } with cyc := { up.cyc with tick := 5 } }
     s.pers = .pk20 ∧ s.inCycle = true ∧ roundMs (s.vessel 120000000) % 200 = 120 ∧ s.red.size = 0 ∧ s.pk.inTick = some 5 ∧ s.pk.held = some ({}, {})) ∧
    (pkUp true {}).pk.held = none ∧ up.pers ≠ .pk20 := by decide +kernel

/-! The register file. -/

/-- A canonical file that is not empty, and a step from it. -/
theorem witness_RegistersStayCanonical : RegsCanonical (up.setReg Reg.sysScratch 7) ∧ (up.setReg Reg.sysScratch 7).regs ≠ [] ∧
    ∃ t, step (up.setReg Reg.sysScratch 7) = .next t := by
  refine ⟨?_, by decide, _, rfl⟩
  unfold RegsCanonical
  decide

end Sys2Proof.Tests
end

