-- ==== Sys2Proof/Tests/WitnessUnits.lean ====
section
/-! SUPPORT. Witnesses for the statements about the Chain, the recorder, the Time Unit and the GNSS baseband, in the order of their clauses. -/

namespace Sys2Proof.Tests

set_option Elab.async false

open Sys2Proof.Machine

/-! The Chain. -/

/-- Station 1 active with 4 bytes each way; a frame of cycle 9 is out on port A. -/
def fldOut : State :=
  { upWith [(0x0500, 0, [1])] with
    fld := { stations := { state := 3 } :: List.replicate 63 {}, cyc := 9, sent := [(1, 4, 4)], inFlight := true, outA := true } }

/-- The copy that returns, clean: header, then the datagram of station 1. -/
def copy1 (good : Bool) : ChainCopy :=
  ⟨false, false, good, 5000, 450001, zeros 4 ++ u32 9 ++ zeros 2 ++ u16 1 ++ u16 20 ++ zeros 2 ++ bs [1, 0, 4, 4, 1, 0, 0, 0] ++ u32 9 ++ zeros 8⟩

/-- Station 64 in flight, nothing returned. -/
def fld64 (got : List Datagram) : State :=
  { fldOut with fld := { fldOut.fld with stations := List.replicate 63 {} ++ [{ state := 3 }], sent := [(64, 0, 0)], gotA := got } }

theorem witness_ChainCycle :
    (fldOut.fld.inFlight = true ∧ fldOut.fld.sent = [(1, 4, 4)] ∧ fldOut.fld.stations[0]? = some { state := 3 } ∧ fldTopology fldOut.cfg.active = 1 ∧
      fldOut.fld.outA = true ∧ (copy1 true).fromB = false ∧ (copy1 true).onB = false ∧ (copy1 true).fcsOk = true ∧ (copy1 true).bytes.length = 16 + dgLen 4 4 ∧
      getU16 (copy1 true).bytes 12 = dgLen 4 4 ∧ getU16 (copy1 true).bytes 10 = 1 ∧ getU32 (copy1 true).bytes 4 = fldOut.fld.cyc ∧
      getU8 ((copy1 true).bytes.drop 16) 0 = 1 ∧ getU8 ((copy1 true).bytes.drop 16) 2 = 4 ∧ getU8 ((copy1 true).bytes.drop 16) 3 = 4 ∧
      getU8 ((copy1 true).bytes.drop 16) 4 = 1 ∧ getU32 ((copy1 true).bytes.drop 16) 8 = fldOut.fld.cyc ∧ 450000 < (copy1 true).rtt) ∧
    (copy1 false).fcsOk = false ∧
    ((fld64 [⟨64, 0, 9, [], 0⟩]).fld.gotA = [⟨64, 0, 9, [], 0⟩] ∧ (fld64 [⟨64, 0, 9, [], 0⟩]).fld.dup = [] ∧
      (fld64 [⟨64, 0, 9, [], 0⟩]).fld.stations[63]? = some { state := 3 } ∧ (fld64 [⟨64, 0, 9, [], 0⟩]).fld.sent = [(64, 0, 0)]) ∧
    ((fld64 []).fld.gotA = [] ∧ (fld64 []).fld.gotB = [] ∧ (fld64 []).fld.inFlight = true) := by decide

/-- A master of a line. -/
def fldMain (topology : Nat) (f : ChainSt) : State := { upWith [(0x0500, 0, [topology])] with fld := f, red := { up.red with token := true } }

theorem witness_ChainPorts : (up.fldMaster = false ∧ up.chan.ready = true ∧ (fldMain 1 {}).chan.ready = true) ∧ ((fldMain 1 {}).fldMaster = true ∧ fldTopology (fldMain 1 {}).cfg.active ≠ 0 ∧ (fldMain 1 {}).fld.nextScan ≤ 0) ∧
    (fldMain 1 { series := some ⟨7, 32, none, false⟩, nextScan := 5 }).fld.series.isSome = true ∧
    ((fldMain 1 { scanOut := true }).fld.scanOut = true ∧ (fldMain 1 { scanOut := true }).fld.series = none ∧ fldTopology (fldMain 1 { scanOut := true }).cfg.active = 1) ∧
    (up.fld.linkA ≠ true ∧ up.fld.linkB ≠ true) := by decide

theorem witness_ChainRequests : (Admitted up 0xD8 (rq (bs [1, 0, 0, 0])) w0 h0 false ∧ getU8 (rq (bs [1, 0, 0, 0])).payload 0 = 1) ∧
    (Admitted up 0xD8 (rq (bs [64, 0, 0, 0])) w0 h0 false ∧ getU8 (rq (bs [64, 0, 0, 0])).payload 0 = 64) ∧
    (Admitted up 0xD8 (rq (bs [0, 0, 0, 0])) w0 h0 false ∧ getU8 (rq (bs [0, 0, 0, 0])).payload 0 = 0) ∧
    (Admitted up 0xD8 (rq (bs [65, 0, 0, 0])) w0 h0 false ∧ 64 < getU8 (rq (bs [65, 0, 0, 0])).payload 0) ∧
    (Admitted (fldMain 1 {}) 0xD9 (rq (zeros 4)) w0 h0 false ∧ fldTopology (fldMain 1 {}).cfg.active ≠ 0 ∧ (fldMain 1 {}).fld.series = none) ∧
    (Admitted (fldMain 0 {}) 0xD9 (rq (zeros 4)) w0 h0 false ∧ fldTopology (fldMain 0 {}).cfg.active = 0) ∧
    (Admitted (fldMain 1 { series := some ⟨7, 32, none, false⟩ }) 0xD9 (rq (zeros 4)) w0 h0 false ∧ (fldMain 1 { series := some ⟨7, 32, none, false⟩ }).fld.series.isSome = true) :=
  ⟨meets (by decide), meets (by decide), meets (by decide), meets (by decide), meets (by decide), meets (by decide), meets (by decide)⟩

/-! The recorder. -/

/-- A record of the queue. -/
def rec0 (reply : Option Nat) : RecRec := ⟨1, 3, 0, 0, 1, 0, 0, [], 0, reply, 0⟩

/-- The recorder in another state, with logins as `f` makes them. -/
def recUp (r : Recorder) : State := { up with recd := r }

def pwUp (lock : Option Nat) (pws : List (Option SafPw)) : State := { up with saf := { up.saf with lockUntil := lock, pws := pws } }

/-- The payload of a REC_CLEAR of slot 1 with a password. -/
def clearP : List Byte := bs [1, 0, 0, 0] ++ ascii ['p', 'a', 's', 's'] ++ zeros 4

/-- Slot 1 holds that password. -/
def pwRight : List (Option SafPw) := [none, some ⟨[], Config.passwordHash [] (pwText (slice clearP 4 8))⟩, none, none]

theorem witness_RecorderRequests :
    (Admitted up 0x70 (rq (bs [3, 0, 0, 0] ++ u32 0)) w0 h0 false ∧ getU8 (rq (bs [3, 0, 0, 0] ++ u32 0)).payload 0 ≤ 3) ∧
    (Admitted up 0x70 (rq (bs [4, 0, 0, 0] ++ u32 0)) w0 h0 false ∧ 3 < getU8 (rq (bs [4, 0, 0, 0] ++ u32 0)).payload 0) ∧
    Admitted up 0x71 (rq (bs [21, 0, 0, 0])) w0 h0 false ∧
    (Admitted (pwUp none pwRight) 0x72 (rq clearP) w0 h0 false ∧ safLocked 1000000 (pwUp none pwRight).saf = false ∧
      safPwOk (pwUp none pwRight).saf 1 (pwText (slice clearP 4 8)) = true) ∧
    (Admitted (pwUp none [none, none, none, none]) 0x72 (rq clearP) w0 h0 false ∧ safPwOk (pwUp none [none, none, none, none]).saf 1 (pwText (slice clearP 4 8)) = false) ∧
    (Admitted (pwUp (some 1000001) pwRight) 0x72 (rq clearP) w0 h0 false ∧ safLocked 1000000 (pwUp (some 1000001) pwRight).saf = true) ∧
    (Admitted (recUp { queue := List.replicate 47 (rec0 none) }) 0x73 (rq (bs [3, 0, 0, 0] ++ zeros 16)) w0 h0 false ∧
      (recUp { queue := List.replicate 47 (rec0 none) }).recd.queue.length < 48) ∧
    (Admitted (recUp { queue := List.replicate 49 (rec0 none) }) 0x73 (rq (bs [3, 0, 0, 0] ++ zeros 16)) w0 h0 false ∧
      48 < (recUp { queue := List.replicate 49 (rec0 none) }).recd.queue.length) :=
  ⟨meets (by decide), meets (by decide), admitted (by decide), ⟨admitted (by decide), by decide, by simp [safPwOk, pwUp, pwRight]⟩, meets (by decide),
    meets (by decide), meets (by decide), meets (by decide)⟩

/-- The open REC_WRITE_USER of a record. -/
def recReply : State :=
  { recUp { queue := [rec0 (some 7)] } with chan := { up.chan with opens := [⟨7, 0, w0, 1, 0, 0x73, [(rq []).from_], false, 0, false⟩], nextId := 8 } }

/-- One record in slot 1 of a Head, of sequence 1. -/
def recOne (lost : Bool) : State :=
  { recUp { slots := [(1, ⟨zeros 64, lost⟩)], newest := 1, windowDue := some 0 } with regs := [(Reg.recCursor, 1#32)] }

theorem witness_RecorderWrites :
    ((recUp { queue := [rec0 none], dropped := 1 }).recd.queue = rec0 none :: [] ∧ (rec0 none).reply = none) ∧
    (4096 ≤ (recUp { newest := 4095 }).recd.newest + 1 - 0 ∧ (recUp { newest := 4094 }).recd.newest + 1 - 0 < 4096) ∧
    (recReply.recd.queue = rec0 (some 7) :: [] ∧ recReply.opn? 7 = some ⟨7, 0, w0, 1, 0, 0x73, [(rq []).from_], false, 0, false⟩ ∧ recReply.chan.ready = true) ∧
    (let c : Coalesce := ⟨60, 1000000, 2, some (rec0 none)⟩
     (recUp { coalesce := [c] }).recd.coalesce = [c] ∧ c.ends ≤ 1000000 ∧ c.first = some (rec0 none) ∧ (recUp { coalesce := [c] }).recd.queue.length < 64) ∧
    ((recOne false).recd.windowDue.isSome = true ∧ recHeld (recOne false).recd ((recOne false).reg Reg.recCursor) = true ∧
      recAt (recOne false).recd ((recOne false).reg Reg.recCursor) = some (zeros 64)) ∧
    recAt (recOne true).recd ((recOne true).reg Reg.recCursor) = none ∧
    ((recUp { windowDue := some 0 }).recd.windowDue.isSome = true ∧ recHeld { (recUp {}).recd with newest := 0 } 1 = false) := by decide

/-! The Time Unit. -/

/-- Inputs of the Time Unit at 10 s. -/
def tin : TimIn := up.timIn 10000000000

theorem witness_TimeMeasurement :
    (({} : Tim).base 1).state = .unset ∧ ((({ gnss := { state := .locked } } : Tim).base 1).state ≠ .unset ∧ (1000 : Int).natAbs ≤ 1000) ∧
    ((({ vessel := { state := .locked }, follow := 4 } : Tim).base 3).state ≠ .unset ∧ ({ vessel := { state := .locked }, follow := 4 } : Tim).follow = 4 ∧
      (1000000 : Int).natAbs ≤ 1000000) ∧
    ((({ net := { state := .jumpPending } } : Tim).base 2).state = .jumpPending ∧ 1000 < (1001 : Int).natAbs) ∧
    (let b := ({ gnss := { state := .locked, held := [1001] } } : Tim).base 1
     b.state ≠ .unset ∧ b.state ≠ .jumpPending ∧ 1000 < (1001 : Int).natAbs ∧ tripleOk 1000 (1001 :: b.held) = false) ∧
    (let b := ({ gnss := { state := .locked, held := [1001, 1001] } } : Tim).base 1
     tripleOk 1000 (1001 :: b.held) = true ∧ (1001 : Int).natAbs ≤ timJump tin.cfg 1) ∧
    (let b := ({ gnss := { state := .locked, held := [2000000, 2000000] } } : Tim).base 1
     tripleOk 1000 (2000000 :: b.held) = true ∧ timJump tin.cfg 1 < (2000000 : Int).natAbs) ∧
    (({ vessel := { pend := some (5, 0) } } : Tim).base 3).pend = some (5, 0) := by decide

/-- The Time Unit in another state at a configuration. -/
def timUp (xs : List (Nat × Nat × List Nat)) (m : Tim) : State := { upWith xs with tim := m }

/-- Host time as VESSEL's source, GNSS as alternate. -/
def hostCfg : List (Nat × Nat × List Nat) := [(0x0100, 0, [4, 1, 1, 0]), (0x0100, 20, [60, 0])]

theorem witness_TimeReferences :
    (let m : Tim := { gnss := { state := .locked } }
     m.follow ≠ 4 ∧ srcPresent up.cfg.active 10000000000 m m.follow = true ∧ m.vessel.state = .unset) ∧
    (({ vessel := { state := .locked } } : Tim).vessel.state ≠ .unset ∧ (timX { gnss := { state := .locked, ofs := 1000 * 2 ^ 32 } } 3 0 (timAt {} 1 0)).natAbs ≤ 1000) ∧
    (let m : Tim := { gnss := { state := .locked, lastRef := some 0 } }
     m.gnss.state = .locked ∧ m.gnss.lastRef = some 0 ∧ 0 + 3000000000 ≤ 3000000000) ∧
    (let s := timUp [(0x0101, 1, [1])] { ptp := { portState := 9 } }
     ptpRole s.cfg.active = 1 ∧ s.tim.ptp.portState = 9 ∧
       s.tim.ptp.lastAnnounce + ptpTimeout s.cfg.active * 10 ^ 9 * 2 ^ ptpLogAnnounce s.cfg.active ≤ 60000000000) ∧
    (let s := timUp hostCfg { gnss := { state := .locked }, follow := 4 }
     s.tim.onAlt = false ∧ s.tim.follow = timSrc s.cfg.active ∧ srcPresent s.cfg.active 0 s.tim (timSrc s.cfg.active) = false ∧ srcPresent s.cfg.active 0 s.tim (timAlt s.cfg.active) = true) ∧
    (let s := timUp hostCfg { onAlt := true, follow := 1, hostLast := some 60000000000 }
     s.tim.onAlt = true ∧ s.tim.follow = timAlt s.cfg.active ∧ timAlt s.cfg.active ≠ timSrc s.cfg.active ∧
       srcPresent s.cfg.active 60000000000 s.tim (timSrc s.cfg.active) = true ∧ srcLocked s.cfg.active 60000000000 s.tim (timSrc s.cfg.active) = some 0) ∧
    (({ vessel := { state := .holdover } } : Tim).eclipse = false ∧ ({ vessel := { state := .holdover } } : Tim).vessel.state = .holdover) ∧
    (let m : Tim := { gnss := { state := .jumpPending, ein := 1000000000 } }
     (m.base 1).alarm = false ∧ (m.base 1).state ≠ .unset ∧ (m.base 1).state ≠ .master ∧ timHoldAlarm up.cfg.active < timErrRaw tin m 1) ∧
    (let m : Tim := { gnss := { state := .locked, alarm := true } }
     (m.base 1).alarm = true ∧ timErrRaw tin m 1 ≤ timHoldAlarm up.cfg.active) ∧
    (up.tim.ppsEdge = none ∧ ({ ppsEdge := some 1 } : Tim).ppsEdge = some 1 ∧ (1 + 999990000 ≤ 1000010001 ∧ 1000010001 ≤ 1 + 1000010000) ∧ timGnssRef up.cfg.active ≠ 1 ∧
      ppsCable up.cfg.active = 0) ∧
    (¬ (1 + 999990000 ≤ 1000010002 ∧ 1000010002 ≤ 1 + 1000010000) ∧ 1000010002 < 1 + 3000000000) ∧
    (({ ppsEdge := some 1, ppsPresent := true } : Tim).ppsPresent = true ∧ 1 + 3000000000 ≤ 3000000001) ∧
    (let s := timUp [] { vessel := { state := .locked } }
     ppsDue (s.timIn 1000000000) s.tim 0 = true ∧ ppsDue (s.timIn 999999999) s.tim 0 = false ∧ s.tim.out1 = {} ∧ s.chan.ready = true ∧
       (∃ l, ({ edge := some 5, stepped := true } : PpsOut).edge = some l ∧ 600 < l + 500000000)) := by decide +kernel

/-- A module whose port is a SLAVE of a master. -/
def mst : PtpMaster := ⟨128, 6, 32, 0, 128, 9, 0, 0x20, 37, true⟩

def slaveUp (p : Ptp) : State := timUp [(0x0101, 1, [1])] { ptp := { p with portState := 8, master := some mst } }

/-- A message of that master on the module's port. -/
def msg (kind : Nat) : PtpMsg := ⟨false, 100, true, kind, 0, 9, 3, true, 0, 5, (ptpOwn (up.timIn 1000) up.tim).ident, mst⟩

theorem witness_PtpMessages :
    ptpRole up.cfg.active = 0 ∧
    (let cfg := (slaveUp {}).cfg.active
     ptpRole cfg ≠ 0 ∧ (msg 11).supported = true ∧ (msg 11).mbps ≠ 10 ∧ (msg 11).domain = ptpDomain cfg ∧ (msg 11).portB = (ptpPort cfg == 1) ∧ ptpRole cfg = 1) ∧
    ((timUp [(0x0101, 1, [1])] { ptp := { portState := 4 } }).tim.ptp.master = none ∧ (timUp [(0x0101, 1, [1])] { ptp := { portState := 4 } }).tim.ptp.portState ≠ 8) ∧
    ((slaveUp {}).tim.ptp.portState = 8 ∧ (slaveUp {}).tim.ptp.master = some mst ∧ mst.ident = (msg 0).sender ∧ (msg 0).twoStep = true) ∧
    ((slaveUp { syncRx := some (3, 7, 0) }).tim.ptp.syncRx = some ((msg 8).seq, 7, 0) ∧ (slaveUp { syncRx := some (3, 7, 0) }).tim.ptp.delay = none) ∧
    ((slaveUp { reqTx := some (3, 8), lastDown := some (5, 7) }).tim.ptp.reqTx = some ((msg 9).seq, 8) ∧
      (slaveUp { reqTx := some (3, 8), lastDown := some (5, 7) }).tim.ptp.lastDown = some (5, 7)) ∧
    (let s := timUp [(0x0101, 1, [2, 0, 1])] { ptp := { portState := 6 } }
     s.tim.ptp.portState = 6 ∧ bits (ptpFlags s.cfg.active) 0 1 = 1 ∧ s.tim.ptp.lastAnnounce + 10 ^ 9 * 2 ^ ptpLogAnnounce s.cfg.active ≤ 10000000000) ∧
    (up.tim.ptp.portState ≠ 6 ∧ (100 : Nat) ≠ 10) := by decide +kernel

/-- The Delay_Resp of the SLAVE's own request names its port. -/
theorem witness_PtpMessages_own : ({ msg 9 with req := (ptpOwn ((slaveUp {}).timIn 0) (slaveUp {}).tim).ident } : PtpMsg).req = (ptpOwn ((slaveUp {}).timIn 0) (slaveUp {}).tim).ident := rfl

theorem witness_TimeRequests : Admitted up 0x80 (rq []) w0 h0 false ∧
    (let s := timUp [(0x0100, 2, [1])] { ppsEdge := some 500000 }
     Admitted s 0x81 (rq (bs [0, 0, 0, 0] ++ u64 100)) w0 h0 false ∧ s.tim.ppsEdge = some 500000 ∧ timGnssRef s.cfg.active ≠ 0 ∧ (rq []).t ≤ 500000 + 1100000000 ∧
       s.tim.gnss.state = .unset) ∧
    (let s := timUp [(0x0100, 2, [1])] { ppsEdge := some 500000, gnss := { state := .locked } }
     s.tim.gnss.state ≠ .unset ∧ (timX s.tim 1 500000 500100).natAbs ≤ 1000) ∧
    (Admitted up 0x81 (rq (bs [0, 0, 0, 0] ++ u64 100)) w0 h0 false ∧ up.tim.ppsEdge = none) ∧
    (let s := timUp hostCfg { follow := 4 }
     Admitted s 0x81 (rq (bs [1, 0, 0, 0] ++ u64 100)) w0 h0 false ∧ timSrc s.cfg.active = 4 ∧ timHostTimeout s.cfg.active ≠ 0 ∧ s.tim.onAlt = false ∧ s.tim.follow = 4 ∧
       s.tim.vessel.state = .unset) ∧
    (Admitted up 0x81 (rq (bs [1, 0, 0, 0] ++ u64 100)) w0 h0 false ∧ timSrc up.cfg.active ≠ 4 ∧ timAlt up.cfg.active ≠ 4) ∧
    Admitted up 0x81 (rq (bs [2, 0, 0, 0] ++ u64 100)) w0 h0 false ∧
    (let s := timUp [] { vessel := { state := .jumpPending, x := 7 } }
     Admitted s 0x82 (rq (bs [3, 0, 0, 0] ++ u64 (7 + 1000000))) w0 h0 false ∧ (s.tim.base 3).state = .jumpPending ∧
       (signed 64 (getU64 (bs [3, 0, 0, 0] ++ u64 (7 + 1000000)) 4) - (s.tim.base 3).x).natAbs ≤ timJump s.cfg.active 3) ∧
    (let s := timUp [] { gnss := { state := .jumpPending, x := 7 } }
     Admitted s 0x82 (rq (bs [1, 0, 0, 0] ++ u64 (8 + 1000000))) w0 h0 false ∧
       timJump s.cfg.active 1 < (signed 64 (getU64 (bs [1, 0, 0, 0] ++ u64 (8 + 1000000)) 4) - (s.tim.base 1).x).natAbs) ∧
    Admitted up 0x82 (rq (bs [0, 0, 0, 0] ++ u64 0)) w0 h0 false ∧ Admitted up 0x82 (rq (bs [4, 0, 0, 0] ++ u64 0)) w0 h0 false ∧
    (Admitted up 0x82 (rq (bs [2, 0, 0, 0] ++ u64 0)) w0 h0 false ∧ (up.tim.base 2).state ≠ .jumpPending) :=
  ⟨admitted (by decide), meets (by decide), by decide, meets (by decide), meets (by decide), meets (by decide), admitted (by decide), meets (by decide),
    meets (by decide), admitted (by decide), admitted (by decide), meets (by decide)⟩

end Sys2Proof.Tests
end

/-! PROOFS. Status selectors (R529) and configuration transactions (R54 to R59): the rules of the units they read and change, one lemma per answer of a
handler, and the two statements from these. -/

namespace Sys2Proof.Machine

/-! A refusal at check 13 that leaves a changed state. -/

/-- A refusal is the reply without payload that counts it. -/
theorem State.execute_refuse {o : Opn} {src : Src} {s y : State} {status : Nat} {H : Opn → State → State × Resp}
    (h : H o { s with chan := { s.chan with opens := s.chan.opens ++ [o] } } = (y, .refuse status)) :
    State.execute o src H s = State.execute o src (fun _ _ => (y.cnt (fun n => { n with refused := satInc n.refused }), .reply status [])) s := by
  unfold State.execute; rw [h]

/-- As `Refuses.of`, where the handler has changed the state before it refuses. -/
theorem Replies.refused {c : Instr} {op : Nat} {rq : Rq} {s : State} {status : Nat} {u : Opn → State} {rs : List Nat}
    {H : Opn → State → State × Resp} (hc : exec c s = runAt rq.t (State.serve · op rq H) s)
    (hH : ∀ w h au x, Admitted s op rq w h au → Opened s x op rq w h au → ∃ y, H (requestOf s op rq w h au) x = (y, .refuse status) ∧
      Served rs (u (requestOf s op rq w h au)) y ∧ y.chan.opens = x.chan.opens)
    (hu : ∀ o, (u o).chan.ready = s.chan.ready ∧ (u o).pending = s.pending ∧ (u o).cfg.active = s.cfg.active ∧ (u o).red = s.red) :
    Replies c op rq s status [] (fun o => (u o).cnt (fun n => { n with refused := satInc n.refused })) rs := by
  intro w h au A
  obtain ⟨s3, B, e⟩ := State.serve_step A H
  obtain ⟨y, h1, h2, h3⟩ := hH w h au _ A ⟨s3, B, rfl⟩
  obtain ⟨k1, k2, k3, k4⟩ := hu (requestOf s op rq w h au)
  rw [State.execute_refuse h1] at e
  have r := State.replied (H := fun _ _ => (y.cnt (fun n => { n with refused := satInc n.refused }), .reply status [])) (s3 := s3) A rfl
    (h2.set_cnt _) (h3.trans (congrArg (· ++ [_]) B.opens)) (k1.trans A.ready) k2 k3 k4
  exact ⟨_, hc.trans e, r.1, r.2.1⟩

/-! GET_STATUS. -/

theorem statusH_refuses {rq : Rq} (h : 1 < getU8 rq.payload 0) (o : Opn) (s : State) : statusH rq o s = (s, .refuse st.wrongState) := by
  unfold statusH
  split
  · omega
  · omega
  · rfl

/-- Settles O4: the handler's third case leaves the state. -/
theorem statusSelectorRefused : Obligations.StatusSelectorRefused :=
  fun _ _ h => Refuses.of rfl (fun _ _ _ x _ _ => statusH_refuses h _ x)

/-! The transactions as a unit: what finds, touches and replaces them. -/

theorem State.txn?_eq_none {s : State} {k : Nat} : s.txn? k = none ↔ ∀ x ∈ s.cfg.txns, x.handle ≠ k := by
  simp [State.txn?]

theorem State.txn?_congr {s x : State} (h : x.cfg = s.cfg) (k : Nat) : x.txn? k = s.txn? k := by
  simp only [State.txn?, h]

@[simp] theorem State.setTxns_setTxns (s : State) (xs ys : List Txn) : (s.setTxns xs).setTxns ys = s.setTxns ys := rfl
@[simp] theorem State.setTxns_txns (s : State) (xs : List Txn) : (s.setTxns xs).cfg.txns = xs := rfl

/-- A transaction found before a touch is found after it, its last use moved. -/
theorem State.txn?_touchTxn {s : State} {k : Nat} {x : Txn} (h : s.txn? k = some x) (t : Nat) :
    (s.touchTxn t k).txn? k = some { x with lastUse := t } := by
  have hk : x.handle = k := by simpa using List.find?_some h
  have hp : ((fun y : Txn => y.handle == k) ∘ fun y => if y.handle = k then { y with lastUse := t } else y) = fun y => y.handle == k := by
    funext y; by_cases hy : y.handle = k <;> simp [hy]
  rw [State.txn?] at h ⊢
  rw [State.touchTxn, State.setTxns_txns, List.find?_map, hp, h, Option.map_some, if_pos hk]

/-- A touch of a handle that names no transaction changes nothing. -/
theorem State.touchTxn_of_none {s : State} {k : Nat} (h : s.txn? k = none) (t : Nat) : s.touchTxn t k = s := by
  have e : s.cfg.txns.map (fun y => if y.handle = k then { y with lastUse := t } else y) = s.cfg.txns :=
    (List.map_congr_left (fun y hy => if_neg (State.txn?_eq_none.1 h y hy))).trans (List.map_id' _)
  rw [State.touchTxn, e]; rfl

/-- A change of the named transaction after its touch is one change of the list. -/
theorem State.touchTxn_setTxns_map (s : State) (t k : Nat) (f : Txn → Txn) :
    (s.touchTxn t k).setTxns ((s.touchTxn t k).cfg.txns.map (fun y => if y.handle = k then f y else y)) =
      s.setTxns (s.cfg.txns.map (fun y => if y.handle = k then f { y with lastUse := t } else y)) := by
  rw [State.touchTxn, State.setTxns_setTxns, State.setTxns_txns, List.map_map]
  congr 2
  funext y
  by_cases hy : y.handle = k <;> simp [hy]

/-- A change of the transactions on both sides of a frame. -/
theorem Served.setTxns {rs : List Nat} {s x : State} (h : Served rs s x) (ts : List Txn) :
    Served rs { s with cfg := { s.cfg with txns := ts } } (x.setTxns ts) := by
  rw [State.setTxns, h.cfg]
  exact h.set_cfg _

/-- A host action queued on both sides of a frame. -/
theorem Served.queueBnd {rs : List Nat} {s x : State} (h : Served rs s x) (o : Opn) (rq : Rq) (base : Nat) (staged : Mem) :
    Served rs (s.queueBnd o rq base staged) (x.queueBnd o rq base staged) := by
  simp only [State.queueBnd, h.cyc]
  exact h.set_cyc _

/-- A request whose handler reads the configuration alone and answers with the transactions changed. -/
theorem Replies.ofTxns {c : Instr} {op : Nat} {rq : Rq} {s : State} {status : Nat} {data : List Byte} {H : Opn → State → State × Resp}
    (hc : exec c s = runAt rq.t (State.serve · op rq H) s) (ts : List Txn)
    (hH : ∀ o x, x.cfg = s.cfg → H o x = (x.setTxns ts, .reply status data)) :
    Replies c op rq s status data (fun _ => { s with cfg := { s.cfg with txns := ts } }) [] :=
  Replies.of hc (fun _ _ _ x _ O => ⟨x.setTxns ts, hH _ x (O.served []).cfg, (O.served []).setTxns ts, rfl⟩) (fun _ => ⟨rfl, rfl, rfl, rfl⟩)

/-- As `Replies.ofTxns`, of a refusal. -/
theorem Replies.refusedTxns {c : Instr} {op : Nat} {rq : Rq} {s : State} {status : Nat} {H : Opn → State → State × Resp}
    (hc : exec c s = runAt rq.t (State.serve · op rq H) s) (ts : List Txn)
    (hH : ∀ o x, x.cfg = s.cfg → H o x = (x.setTxns ts, .refuse status)) :
    Replies c op rq s status [] (fun _ => State.cnt { s with cfg := { s.cfg with txns := ts } } (fun n => { n with refused := satInc n.refused })) [] :=
  Replies.refused (u := fun _ => { s with cfg := { s.cfg with txns := ts } }) hc
    (fun _ _ _ x _ O => ⟨x.setTxns ts, hH _ x (O.served []).cfg, (O.served []).setTxns ts, rfl⟩) (fun _ => ⟨rfl, rfl, rfl, rfl⟩)

/-! The answers of the handlers. -/

/-- CFG_OPEN gives the lowest free handle (R54). -/
theorem cfgOpenH_opens {rq : Rq} {s : State} {i : Nat} (hn : s.cfg.txns.length < 4) (h1 : 1 ≤ i) (h4 : i ≤ 4) (hf : ∀ x ∈ s.cfg.txns, x.handle ≠ i)
    (hl : ∀ j, 1 ≤ j → j < i → ∃ x ∈ s.cfg.txns, x.handle = j) (o : Opn) :
    cfgOpenH rq o s = (s.setTxns (s.cfg.txns ++ [⟨i, s.cfg.hash, [], rq.t, false⟩]), .reply st.ok (u16 i ++ u16 0 ++ u32 s.cfg.hash)) := by
  obtain ⟨i, rfl⟩ : ∃ n, i = n + 1 := ⟨i - 1, by omega⟩
  have hfind : (List.range 5).find? (fun n => (s.txn? (n + 1)).isNone) = some i := by
    refine List.find?_range_eq_some.2 ⟨?_, List.mem_range.2 (by omega), fun j hj => ?_⟩
    · rw [State.txn?_eq_none.2 hf]; rfl
    · obtain ⟨x, hx, hxj⟩ := hl (j + 1) (by omega) (by omega)
      rw [Bool.not_eq_true', Option.isNone_eq_false_iff, Option.isSome_iff_ne_none]
      exact fun hnone => State.txn?_eq_none.1 hnone x hx hxj
  rw [cfgOpenH, if_neg (by omega), hfind]

theorem cfgOpenH_busy {rq : Rq} {s : State} (hn : 4 ≤ s.cfg.txns.length) (o : Opn) : cfgOpenH rq o s = (s, .refuse st.busy) := if_pos hn

/-- CFG_WRITE stages its bytes in an open transaction (R55). -/
theorem cfgWriteH_stages {rq : Rq} {s : State} {x : Txn} {size : Nat} (hx : s.txn? (getU16 rq.payload 0) = some x) (hc : x.committed = false)
    (hs : itemSize (getU16 rq.payload 2) = some size) (ho : itemClosed (getU16 rq.payload 2) = false)
    (hb : getU32 rq.payload 4 + (rq.payload.drop 12).length ≤ size)
    (hm : (stageBytes x.staged (cfgKey (getU16 rq.payload 2) (getU32 rq.payload 4)) (rq.payload.drop 12)).length ≤ 262144) (o : Opn) :
    cfgWriteH rq o s = (s.setTxns (s.cfg.txns.map (fun y => if y.handle = getU16 rq.payload 0 then
      { y with staged := stageBytes x.staged (cfgKey (getU16 rq.payload 2) (getU32 rq.payload 4)) (rq.payload.drop 12), lastUse := rq.t } else y)),
      .reply st.ok []) := by
  simp only [cfgWriteH, State.txn?_touchTxn hx, hc, hs, ho, Bool.false_eq_true, if_false, if_neg (Nat.not_lt.2 hb), stagingSpace,
    if_neg (Nat.not_lt.2 hm), State.touchTxn_setTxns_map]

/-- A committed transaction is closed to CFG_WRITE (R56), which its last use notes all the same. -/
theorem cfgWriteH_committed {rq : Rq} {s : State} {x : Txn} (hx : s.txn? (getU16 rq.payload 0) = some x) (hc : x.committed = true) (o : Opn) :
    cfgWriteH rq o s = (s.touchTxn rq.t (getU16 rq.payload 0), .refuse st.wrongState) := by
  simp only [cfgWriteH, State.txn?_touchTxn hx, hc, if_true, refuseWith]

/-- CFG_READ of a transaction returns what it stages over the active configuration (R55). -/
theorem cfgReadH_txn {rq : Rq} {s : State} {x : Txn} {size : Nat} (hx : s.txn? (getU16 rq.payload 0) = some x) (hk : getU16 rq.payload 0 ≠ 0xFFFF)
    (hs : itemSize (getU16 rq.payload 2) = some size) (hb : getU32 rq.payload 4 + getU16 rq.payload 8 ≤ size) (hi : getU16 rq.payload 2 ≠ 0x0021) (o : Opn) :
    cfgReadH rq o s = (s.touchTxn rq.t (getU16 rq.payload 0), .reply st.ok ((List.range (getU16 rq.payload 8)).map
      (fun i => stagedByte s.cfg.active x.staged (getU16 rq.payload 2) (getU32 rq.payload 4 + i)))) := by
  simp only [cfgReadH, State.txn?_touchTxn hx, if_neg hk, Option.map_some, hs, if_neg (Nat.not_lt.2 hb), if_neg hi]
  rfl

/-- CFG_READ of the active configuration (R55), whose keys read as zeros (R49). -/
theorem cfgReadH_active {rq : Rq} {s : State} {size : Nat} (hx : s.txn? (getU16 rq.payload 0) = none) (hk : getU16 rq.payload 0 = 0xFFFF)
    (hs : itemSize (getU16 rq.payload 2) = some size) (hb : getU32 rq.payload 4 + getU16 rq.payload 8 ≤ size) (o : Opn) :
    cfgReadH rq o s = (s, .reply st.ok (if getU16 rq.payload 2 = 0x0021 then zeros (getU16 rq.payload 8) else (List.range (getU16 rq.payload 8)).map
      (fun i => stagedByte s.cfg.active [] (getU16 rq.payload 2) (getU32 rq.payload 4 + i)))) := by
  simp only [cfgReadH, State.touchTxn_of_none hx, if_pos hk, hs, if_neg (Nat.not_lt.2 hb)]
  split <;> rfl

theorem cfgAbortH_closes {rq : Rq} {s : State} {x : Txn} (hx : s.txn? (getU16 rq.payload 0) = some x) (hc : x.committed = false) (o : Opn) :
    cfgAbortH rq o s = (s.closeTxn (getU16 rq.payload 0), .reply st.ok []) := by
  simp only [cfgAbortH, hx, hc, Bool.false_eq_true, if_false]

theorem cfgAbortH_committed {rq : Rq} {s : State} {x : Txn} (hx : s.txn? (getU16 rq.payload 0) = some x) (hc : x.committed = true) (o : Opn) :
    cfgAbortH rq o s = (s, .refuse st.wrongState) := by
  simp only [cfgAbortH, hx, hc, if_true, refuseWith]

/-- The checks of a commit read the configuration's hash and bytes and the mode of control. -/
theorem State.commitCheck_congr {s x : State} (h1 : x.cfg.hash = s.cfg.hash) (h2 : x.cfg.active = s.cfg.active) (h3 : x.ctl = s.ctl) (base : Nat) (staged : Mem) :
    x.commitCheck base staged = s.commitCheck base staged := by
  rw [State.commitCheck, State.commitCheck, State.txnStateOk, State.txnStateOk, h1, h2, h3]

/-- CFG_COMMIT of a transaction that passes its checks joins the host actions of the tick (R56). -/
theorem cfgCommitH_waits {rq : Rq} {s : State} {x : Txn} (hx : s.txn? (getU16 rq.payload 0) = some x) (hc : x.committed = false)
    (hk : s.commitCheck x.base x.staged = none) (o : Opn) :
    cfgCommitH rq o s = ((s.setTxns (s.cfg.txns.map (fun y => if y.handle = getU16 rq.payload 0 then
      { y with lastUse := rq.t, committed := true } else y))).queueBnd o rq x.base x.staged, .later) := by
  have hk' : (s.touchTxn rq.t (getU16 rq.payload 0)).commitCheck x.base x.staged = none :=
    (State.commitCheck_congr rfl rfl rfl x.base x.staged).trans hk
  simp only [cfgCommitH, State.txn?_touchTxn hx, hc, Bool.false_eq_true, if_false, hk', State.touchTxn_setTxns_map]

theorem cfgCommitH_committed {rq : Rq} {s : State} {x : Txn} (hx : s.txn? (getU16 rq.payload 0) = some x) (hc : x.committed = true) (o : Opn) :
    cfgCommitH rq o s = (s.touchTxn rq.t (getU16 rq.payload 0), .refuse st.wrongState) := by
  simp only [cfgCommitH, State.txn?_touchTxn hx, hc, if_true, refuseWith]

/-! The tick: no change of the active configuration moves a transaction, and a commit closes its own. -/

theorem Touches.cfg {s t : State} (h : Touches s t) : t.cfg = s.cfg := by
  obtain ⟨_, _, _, _, _, rfl, _⟩ := h; rfl

theorem State.join450_cfg (s : State) : s.join450.cfg = s.cfg := by
  unfold State.join450
  dsimp only
  split
  · rfl
  · refine (Touches.foldl _ (fun a p => ?_) _ s).cfg
    split
    · exact a.emit_touches _
    · exact .refl a

theorem State.rehost_cfg (s : State) (t : Nat) (new : Mem) : (s.rehost t new).cfg = s.cfg := by
  simp only [State.rehost, State.untrack, State.apply_cfg]

theorem State.regroup_cfg (s : State) (old new : Mem) : (s.regroup old new).cfg = s.cfg := by
  simp only [State.regroup, State.apply_cfg]

theorem State.rejoin_cfg (s : State) (old new : Mem) : (s.rejoin old new).cfg = s.cfg := by
  simp only [State.rejoin, State.apply_cfg]

theorem State.setConfig_txns (s : State) (new : Mem) : (s.setConfig new).cfg.txns = s.cfg.txns := by
  unfold State.setConfig
  dsimp only
  split <;> split <;> simp only [State.rehost_cfg, State.join450_cfg, State.rejoin_cfg, State.regroup_cfg, State.apply_cfg]

/-- A transaction's turn at the tick leaves the open transactions where what follows its application does. -/
theorem State.commitAt_txns {f : State → State} (hf : ∀ x, (f x).cfg.txns = x.cfg.txns) (s : State) (b : Bnd) (base : Nat) (staged : Mem) (ok : Bool) :
    (s.commitAt b base staged ok f).cfg.txns = s.cfg.txns := by
  unfold State.commitAt
  split
  · rfl
  · split
    · rfl
    · rw [hf, State.setConfig_txns]

/-- A commit's turn leaves the transactions of other handles (R57, R58). -/
theorem State.actCommit_txns (s : State) (b : Bnd) : (s.actCommit b).cfg.txns = s.cfg.txns.filter (fun x => x.handle != getU16 b.payload 0) :=
  State.commitAt_txns (f := fun x => x.settle b st.ok x.hashReply) (fun _ => rfl) (s.closeTxn (getU16 b.payload 0)) b b.base b.staged _

/-! Transactions without a request for 600 s (R59). -/

/-- Whether an open transaction has been without a request for 600 s. -/
def Txn.expired (t : Nat) (x : Txn) : Bool := !x.committed && decide (x.lastUse + 600000000000 ≤ t)

/-- What the expiry keeps. -/
theorem Txn.not_expired (t : Nat) (x : Txn) : (!x.expired t) = (x.committed || decide (t < x.lastUse + 600000000000)) := by
  rw [Txn.expired, Bool.not_and, Bool.not_not, ← decide_not, decide_eq_decide.2 Nat.not_le]

/-- The expiry keeps the other transactions and raises event 10 for each that goes. -/
theorem State.expireTxns_eq (s : State) (t : Nat) : s.expireTxns t =
    (s.setTxns (s.cfg.txns.filter (fun z => z.committed || decide (t < z.lastUse + 600000000000)))).apply t
      ((s.cfg.txns.filter (Txn.expired t)).map (fun x => .event 10 (u16 x.handle))) := by
  simp only [← Txn.not_expired]
  rfl

/-- Event 10 of each of some transactions writes the registers of events alone. -/
theorem fxWithin_event10 (xs : List Txn) : fxWithin [] (xs.map (fun x => .event 10 (u16 x.handle))) = true := by
  refine fxWithin_of (fun f hf a ha => .inl ?_)
  obtain ⟨x, -, rfl⟩ := List.mem_map.1 hf
  simp only [fxRegs, List.mem_cons, List.not_mem_nil, or_false] at ha
  obtain rfl | rfl | rfl | rfl := ha <;> decide

/-- CFG_TXN_EXPIRED discards the open transactions whose time has passed, with event 10 where there is one. -/
theorem cfgTxnExpired_step {s : State} {t : Nat} {x : Txn} (hx : x ∈ s.cfg.txns) (hc : x.committed = false) (ht : x.lastUse + 600000000000 ≤ t) :
    ∃ y, exec (.cfgTxnExpired t) s = .next y ∧ Latched y 10 ∧
      Calm [] { s with cfg := { s.cfg with txns := s.cfg.txns.filter (fun z => z.committed || decide (t < z.lastUse + 600000000000)) } } y := by
  have hold : x ∈ s.cfg.txns.filter (Txn.expired t) := List.mem_filter.2 ⟨hx, by simp [Txn.expired, hc, ht]⟩
  obtain ⟨y, h1, h2, h3, -⟩ := effect_step (s := s) (f := fun x => x.expireTxns t)
    (u := s.setTxns (s.cfg.txns.filter (fun z => z.committed || decide (t < z.lastUse + 600000000000)))) t _
    (State.expireTxns_eq { s with out := [] } t) (fxWithin_event10 _) rfl
  exact ⟨y, h1, h3 10 (by decide) (by simp [fxKeepsLatch]) (List.any_eq_true.2 ⟨_, List.mem_map_of_mem hold, rfl⟩), h2⟩

/-! The statement. -/

/-- Settles O14, clause by clause from the answers of the handlers, the commit's turn at the tick and the expiry. -/
theorem transactions : Obligations.Transactions := by
  refine ⟨fun s rq => ⟨?opens, ?full, ?writes, ?reads, ?readsActive, ?readsKeys, ?aborts, ?closed⟩, ?tick, fun s rq t x => ⟨?commits, cfgTxnExpired_step⟩⟩
  case opens =>
    intro i hn h1 h4 hf hl
    exact Replies.ofTxns rfl _ (fun o y hy => hy ▸ cfgOpenH_opens (hy ▸ hn) h1 h4 (hy ▸ hf) (hy ▸ hl) o)
  case full =>
    intro hn
    exact Refuses.of rfl (fun _ _ _ y _ O => cfgOpenH_busy ((O.served []).cfg ▸ hn) _)
  case writes =>
    intro x size hx hc hs ho hb hm
    exact Replies.ofTxns rfl _ (fun o y hy => hy ▸ cfgWriteH_stages ((State.txn?_congr hy _).trans hx) hc hs ho hb hm o)
  case reads =>
    intro x size hx hk hs hb hi
    exact Replies.ofTxns rfl _ (fun o y hy => hy ▸ cfgReadH_txn ((State.txn?_congr hy _).trans hx) hk hs hb hi o)
  case readsActive =>
    intro size hk hs hb hi hx
    refine Replies.read rfl (fun _ _ _ y _ O => ?_)
    have hy := (O.served []).cfg
    rw [cfgReadH_active ((State.txn?_congr hy _).trans hx) hk hs hb, if_neg hi, hy]
    rfl
  case readsKeys =>
    intro size hk hs hb hi hx
    refine Replies.read rfl (fun _ _ _ y _ O => ?_)
    rw [cfgReadH_active ((State.txn?_congr (O.served []).cfg _).trans hx) hk hs hb, if_pos hi]
    rfl
  case aborts =>
    intro x hx hc
    exact Replies.ofTxns rfl _ (fun o y hy => hy ▸ cfgAbortH_closes ((State.txn?_congr hy _).trans hx) hc o)
  case closed =>
    intro x hx hc
    refine ⟨Refuses.of rfl (fun _ _ _ y _ O => cfgAbortH_committed ((State.txn?_congr (O.served []).cfg _).trans hx) hc _), fun c op hm => ?_⟩
    obtain h | h : (c, op) = (.cfgWrite rq, 0x21) ∨ (c, op) = (.cfgCommit rq, 0x23) := by simpa using hm
    · obtain ⟨rfl, rfl⟩ := Prod.mk.inj h
      exact Replies.refusedTxns rfl _ (fun o y hy => hy ▸ cfgWriteH_committed ((State.txn?_congr hy _).trans hx) hc o)
    · obtain ⟨rfl, rfl⟩ := Prod.mk.inj h
      exact Replies.refusedTxns rfl _ (fun o y hy => hy ▸ cfgCommitH_committed ((State.txn?_congr hy _).trans hx) hc o)
  case tick =>
    intro s b hb y hy
    rw [State.applyTick, if_pos hb, State.actCommit_txns] at hy
    simpa using (List.mem_filter.1 hy).2
  case commits =>
    intro hx hc hk
    refine Accepts.of rfl (fun w h au y _ O => ?_) (fun _ => ⟨rfl, rfl, rfl, rfl⟩)
    have hy := (O.served []).cfg
    have hk' := (State.commitCheck_congr (congrArg Cfg.hash hy) (congrArg Cfg.active hy) (O.served []).ctl x.base x.staged).trans hk
    refine ⟨_, cfgCommitH_waits ((State.txn?_congr hy _).trans hx) hc hk' _, ?_, rfl⟩
    rw [hy]
    exact ((O.served []).setTxns _).queueBnd _ rq _ _

end Sys2Proof.Machine

/-! PROOFS. Requests of fusion (R112, R135 to R139, R530): what the handlers' checks ask, one lemma per answer of a handler, and the statement from these. -/

namespace Sys2Proof.Machine

/-! What the checks at acceptance ask. -/

/-- FUS_SET_STREAM_STATE applies to a stream in whose state its action has a meaning (R139). -/
theorem setStateOk_iff {cfg : Mem} {f : Fus} {n op : Nat} : setStateOk cfg f n op = true ↔ n ≤ 255 ∧ actApplies op (streamNow cfg f n) = true := by
  rw [setStateOk, Bool.and_eq_true, decide_eq_true_iff]

/-- FUS_INJECT applies to an enabled stream of the injection link, with a time of its own where the stream asks one (R112). -/
theorem injectOk_iff {cfg : Mem} {n own : Nat} :
    injectOk cfg n own = true ↔ n ≤ 255 ∧ strLink cfg n = 0x60 ∧ strEnable cfg n = true ∧ (strTimesrc cfg n = 1 → own ≠ 0) := by
  rw [injectOk, Bool.and_eq_true, Bool.and_eq_true, Bool.and_eq_true, decide_eq_true_iff, beq_iff_eq, Bool.not_eq_true', Bool.and_eq_false_imp, beq_iff_eq,
    beq_eq_false_iff_ne, and_assoc, and_assoc]

/-- A stream's counters are no registers of events. -/
theorem fusStrm_not_event {b n : Nat} (hb : b ∈ [Reg.fusStrmSamples, Reg.fusStrmLate, Reg.fusStrmDisc]) (hn : n ≤ 255) : b + 16 * n ∉ eventRegs := by
  have hr : ∀ a ∈ eventRegs, a < Reg.fusStrmSamples ∨ Reg.fusStrmDisc + 16 * 255 < a := by decide
  have hlow : Reg.fusStrmSamples ≤ b ∧ b ≤ Reg.fusStrmDisc := by
    revert b; decide
  intro ha
  have := hr _ ha
  omega

/-! The answers of the handlers. -/

theorem fusStreamH_reads {rq : Rq} {s x : State} (hx : Served [] s x) (hn : getU16 rq.payload 0 ≤ 255) (o : Opn) :
    fusStreamH rq o x = (x, .reply st.ok (streamReply s.cfg.active s.fus rq.t (getU16 rq.payload 0) (s.reg (Reg.fusStrmSamples + 16 * getU16 rq.payload 0))
      (s.reg (Reg.fusStrmLate + 16 * getU16 rq.payload 0)) (s.reg (Reg.fusStrmDisc + 16 * getU16 rq.payload 0)))) := by
  have hreg : ∀ b ∈ [Reg.fusStrmSamples, Reg.fusStrmLate, Reg.fusStrmDisc], x.reg (b + 16 * getU16 rq.payload 0) = s.reg (b + 16 * getU16 rq.payload 0) :=
    fun b hb => hx.2 _ (fusStrm_not_event hb hn) List.not_mem_nil
  have h1 := hreg Reg.fusStrmSamples List.mem_cons_self
  have h2 := hreg Reg.fusStrmLate (List.mem_cons_of_mem _ List.mem_cons_self)
  have h3 := hreg Reg.fusStrmDisc (List.mem_cons_of_mem _ (List.mem_cons_of_mem _ List.mem_cons_self))
  simp only [fusStreamH, if_neg (Nat.not_lt.2 hn), hx.cfg, hx.fus, h1, h2, h3]

theorem fusStreamH_refuses {rq : Rq} (hn : 255 < getU16 rq.payload 0) (o : Opn) (s : State) : fusStreamH rq o s = (s, .refuse st.wrongState) := if_pos hn

theorem fusStateH_waits {rq : Rq} {s : State} (h : setStateOk s.cfg.active s.fus (getU16 rq.payload 0) (getU8 rq.payload 2) = true) (o : Opn) :
    fusStateH rq o s = boundary rq o s := if_pos h

theorem fusStateH_refuses {rq : Rq} {s : State} (h : ¬ setStateOk s.cfg.active s.fus (getU16 rq.payload 0) (getU8 rq.payload 2) = true) (o : Opn) :
    fusStateH rq o s = (s, .refuse st.wrongState) := if_neg h

/-- FUS_CAL_CONTROL waits for the tick where it applies, ACCEPT with an open transaction (R137). -/
theorem fusCalH_waits {rq : Rq} {s : State} (h : calOk s.cfg.active s.fus (getU16 rq.payload 0) (getU8 rq.payload 2) = true)
    (ht : getU8 rq.payload 2 = 3 → ∃ x, s.txn? (getU16 rq.payload 4) = some x ∧ x.committed = false) (o : Opn) : fusCalH rq o s = boundary rq o s := by
  unfold fusCalH
  by_cases ha : getU8 rq.payload 2 = 3
  · obtain ⟨x, hx, hc⟩ := ht ha
    rw [ha] at h
    simp only [h, ha, hx, hc, bne_self_eq_false, Bool.not_false, Bool.or_true, Bool.and_true, if_true]
  · simp only [h, bne_iff_ne.2 ha, Bool.true_or, Bool.and_true, if_true]

theorem fusCalH_refuses {rq : Rq} {s : State} (h : calOk s.cfg.active s.fus (getU16 rq.payload 0) (getU8 rq.payload 2) = false) (o : Opn) :
    fusCalH rq o s = (s, .refuse st.wrongState) := by
  simp only [fusCalH, h, Bool.false_and, Bool.false_eq_true, if_false, refuseWith]

/-- ACCEPT of a handle that names no transaction is refused (R137). -/
theorem fusCalH_refuses_handle {rq : Rq} {s : State} (ha : getU8 rq.payload 2 = 3) (ht : s.txn? (getU16 rq.payload 4) = none) (o : Opn) :
    fusCalH rq o s = (s, .refuse st.wrongState) := by
  simp only [fusCalH, ha, ht, bne_self_eq_false, Bool.or_false, Bool.and_false, Bool.false_eq_true, if_false, refuseWith]

theorem fusInjectH_waits {rq : Rq} {s : State} (h : injectOk s.cfg.active (getU16 rq.payload 0) (getU64 rq.payload 4) = true) (o : Opn) :
    fusInjectH rq o s = boundary rq o s := if_pos h

theorem fusInjectH_refuses {rq : Rq} {s : State} (h : ¬ injectOk s.cfg.active (getU16 rq.payload 0) (getU64 rq.payload 4) = true) (o : Opn) :
    fusInjectH rq o s = (s, .refuse st.wrongState) := if_neg h

/-! Requests whose handler reads the configuration and the fusion unit alone. -/

theorem Waits.ofFusion {c : Instr} {op : Nat} {rq : Rq} {s : State} {H : Opn → State → State × Resp} (hc : exec c s = runAt rq.t (State.serve · op rq H) s)
    (hH : ∀ o x, x.cfg = s.cfg → x.fus = s.fus → H o x = boundary rq o x) : Waits c op rq s 0 [] :=
  Waits.of hc (fun _ _ _ x _ O => hH _ x (O.served []).cfg (O.served []).fus)

theorem Refuses.ofFusion {c : Instr} {op : Nat} {rq : Rq} {s : State} {status : Nat} {H : Opn → State → State × Resp}
    (hc : exec c s = runAt rq.t (State.serve · op rq H) s) (hH : ∀ o x, x.cfg = s.cfg → x.fus = s.fus → H o x = (x, .refuse status)) : Refuses c op rq s status :=
  Refuses.of hc (fun _ _ _ x _ O => hH _ x (O.served []).cfg (O.served []).fus)

/-- The rows of FUS_SET_STREAM_STATE run one handler. -/
theorem exec_fusSetStreamState {rq : Rq} {c : Instr} (hc : c ∈ [Instr.fusSetStreamStateDeselect rq, .fusSetStreamStateSelect rq, .fusSetStreamStateReadmit rq])
    (s : State) : exec c s = runAt rq.t (State.serve · 0x42 rq (fusStateH rq)) s := by
  simp only [List.mem_cons, List.not_mem_nil, or_false] at hc
  obtain rfl | rfl | rfl := hc <;> rfl

/-- The rows of FUS_CAL_CONTROL run one handler. -/
theorem exec_fusCalControl {rq : Rq} {c : Instr} (hc : c ∈ [Instr.fusCalControlStart rq, .fusCalControlFreeze rq, .fusCalControlResume rq,
      .fusCalControlAccept rq, .fusCalControlDiscard rq]) (s : State) : exec c s = runAt rq.t (State.serve · 0x43 rq (fusCalH rq)) s := by
  simp only [List.mem_cons, List.not_mem_nil, or_false] at hc
  obtain rfl | rfl | rfl | rfl | rfl := hc <;> rfl

/-! The statement. -/

/-- Settles O27, clause by clause from the answers of the handlers. -/
theorem fusionRequests : Obligations.FusionRequests := by
  refine fun s rq => ⟨?stream, ?noStream, fun c hc => ⟨?state, ?stateRefused⟩, fun c hc => ⟨?cal, ?calRefused, ?calHandle⟩, ?inject, ?injectRefused⟩
  case stream =>
    intro hn
    exact Replies.read rfl (fun _ _ _ x _ O => fusStreamH_reads (O.served []) hn _)
  case noStream =>
    intro hn
    exact Refuses.of rfl (fun _ _ _ x _ _ => fusStreamH_refuses hn _ x)
  case state =>
    intro hn ha
    have hok := setStateOk_iff.2 ⟨hn, ha⟩
    exact Waits.ofFusion (exec_fusSetStreamState hc s) (fun o x h1 h2 => fusStateH_waits (h1 ▸ h2 ▸ hok) o)
  case stateRefused =>
    intro h
    have hok : ¬ setStateOk s.cfg.active s.fus (getU16 rq.payload 0) (getU8 rq.payload 2) = true := by
      rw [setStateOk_iff]
      rintro ⟨hn, ha⟩
      obtain h | h := h
      · exact absurd hn (Nat.not_le.2 h)
      · exact Bool.false_ne_true (h.symm.trans ha)
    exact Refuses.ofFusion (exec_fusSetStreamState hc s) (fun o x h1 h2 => fusStateH_refuses (h1 ▸ h2 ▸ hok) o)
  case cal =>
    intro hok ht
    exact Waits.ofFusion (exec_fusCalControl hc s) (fun o x h1 h2 => fusCalH_waits (h1 ▸ h2 ▸ hok) (State.txn?_congr h1 _ ▸ ht) o)
  case calRefused =>
    intro hok
    exact Refuses.ofFusion (exec_fusCalControl hc s) (fun o x h1 h2 => fusCalH_refuses (h1 ▸ h2 ▸ hok) o)
  case calHandle =>
    intro ha ht
    exact Refuses.ofFusion (exec_fusCalControl hc s) (fun o x h1 _ => fusCalH_refuses_handle ha ((State.txn?_congr h1 _).trans ht) o)
  case inject =>
    intro hn hl he ht
    have hok := injectOk_iff.2 ⟨hn, hl, he, ht⟩
    exact Waits.ofFusion rfl (fun o x h1 _ => fusInjectH_waits (h1 ▸ hok) o)
  case injectRefused =>
    intro h
    have hok : ¬ injectOk s.cfg.active (getU16 rq.payload 0) (getU64 rq.payload 4) = true := by
      rw [injectOk_iff]
      rintro ⟨hn, hl, he, -⟩
      obtain h | h | h := h
      · exact absurd hn (Nat.not_le.2 h)
      · exact h hl
      · exact Bool.false_ne_true (h.symm.trans he)
    exact Refuses.ofFusion rfl (fun o x h1 _ => fusInjectH_refuses (h1 ▸ hok) o)

end Sys2Proof.Machine

/-! PROOFS. Requests of control, allocation and servo (R41, R146, R202, R235, R243): what SRV_TABLE_LOAD's check asks, one lemma per answer of a handler, and
the statement from these. -/

namespace Sys2Proof.Machine

/-! Who sends a request, and what its check asks. -/

/-- The sender of an admitted request is the host its source names. -/
theorem Admitted.ident_unique {s : State} {op op' : Nat} {rq : Rq} {w w' : Ident} {h h' : HostRec} {au au' : Bool} (A : Admitted s op rq w h au)
    (B : Admitted s op' rq w' h' au') : w = w' :=
  Option.some.inj (A.source.symm.trans B.source)

/-- SRV_TABLE_LOAD applies to a closed loop that is stopped (R235). -/
theorem State.tableOk_iff {s : State} {n : Nat} :
    s.tableOk n = true ↔ n ≤ 47 ∧ srvMode s.cfg.active n = 2 ∧ (s.srv.loops.getD n {}).state = 1 := by
  rw [State.tableOk, Bool.and_eq_true, Bool.and_eq_true, decide_eq_true_iff, beq_iff_eq, beq_iff_eq, and_assoc]

theorem State.tableOk_congr {s x : State} (hc : x.cfg = s.cfg) (hs : x.srv = s.srv) (n : Nat) : x.tableOk n = s.tableOk n := by
  simp only [State.tableOk, hc, hs]

/-! The answers of the handlers. -/

theorem dpHeldH_waits {rq : Rq} {o : Opn} {s : State} (h : s.ctl.holder.map Prod.snd = some o.ident) : dpHeldH rq o s = boundary rq o s := if_pos h

theorem dpHeldH_refuses {rq : Rq} {o : Opn} {s : State} (h : s.ctl.holder.map Prod.snd ≠ some o.ident) : dpHeldH rq o s = (s, .refuse st.wrongState) :=
  if_neg h

theorem alcThrH_waits {rq : Rq} {s : State} (h1 : 1 ≤ getU8 rq.payload 0) (h24 : getU8 rq.payload 0 ≤ 24)
    (hc : thrConfigured s.cfg.active (getU8 rq.payload 0) = true) (o : Opn) : alcThrH rq o s = boundary rq o s := by
  refine if_neg ?_
  rintro (h | h | h)
  · omega
  · omega
  · rw [hc] at h
    exact Bool.false_ne_true h

theorem alcThrH_refuses {rq : Rq} {s : State}
    (h : getU8 rq.payload 0 = 0 ∨ 24 < getU8 rq.payload 0 ∨ thrConfigured s.cfg.active (getU8 rq.payload 0) = false) (o : Opn) :
    alcThrH rq o s = (s, .refuse st.wrongState) :=
  if_pos (h.imp_right (Or.imp_right (fun hc => by rw [hc]; rfl)))

theorem srvStateH_reads {rq : Rq} (h1 : 1 ≤ getU8 rq.payload 1) (h48 : getU8 rq.payload 0 + getU8 rq.payload 1 ≤ 48) (o : Opn) (s : State) :
    srvStateH rq o s = (s, .reply st.ok
      (u64 s.srv.tick ++ (List.range (getU8 rq.payload 1)).flatMap (fun i => srvBytes (s.srv.loops.getD (getU8 rq.payload 0 + i) {})))) :=
  if_neg (by omega)

theorem srvStateH_refuses {rq : Rq} (h : getU8 rq.payload 1 = 0 ∨ 48 < getU8 rq.payload 0 + getU8 rq.payload 1) (o : Opn) (s : State) :
    srvStateH rq o s = (s, .refuse st.wrongState) := if_pos h

theorem srvTableH_waits {rq : Rq} {s : State} (h : s.tableOk (getU8 rq.payload 0) = true) (o : Opn) :
    srvTableH rq o s =
      (s.queueBnd o rq s.cfg.hash (stageBytes [] (cfgKey (0x0B10 + getU8 rq.payload 0) 0) (slice rq.payload 4 512)), .later) := if_pos h

theorem srvTableH_refuses {rq : Rq} {s : State} (h : ¬ s.tableOk (getU8 rq.payload 0) = true) (o : Opn) :
    srvTableH rq o s = (s, .refuse st.wrongState) := if_neg h

/-! Commands that share a handler. -/

/-- The DP commands of the command holder run one handler. -/
theorem exec_dpHeld {rq : Rq} {c : Instr} {op : Nat}
    (hc : (c, op) ∈ [(Instr.dpSetMode rq, 0x30), (.dpSetTarget rq, 0x31), (.dpTraverse rq, 0x32), (.dpJoystick rq, 0x33)]) (s : State) :
    exec c s = runAt rq.t (State.serve · op rq (dpHeldH rq)) s := by
  simp only [List.mem_cons, Prod.mk.injEq, List.not_mem_nil, or_false] at hc
  obtain ⟨rfl, rfl⟩ | ⟨rfl, rfl⟩ | ⟨rfl, rfl⟩ | ⟨rfl, rfl⟩ := hc <;> rfl

/-- The rows of ALC_SET_THRUSTER_STATE run one handler. -/
theorem exec_alcSetThrusterState {rq : Rq} {c : Instr} (hc : c ∈ [Instr.alcSetThrusterStateDisable rq, .alcSetThrusterStateEnable rq]) (s : State) :
    exec c s = runAt rq.t (State.serve · 0x51 rq (alcThrH rq)) s := by
  simp only [List.mem_cons, List.not_mem_nil, or_false] at hc
  obtain rfl | rfl := hc <;> rfl

/-- A request without a check at acceptance waits for the tick (R41). -/
theorem Waits.ofBoundary {c : Instr} {op : Nat} {rq : Rq} {s : State} (hc : exec c s = runAt rq.t (State.serve · op rq (boundary rq)) s) :
    Waits c op rq s 0 [] :=
  Waits.of hc (fun _ _ _ _ _ _ => rfl)

/-- A DP command whose sender holds command waits for the tick (R146). -/
theorem Waits.ofHolder {c : Instr} {op : Nat} {rq : Rq} {s : State} {w : Ident} {h : HostRec} {au : Bool}
    (hc : exec c s = runAt rq.t (State.serve · op rq (dpHeldH rq)) s) (A : Admitted s op rq w h au) (hw : s.ctl.holder.map Prod.snd = some w) :
    Waits c op rq s 0 [] := by
  refine Waits.of hc (fun w' h' au' x B O => dpHeldH_waits ?_)
  rw [(O.served []).ctl, hw]
  exact congrArg some (A.ident_unique B)

/-- A DP command whose sender does not hold command is refused (R146). -/
theorem Refuses.ofOther {c : Instr} {op : Nat} {rq : Rq} {s : State} {w : Ident} {h : HostRec} {au : Bool}
    (hc : exec c s = runAt rq.t (State.serve · op rq (dpHeldH rq)) s) (A : Admitted s op rq w h au) (hw : s.ctl.holder.map Prod.snd ≠ some w) :
    Refuses c op rq s st.wrongState := by
  refine Refuses.of hc (fun w' h' au' x B O => dpHeldH_refuses ?_)
  rw [(O.served []).ctl]
  exact fun e => hw (e.trans (congrArg some (B.ident_unique A)))

/-! The statement. -/

/-- Settles O28, clause by clause from the answers of the handlers. -/
theorem controlRequests : Obligations.ControlRequests := by
  refine fun s rq => ⟨fun c op hc w h au A => ⟨?held, ?other⟩, Waits.ofBoundary rfl, Waits.ofBoundary rfl, Waits.ofBoundary rfl,
    fun c hc => ⟨?thruster, ?noThruster⟩, ?loops, ?noLoops, ?table, ?tableRefused⟩
  case held =>
    intro hw
    exact Waits.ofHolder (exec_dpHeld hc s) A hw w h au A
  case other =>
    intro hw
    exact Refuses.ofOther (exec_dpHeld hc s) A hw w h au A
  case thruster =>
    intro h1 h24 hthr
    exact Waits.of (exec_alcSetThrusterState hc s) (fun _ _ _ x _ O => alcThrH_waits h1 h24 ((O.served []).cfg ▸ hthr) _)
  case noThruster =>
    intro hno
    exact Refuses.of (exec_alcSetThrusterState hc s) (fun _ _ _ x _ O => alcThrH_refuses ((O.served []).cfg ▸ hno) _)
  case loops =>
    intro h1 h48
    exact Replies.read rfl (fun _ _ _ x _ O => (O.served []).srv ▸ srvStateH_reads h1 h48 _ x)
  case noLoops =>
    intro hno
    exact Refuses.of rfl (fun _ _ _ x _ _ => srvStateH_refuses hno _ x)
  case table =>
    intro h47 hm hst
    have hok := State.tableOk_iff.2 ⟨h47, hm, hst⟩
    refine Waits.of rfl (fun _ _ _ x _ O => ?_)
    have hx := srvTableH_waits ((State.tableOk_congr (O.served []).cfg (O.served []).srv _).trans hok)
    rw [(O.served []).cfg] at hx
    exact hx _
  case tableRefused =>
    intro hno
    have hok : ¬ s.tableOk (getU8 rq.payload 0) = true := by
      rw [State.tableOk_iff]
      rintro ⟨h47, hm, hst⟩
      obtain hno | hno | hno := hno
      · exact absurd h47 (Nat.not_le.2 hno)
      · exact hno hm
      · exact hno hst
    refine Refuses.of rfl (fun _ _ _ x _ O => srvTableH_refuses ?_ _)
    rwa [State.tableOk_congr (O.served []).cfg (O.served []).srv]

end Sys2Proof.Machine
